-- ==== Sys2Proof/Word.lean ====
section
/-! DEFINITION. The plain words of the director: bytes, addresses, the numbers of its parts, sets carried in words, and
fixed-size tables indexed by those numbers. -/

namespace Sys2Proof

/-- A byte of a message or of a target access. -/
abbrev Byte := BitVec 8

/-- A byte address, 0 to 16,777,215 (00_scope.md, Conventions). -/
abbrev Addr := BitVec 24

/-- A bit address, 0 to 511, that is station × 32 + position (R106). -/
abbrev BitAddr := BitVec 9

/-- A set of positions of a station, or 32 logical or pin values: bit k stands for position k (R163). -/
abbrev Positions := BitVec 32

/-- A set of initiators: bit k stands for initiator k (R163). -/
abbrev InitiatorSet := BitVec 8

/-- An initiator, 0 to 7. -/
abbrev Initiator := Fin 8

/-- A tag, 0 to 7; with the initiator it is a request's key. -/
abbrev Tag := Fin 8

/-- A region entry, 0 to 47. -/
abbrev EntryId := Fin 48

/-- A transaction slot, 0 to 31. -/
abbrev SlotId := Fin 32

/-- A target port, P0 to P3. -/
abbrev PortId := Fin 4

/-- A station of the bit line, 0 to 15. -/
abbrev StationId := Fin 16

/-- A table with one row for each number below `n`. -/
abbrev Table (n : Nat) (α : Type) := Vector α n

/-- The row of a table at an index. -/
def row {n : Nat} {α : Type} (t : Table n α) (i : Fin n) : α := t[i]

/-- The table with one row replaced. -/
def putRow {n : Nat} {α : Type} (t : Table n α) (i : Fin n) (x : α) : Table n α := t.set i x

/-- Every row of a table holds the same value. -/
def uniform (n : Nat) {α : Type} (x : α) : Table n α := Vector.replicate n x

/-- Membership of an initiator in a set of initiators. -/
def InitiatorSet.has (s : InitiatorSet) (i : Initiator) : Bool := s.getLsbD i.val

/-- The set that holds one initiator alone. -/
def InitiatorSet.single (i : Initiator) : InitiatorSet := BitVec.ofNat 8 (2 ^ i.val)

/-- The initiator that three strap pins name: STRAP2 has weight 4, STRAP1 weight 2, STRAP0 weight 1 (R165). -/
def strapValue (pins : BitVec 3) : Initiator := ⟨pins.toNat, pins.isLt⟩

end Sys2Proof
end

