-- ==== Sys2Proof/Config.lean ====
section
/-! DEFINITION. The part's fixed quantities (00_scope.md, Principal quantities, and the rules cited), and the one family of
free values: the message bits whose value the layouts of R163 leave unstated. -/

namespace Sys2Proof.Config

/-- R155: the receive buffer holds up to two well-formed frames. -/
def receiveBufferFrames : Nat := 2

/-- R156: a received frame is taken only while the outbound list holds fewer than this many messages. -/
def takeBelow : Nat := 16

/-- R155: the smallest body a frame carries. -/
def minBody : Nat := 2

/-- R155: the largest body a frame carries. -/
def maxBody : Nat := 48

/-- R44: the lock lifetime after power-on reset, in µs. -/
def defaultLockLifetime : Nat := 64

/-- R44: the hold limit after power-on reset, in units of 10 µs; 0 means no limit. -/
def defaultHoldLimit : Nat := 0

/-- R127: the ack window after power-on reset, in units of 100 µs. -/
def defaultAckWindow : Nat := 10

/-- R130: resends of one message before it stalls. -/
def maxResends : Nat := 3

/-- R92, R94: the largest member count a chain context holds. -/
def maxChainMembers : Nat := 255

/-- R96: the ordinal recorded for a CHAINLONG refusal. -/
def chainLongOrdinal : Nat := 256

/-- R124: the value at which an incident count stays. -/
def maxIncidentCount : Nat := 65535

/-- R107: the timeout count at which a station is lost. -/
def lostAfterTimeouts : Nat := 2

/-- R109: the line timeout in µs, with which the line timer of every operation is started. -/
def lineTimeout : Nat := 20

/-- R1: the last byte address. -/
def lastAddress : Nat := 16777215

/-- R1, R2: windows start and end on multiples of this many bytes. -/
def blockBytes : Nat := 256

/-- FREE VALUE, assumption log entry 12. Byte `k` of the bits that R163 leaves unstated in the frame numbered `n`. It has no
body: nothing is known of it, and no statement may rest on it. -/
opaque freeByte : (n : Nat) → (k : Nat) → BitVec 8

end Sys2Proof.Config
end

