-- ==== Sys2Proof/Syntax.lean ====
section
/-! DEFINITION. The commands of the director: one constructor for each row of spec/opcode_table.json. A command that is a
received message carries the message's body as R163 lays it out: for a request the header of its second byte, and then every
byte after it, so that a malformed request (R26) is a command too. -/

namespace Sys2Proof

/-- The chain mark in bits 1–0 of a request's second byte (R163); 3 is malformed. -/
inductive ChainMark where
  | none
  | member
  | last
  | malformed
  deriving DecidableEq, Repr

/-- The second body byte of a request (R163): its key and its chain mark. -/
structure ReqHeader where
  initiator : Initiator
  tag : Tag
  mark : ChainMark
  deriving DecidableEq, Repr

/-- One symbol that the receiver recovers from the far end's line, idle symbols apart (R154). -/
inductive LineSymbol where
  /-- The start delimiter, which cannot occur inside a frame's bytes. -/
  | delimiter
  /-- One byte: a length byte, a body byte or a check byte. -/
  | byte (b : Byte)
  deriving DecidableEq, Repr

/-- The two bytes of a segment's data lines when a step completes: the byte of the even and that of the odd target address
(R11). -/
structure SegmentBytes where
  even : Byte
  odd : Byte
  deriving DecidableEq, Repr

/-- The two line operations of the bit line (R109). -/
inductive LineKind where
  | readStation
  | writeStation
  deriving DecidableEq, Repr

/-- A reply on the bit line (R109): its kind, its station, the 32 pin values that a READ-STATION reply carries, and whether it
passes the controller's integrity check. -/
structure StationReply where
  kind : LineKind
  station : StationId
  pins : Positions
  intact : Bool
  deriving DecidableEq, Repr

/-- The commands of the director. -/
inductive Instr where
  /-- POWER_ON_RESET: the end of power-on reset, with the strap pins and the four hold request lines as they then stand. -/
  | powerOnReset (strap : BitVec 3) (holdLines : BitVec 4)
  /-- FRAME_RECEIVED: symbols of a frame reach the receiver. -/
  | frameReceived (symbols : List LineSymbol)
  /-- FAR_END_PAUSE_MARK. -/
  | farEndPauseMark
  /-- MESSAGE_SENT. -/
  | messageSent
  /-- SIGNAL_FOUND. -/
  | signalFound
  /-- SIGNAL_LOST. -/
  | signalLost
  /-- SYNC: the bytes after the type byte 0x70. -/
  | sync (rest : List Byte)
  /-- LINK_RESET: the bytes after the type byte 0x71. -/
  | linkReset (rest : List Byte)
  /-- UNKNOWN_MESSAGE_TYPE: the first body byte, the second, and the rest. -/
  | unknownMessageType (first : Byte) (h : ReqHeader) (rest : List Byte)
  /-- READ. -/
  | read (h : ReqHeader) (rest : List Byte)
  /-- WRITE. -/
  | write (h : ReqHeader) (rest : List Byte)
  /-- LOCK-READ. -/
  | lockRead (h : ReqHeader) (rest : List Byte)
  /-- UNLOCK-WRITE. -/
  | unlockWrite (h : ReqHeader) (rest : List Byte)
  /-- BIT-SET. -/
  | bitSet (h : ReqHeader) (rest : List Byte)
  /-- BIT-CLEAR. -/
  | bitClear (h : ReqHeader) (rest : List Byte)
  /-- BIT-TEST. -/
  | bitTest (h : ReqHeader) (rest : List Byte)
  /-- FIELD-READ. -/
  | fieldRead (h : ReqHeader) (rest : List Byte)
  /-- FIELD-WRITE. -/
  | fieldWrite (h : ReqHeader) (rest : List Byte)
  /-- ABANDON. -/
  | abandon (h : ReqHeader) (rest : List Byte)
  /-- MANAGE LOAD-REGION; here and below the bytes are those after the operation code. -/
  | loadRegion (h : ReqHeader) (operands : List Byte)
  /-- MANAGE RETIRE-REGION. -/
  | retireRegion (h : ReqHeader) (operands : List Byte)
  /-- MANAGE ALTER-RIGHTS. -/
  | alterRights (h : ReqHeader) (operands : List Byte)
  /-- MANAGE READ-REGION. -/
  | readRegion (h : ReqHeader) (operands : List Byte)
  /-- MANAGE SET-PORT. -/
  | setPort (h : ReqHeader) (operands : List Byte)
  /-- MANAGE READ-PORT. -/
  | readPort (h : ReqHeader) (operands : List Byte)
  /-- MANAGE SET-STATION. -/
  | setStation (h : ReqHeader) (operands : List Byte)
  /-- MANAGE READ-STATION. -/
  | readStation (h : ReqHeader) (operands : List Byte)
  /-- MANAGE SET-SCAN. -/
  | setScan (h : ReqHeader) (operands : List Byte)
  /-- MANAGE SET-EVENT. -/
  | setEvent (h : ReqHeader) (operands : List Byte)
  /-- MANAGE SET-EVENT-TARGET. -/
  | setEventTarget (h : ReqHeader) (operands : List Byte)
  /-- MANAGE EVENT-ACK. -/
  | eventAck (h : ReqHeader) (operands : List Byte)
  /-- MANAGE EVENT-RESUME. -/
  | eventResume (h : ReqHeader) (operands : List Byte)
  /-- MANAGE READ-INCIDENT. -/
  | readIncident (h : ReqHeader) (operands : List Byte)
  /-- MANAGE SET-MANAGERS. -/
  | setManagers (h : ReqHeader) (operands : List Byte)
  /-- MANAGE READ-OCCUPANCY. -/
  | readOccupancy (h : ReqHeader) (operands : List Byte)
  /-- FIXED_DELAY_EXPIRY at a port, with the bytes on its segment at that moment. -/
  | fixedDelayExpiry (p : PortId) (bytes : SegmentBytes)
  /-- READY_INDICATION at a port, with the bytes on its segment at that moment. -/
  | readyIndication (p : PortId) (bytes : SegmentBytes)
  /-- READY_TIMER_EXPIRY at a port. -/
  | readyTimerExpiry (p : PortId)
  /-- LOCK_LIFETIME_EXPIRY at a port. -/
  | lockLifetimeExpiry (p : PortId)
  /-- HOLD_REQUEST_RAISE at a port. -/
  | holdRequestRaise (p : PortId)
  /-- HOLD_REQUEST_WITHDRAWAL at a port. -/
  | holdRequestWithdrawal (p : PortId)
  /-- HOLD_LIMIT_EXPIRY at a port. -/
  | holdLimitExpiry (p : PortId)
  /-- STATION_REPLY. -/
  | stationReply (r : StationReply)
  /-- LINE_TIMER_EXPIRY. -/
  | lineTimerExpiry
  /-- SCAN_TIMER_EXPIRY. -/
  | scanTimerExpiry
  /-- ACK_WINDOW_EXPIRY. -/
  | ackWindowExpiry
  /-- FAR_END_PAUSE_MARK_GONE. -/
  | farEndPauseMarkGone
  deriving DecidableEq, Repr

end Sys2Proof
end

