-- ==== Sys2Proof/WellFormed.lean ====
section
/-! DEFINITION. Which commands can arrive at all: a message is the body of one well-formed frame, 2 to 48 bytes (R155), SYNC
and LINK-RESET bodies are two bytes long, and an unknown message is of none of the known types (R156). -/

namespace Sys2Proof

/-- A body whose first two bytes are given and which goes on with `n` more fits a frame (R155). -/
def fitsFrame (n : Nat) : Bool := decide (Config.minBody + n ≤ Config.maxBody)

/-- The first body bytes that name SYNC, LINK-RESET or one of the ten request kinds whose commands carry the kind themselves
(R156). MANAGE, 0x0A, is not among them: a MANAGE that names no known operation has no row of its own in the opcode table, and
UNKNOWN_MESSAGE_TYPE carries it (assumption log entry 11). -/
def knownFirstBytes : List Byte := [0x70, 0x71, 0x01, 0x02, 0x03, 0x04, 0x05, 0x06, 0x07, 0x08, 0x09, 0x0B]

/-- The operation codes of R163. -/
def knownOperation (rest : List Byte) : Bool :=
  match rest with
  | [] => false
  | op :: _ => decide (1 ≤ op.toNat ∧ op.toNat ≤ 16)

/-- A command that can arrive. -/
def Instr.wellFormed : Instr → Bool
  | .powerOnReset _ _ => true
  | .frameReceived symbols => decide (symbols ≠ [] ∧ symbols.length ≤ Config.maxBody + 4)
  | .farEndPauseMark => true
  | .messageSent => true
  | .signalFound => true
  | .signalLost => true
  | .sync rest => decide (rest.length = 1)
  | .linkReset rest => decide (rest.length = 1)
  | .unknownMessageType first _ rest =>
      !knownFirstBytes.contains first && !(first == 0x0A && knownOperation rest) && fitsFrame rest.length
  | .read _ rest => fitsFrame rest.length
  | .write _ rest => fitsFrame rest.length
  | .lockRead _ rest => fitsFrame rest.length
  | .unlockWrite _ rest => fitsFrame rest.length
  | .bitSet _ rest => fitsFrame rest.length
  | .bitClear _ rest => fitsFrame rest.length
  | .bitTest _ rest => fitsFrame rest.length
  | .fieldRead _ rest => fitsFrame rest.length
  | .fieldWrite _ rest => fitsFrame rest.length
  | .abandon _ rest => fitsFrame rest.length
  | .loadRegion _ operands => fitsFrame (operands.length + 1)
  | .retireRegion _ operands => fitsFrame (operands.length + 1)
  | .alterRights _ operands => fitsFrame (operands.length + 1)
  | .readRegion _ operands => fitsFrame (operands.length + 1)
  | .setPort _ operands => fitsFrame (operands.length + 1)
  | .readPort _ operands => fitsFrame (operands.length + 1)
  | .setStation _ operands => fitsFrame (operands.length + 1)
  | .readStation _ operands => fitsFrame (operands.length + 1)
  | .setScan _ operands => fitsFrame (operands.length + 1)
  | .setEvent _ operands => fitsFrame (operands.length + 1)
  | .setEventTarget _ operands => fitsFrame (operands.length + 1)
  | .eventAck _ operands => fitsFrame (operands.length + 1)
  | .eventResume _ operands => fitsFrame (operands.length + 1)
  | .readIncident _ operands => fitsFrame (operands.length + 1)
  | .setManagers _ operands => fitsFrame (operands.length + 1)
  | .readOccupancy _ operands => fitsFrame (operands.length + 1)
  | .fixedDelayExpiry _ _ => true
  | .readyIndication _ _ => true
  | .readyTimerExpiry _ => true
  | .lockLifetimeExpiry _ => true
  | .holdRequestRaise _ => true
  | .holdRequestWithdrawal _ => true
  | .holdLimitExpiry _ => true
  | .stationReply _ => true
  | .lineTimerExpiry => true
  | .scanTimerExpiry => true
  | .ackWindowExpiry => true
  | .farEndPauseMarkGone => true

end Sys2Proof
end

