-- ==== Sys2Proof/Decode.lean ====
section
/-! DEFINITION. The decoder of command words. -/

namespace Sys2Proof

/-- The command a word spells by the bits of spec/opcode_table.json. No row of that table gives any bits (each row's fields
are empty), so no word spells a command: the director has no command words (assumption log entry 27). Messages reach it as the
bodies of R163, which `Sys2Proof.Machine.Instr.body?` spells out. -/
def decodeTableWord (_nbits _w : Nat) : Option Instr := none

end Sys2Proof
end

