-- ==== Sys2Proof/Machine/State.lean ====
section
/-! DEFINITION. The state of the director as plain data: what each of its eight blocks holds (00_scope.md, Blocks), the queue
of waiting commands, and the state right after power-on reset. -/

namespace Sys2Proof.Machine

/-! ### Region map -/

/-- The width of an access (2.1). -/
inductive Width where
  | byte
  | word
  deriving DecidableEq, Repr

/-- How the bytes of an access are placed on the target (R11, R12). -/
inductive LaneRule where
  | straight
  | crossed
  | narrow
  deriving DecidableEq, Repr

/-- How a target step ends (1.1): FIXED with a delay in units of 100 ns, or READY with a timeout in µs. -/
inductive Completion where
  | fixed (delay : Nat)
  | ready (timeout : Nat)
  deriving DecidableEq, Repr

/-- The fields of a present region entry that LOAD-REGION gives it (1.1). -/
structure RegionFields where
  base : Addr
  limit : Addr
  port : PortId
  completion : Completion
  posted : Bool
  lanes : LaneRule
  lockable : Bool
  readSet : InitiatorSet
  writeSet : InitiatorSet
  targetBase : Addr
  deriving DecidableEq, Repr

/-- The two states of a present entry (R1). -/
inductive RegionPhase where
  | active
  | draining
  deriving DecidableEq, Repr

/-- A present region entry: its state, its fields and its in-flight count (R1, R13). An ABSENT entry holds none of these: it is
`none` in the region map. -/
structure RegionRecord where
  phase : RegionPhase
  fields : RegionFields
  inFlight : Nat
  deriving DecidableEq, Repr

/-! ### Slot table -/

/-- The four port kinds; the writing ones carry their write data (2.1). A BYTE's data is the low byte. -/
inductive PortKind where
  | read
  | write (data : BitVec 16)
  | lockRead
  | unlockWrite (data : BitVec 16)
  deriving DecidableEq, Repr

/-- What a slot of a port kind holds (2.1): byte address, width, region entry, target address after translation and lane rule,
and destination port. -/
structure PortWork where
  kind : PortKind
  addr : Addr
  width : Width
  entry : EntryId
  target : Addr
  port : PortId
  deriving DecidableEq, Repr

/-- The five bit kinds; the FIELD kinds carry their width, and FIELD-WRITE its value (2.1). -/
inductive BitKind where
  | set
  | clear
  | test
  | fieldRead (width : Nat)
  | fieldWrite (width : Nat) (value : BitVec 16)
  deriving DecidableEq, Repr

/-- What a slot of a bit kind holds (2.1). -/
structure BitWork where
  kind : BitKind
  addr : BitAddr
  deriving DecidableEq, Repr

/-- The operands of LOAD-REGION as the request carries them (R163). -/
structure LoadOperands where
  entry : Byte
  base : Addr
  limit : Addr
  port : Byte
  completionKind : Byte
  completionTime : Byte
  posted : Byte
  lanes : Byte
  lockable : Byte
  readSet : InitiatorSet
  writeSet : InitiatorSet
  targetBase : Addr
  deriving DecidableEq, Repr

/-- The operands of SET-STATION as the request carries them (R163). -/
structure StationOperands where
  station : Byte
  enable : Byte
  direction : Positions
  inversion : Positions
  rise : Positions
  fall : Positions
  deriving DecidableEq, Repr

/-- A MANAGE operation with its operands as the request carries them (R163); R140 checks them when it is carried out. -/
inductive ManageOp where
  | loadRegion (o : LoadOperands)
  | retireRegion (entry : Byte)
  | alterRights (entry : Byte) (readSet writeSet : InitiatorSet)
  | readRegion (entry : Byte)
  | setPort (port setting lifetime limit : Byte)
  | readPort (port : Byte)
  | setStation (o : StationOperands)
  | readStation (station : Byte)
  | setScan (period : Byte)
  | setEvent (source priority : Byte)
  | setEventTarget (initiator window : Byte)
  | eventAck (source sequence : Byte)
  | eventResume
  | readIncident (kind clear : Byte)
  | setManagers (set : InitiatorSet)
  | readOccupancy
  deriving DecidableEq, Repr

/-- The work of a slot: its kind with everything the table of 2.1 gives that kind; the destination follows from it. -/
inductive Work where
  | port (w : PortWork)
  | bit (w : BitWork)
  | manage (op : ManageOp)
  deriving DecidableEq, Repr

/-- The chain role of a slot, with its ordinal (2.1, R97). -/
inductive ChainRole where
  | none
  | member (ordinal : Nat)
  | last (ordinal : Nat)
  deriving DecidableEq, Repr

/-- The state of an occupied slot (R23). DONE lasts only within the event that produces it. -/
inductive SlotState where
  | waiting
  | queued
  | active
  | done
  deriving DecidableEq, Repr

/-- The step of a slot or of a port (R12). -/
inductive StepNo where
  | one
  | two
  deriving DecidableEq, Repr

/-- The fault codes (R163). -/
inductive FaultCode where
  | badReq
  | tagBusy
  | noMap
  | denied
  | align
  | portDown
  | noLock
  | lockNest
  | lockAddr
  | lockLost
  | timeout
  | noStation
  | direction
  | fieldSpan
  | chainLong
  | badAck
  | entryBusy
  | overlap
  | badValue
  deriving DecidableEq, Repr

/-! ### Target ports -/

/-- The setting of a port (3.1). -/
inductive Setting where
  | up
  | down
  deriving DecidableEq, Repr

/-- A timer of the part: stopped, or running with the duration it was started with, in its own units. -/
inductive Timer where
  | stopped
  | running (duration : Nat)
  deriving DecidableEq, Repr

/-- The step timer of an ISSUED port: the FIXED delay timer in units of 100 ns, or the READY timer in µs (3.1, R51). -/
inductive StepTimer where
  | delay (units : Nat)
  | ready (micros : Nat)
  deriving DecidableEq, Repr

/-- The data of a write step on the segment: one byte, or the bytes for the even and the odd address (R52). -/
inductive SegmentData where
  | byte (b : Byte)
  | word (even odd : Byte)
  deriving DecidableEq, Repr

/-- A step presented on a segment (R52): address, width, and direction, a write carrying its data. -/
structure SegmentStep where
  address : Addr
  width : Width
  write : Option SegmentData
  deriving DecidableEq, Repr

/-- What a port holds while ISSUED (3.1): current slot, current step, the low byte kept between the steps of a NARROW read
(R59), the step timer and the step presented. -/
structure Issued where
  slot : SlotId
  step : StepNo
  lowByte : Option Byte
  timer : StepTimer
  presented : SegmentStep
  deriving DecidableEq, Repr

/-- The state of a port (R45). -/
inductive PortState where
  | idle
  | issued (current : Issued)
  | held
  deriving DecidableEq, Repr

/-- A lock record (R68). Its lifetime timer, while running, holds the lifetime in µs it was started with. -/
structure LockRecord where
  owner : Initiator
  address : Addr
  width : Width
  entry : EntryId
  timer : Timer
  deriving DecidableEq, Repr

/-- The hold gate (R83). -/
inductive Gate where
  | none
  | pending
  | granted
  deriving DecidableEq, Repr

/-- A target port (3.1), with the level of its segment's hold request line. -/
structure Port where
  setting : Setting
  state : PortState
  queue : List SlotId
  lock : Option LockRecord
  gate : Gate
  holdTimer : Timer
  lockLifetime : Nat
  holdLimit : Nat
  holdLine : Bool
  deriving DecidableEq, Repr

/-! ### Bit line controller -/

/-- The presence of a station (7.1). -/
inductive Presence where
  | disabled
  | unknown
  | present
  | absent
  deriving DecidableEq, Repr

/-- A station record (7.1). -/
structure Station where
  presence : Presence
  timeouts : Nat
  direction : Positions
  inversion : Positions
  rise : Positions
  fall : Positions
  lastSample : Option Positions
  image : Positions
  latched : Positions
  delivered : Option Positions
  deriving DecidableEq, Repr

/-- The command of a line operation (R109). A WRITE-STATION carries the direction set and the pin values; `formed` is the
output image it was formed from, which the controller keeps for the reply (R115). -/
inductive LineCommand where
  | readStation
  | writeStation (direction pins formed : Positions)
  deriving DecidableEq, Repr

/-- Whose operation is on the line: a request's slot, or a poll of the running cycle. -/
inductive LineOrigin where
  | request (slot : SlotId)
  | poll
  deriving DecidableEq, Repr

/-- The line operation in progress (R109). The line timer runs exactly while there is one. -/
structure LineOp where
  station : StationId
  command : LineCommand
  origin : LineOrigin
  deriving DecidableEq, Repr

/-- The line arbiter's record of the previous operation (R120). -/
inductive LinePrevious where
  | request
  | poll
  deriving DecidableEq, Repr

/-- The line, its queue, its arbiter's record and the scan (R109, R113, R117, R120). The cursor of a running cycle is 0 to 16. -/
structure LineUnit where
  op : Option LineOp
  queue : List SlotId
  previous : LinePrevious
  scanPeriod : Nat
  scanTimer : Timer
  cycleDue : Bool
  cycle : Option Nat
  deriving DecidableEq, Repr

/-! ### Event unit -/

/-- The cause of a LINK-ERROR incident (R125). -/
inductive LinkErrorCause where
  | check
  | length
  deriving DecidableEq, Repr

/-- The eight incident kinds, in the order of their source numbers 16 to 23 (8.1). -/
inductive IncidentKind where
  | lockExpired
  | readyTimeout
  | strayReady
  | postedFail
  | holdOverrun
  | stationLost
  | linkError
  | scanOverrun
  deriving DecidableEq, Repr

/-- The detail of an incident, in the form its kind gives (R125). -/
inductive Detail where
  | port (p : PortId)
  | portAddress (p : PortId) (a : Addr)
  | station (st : StationId)
  | cause (c : LinkErrorCause)
  deriving DecidableEq, Repr

/-- An incident record (R124). -/
structure Incident where
  count : Nat
  acknowledged : Nat
  detail : Option Detail
  deriving DecidableEq, Repr

/-- An event source (8.1). -/
inductive Source where
  | station (st : StationId)
  | incident (k : IncidentKind)
  deriving DecidableEq, Repr

/-- The payload of an EVENT message (R129). -/
inductive Payload where
  | latched (set : Positions)
  | incident (count : Nat) (detail : Option Detail)
  deriving DecidableEq, Repr

/-- The message in flight (8.2). -/
structure EventMessage where
  sequence : BitVec 8
  source : Source
  priority : Fin 16
  payload : Payload
  deriving DecidableEq, Repr

/-- The delivery state with the message in flight, which is present in AWAIT-ACK and STALLED and absent in IDLE (R127). -/
inductive Delivery where
  | idle
  | awaitAck (m : EventMessage)
  | stalled (m : EventMessage)
  deriving DecidableEq, Repr

/-- The event unit (R123, R124, R127). `ackTimer` and `ackWindow` are in units of 100 µs. -/
structure EventUnit where
  priorities : Table 24 (Fin 16)
  incidents : Table 8 Incident
  delivery : Delivery
  sequence : BitVec 8
  resends : Nat
  ackTimer : Timer
  target : Initiator
  ackWindow : Nat
  deriving DecidableEq, Repr

/-! ### Chain unit and initiator records -/

/-- The state of a chain context (R92). -/
inductive ChainState where
  | closed
  | opened
  | failed
  deriving DecidableEq, Repr

/-- A first failure: a member ordinal with a fault code (6.1). -/
structure ChainFailure where
  ordinal : Nat
  code : FaultCode
  deriving DecidableEq, Repr

/-- A chain context (6.1). -/
structure Chain where
  state : ChainState
  count : Nat
  failure : Option ChainFailure
  lastHeld : Bool
  members : List SlotId
  deriving DecidableEq, Repr

/-- The mode of an initiator (R22). -/
inductive Mode where
  | normal
  | abandoning
  deriving DecidableEq, Repr

/-- An initiator record (R22). -/
structure InitiatorRecord where
  occupancy : Nat
  mode : Mode
  abandonTag : Option Tag
  deriving DecidableEq, Repr

/-! ### Management unit -/

/-- A pending retire: the region entry and the key of the RETIRE-REGION slot (R138). -/
structure PendingRetire where
  entry : EntryId
  initiator : Initiator
  tag : Tag
  deriving DecidableEq, Repr

/-- The management unit (R138). The queue holds a slot only within the event that accepts it (R139). -/
structure ManagementUnit where
  managers : InitiatorSet
  retires : List PendingRetire
  queue : List SlotId
  deriving DecidableEq, Repr

/-! ### Messages and the link interface -/

/-- What READ-PORT returns (R67, R147). -/
structure PortReport where
  setting : Setting
  state : PortState
  queueLength : Nat
  gate : Gate
  lockLifetime : Nat
  holdLimit : Nat
  lock : Option LockRecord
  deriving DecidableEq, Repr

/-- The record a MANAGE read operation returns (R146, R147, R148, R152, R153). -/
inductive ReadRecord where
  | region (r : Option RegionRecord)
  | port (r : PortReport)
  | station (r : Station)
  | incident (r : Incident)
  | occupancy (records : List (Nat × Mode)) (free : Nat)
  deriving DecidableEq, Repr

/-- The value of a DATA outcome (R36): a byte (also BIT-TEST's 0 or 1), a word (also a field value), or a returned record. -/
inductive DataValue where
  | byte (b : Byte)
  | word (w : BitVec 16)
  | record (r : ReadRecord)
  deriving DecidableEq, Repr

/-- The outcome of a request (00_scope.md, Terms). -/
inductive Answer where
  | done
  | data (v : DataValue)
  | defer
  | full
  | skipped
  | fault (c : FaultCode)
  deriving DecidableEq, Repr

/-- The transaction record of an occupied slot (2.1). The read data of a DATA outcome is inside the outcome; an absent outcome
is pending. -/
structure Slot where
  initiator : Initiator
  tag : Tag
  work : Work
  role : ChainRole
  state : SlotState
  step : StepNo
  answered : Bool
  suppressed : Bool
  outcome : Option Answer
  sequence : BitVec 16
  deriving DecidableEq, Repr

/-- A chain summary (R102). -/
structure Summary where
  count : Nat
  failure : Option ChainFailure
  deriving DecidableEq, Repr

/-- A RESPONSE (R36). -/
structure Response where
  initiator : Initiator
  tag : Tag
  answer : Answer
  partialMarker : Bool
  summary : Option Summary
  deriving DecidableEq, Repr

/-- The messages the part sends (R159). -/
inductive Message where
  | response (r : Response)
  | event (target : Initiator) (m : EventMessage)
  | linkNotice (strap : Initiator) (count : BitVec 16)
  deriving DecidableEq, Repr

/-- The link state (10.3). -/
inductive LinkState where
  | down
  | up
  deriving DecidableEq, Repr

/-- The receive framing (R155): hunting for a start delimiter, after one, or with a length byte and the body and check bytes
that have arrived so far, which are the partial frame. -/
inductive Framing where
  | hunting
  | started
  | collecting (length : Nat) (got : List Byte)
  deriving DecidableEq, Repr

/-- The link interface (10.3). `sending` is the frame of the outbound list's head, present once it has begun to leave (R159).
`frameCount` is the MODEL's own: the number of frames begun, which indexes the free values of `Config.freeByte`. -/
structure LinkUnit where
  state : LinkState
  signal : Bool
  resetCount : BitVec 16
  strap : Initiator
  framing : Framing
  rx : List (List Byte)
  outbound : List Message
  sending : Option (List LineSymbol)
  farPause : Bool
  frameCount : Nat
  deriving DecidableEq, Repr

/-! ### The whole machine -/

/-- The state of the director, and the commands that wait, first in first out. -/
structure State where
  pending : List Instr
  link : LinkUnit
  regions : Table 48 (Option RegionRecord)
  slots : Table 32 (Option Slot)
  initiators : Table 8 InitiatorRecord
  acceptCounter : BitVec 16
  chains : Table 8 Chain
  ports : Table 4 Port
  stations : Table 16 Station
  line : LineUnit
  events : EventUnit
  management : ManagementUnit
  deriving DecidableEq, Repr

/-- No fault exists: no rule stops the part. A FAULT of the manual is an outcome that a RESPONSE carries (R36). Safe. -/
inductive Fault where
  deriving DecidableEq, Repr

/-- Reasons to refuse a command. -/
inductive Refusal where
  /-- Raised by `exec` for a command whose meaning is not written yet; none is left. Safe. -/
  | notModelled (mnemonic : String)
  deriving DecidableEq, Repr

/-! ### Power-on reset values -/

/-- A port at the end of power-on reset (R44). -/
def Port.powerOn : Port where
  setting := .up
  state := .idle
  queue := []
  lock := none
  gate := .none
  holdTimer := .stopped
  lockLifetime := Config.defaultLockLifetime
  holdLimit := Config.defaultHoldLimit
  holdLine := false

/-- A station record at power-on reset (7.1). -/
def Station.powerOn : Station where
  presence := .disabled
  timeouts := 0
  direction := 0
  inversion := 0
  rise := 0
  fall := 0
  lastSample := none
  image := 0
  latched := 0
  delivered := none

/-- A CLOSED chain context (R92), which is also its power-on value. -/
def Chain.closed : Chain where
  state := .closed
  count := 0
  failure := none
  lastHeld := false
  members := []

/-- An initiator record at power-on reset (R22). -/
def InitiatorRecord.powerOn : InitiatorRecord where
  occupancy := 0
  mode := .normal
  abandonTag := none

/-- An incident record at power-on reset (R124). -/
def Incident.powerOn : Incident where
  count := 0
  acknowledged := 0
  detail := none

/-- The event unit at power-on reset: the strap value becomes the event target (R127, R165). -/
def EventUnit.powerOn (strap : Initiator) : EventUnit where
  priorities := uniform 24 0
  incidents := uniform 8 Incident.powerOn
  delivery := .idle
  sequence := 0
  resends := 0
  ackTimer := .stopped
  target := strap
  ackWindow := Config.defaultAckWindow

/-- The line and the scan at power-on reset (R109, R117, R120). -/
def LineUnit.powerOn : LineUnit where
  op := none
  queue := []
  previous := .poll
  scanPeriod := 0
  scanTimer := .stopped
  cycleDue := false
  cycle := none

/-- The link interface at power-on reset (10.3, R157, R165). -/
def LinkUnit.powerOn (strap : Initiator) : LinkUnit where
  state := .down
  signal := false
  resetCount := 0
  strap := strap
  framing := .hunting
  rx := []
  outbound := []
  sending := none
  farPause := false
  frameCount := 0

/-- The management unit at power-on reset (R138, R165). -/
def ManagementUnit.powerOn (strap : Initiator) : ManagementUnit where
  managers := InitiatorSet.single strap
  retires := []
  queue := []

/-- The state at power-on reset with a strap value, before the ports sample their hold request lines (R44, R83, R165). -/
def State.powerOn (strap : Initiator) : State where
  pending := []
  link := LinkUnit.powerOn strap
  regions := uniform 48 none
  slots := uniform 32 none
  initiators := uniform 8 InitiatorRecord.powerOn
  acceptCounter := 0
  chains := uniform 8 Chain.closed
  ports := uniform 4 Port.powerOn
  stations := uniform 16 Station.powerOn
  line := LineUnit.powerOn
  events := EventUnit.powerOn strap
  management := ManagementUnit.powerOn strap

/-- The machine right after power-on reset, with an empty queue. The strap pins and the hold request lines are inputs whose
levels no rule gives: strap value 0 and deasserted lines are a DESIGN CHOICE (assumption log entry 2). -/
def State.reset : State := State.powerOn 0

end Sys2Proof.Machine
end

