-- ==== Sys2Proof/Machine/Framing.lean ====
section
/-! DEFINITION. Frames and message layouts (R154, R163): the check word, the line symbols of a frame, the codes of named values,
and the bodies of the messages the part sends. Bits whose value R163 does not state are taken from `fill`, the frame's free
bytes (assumption log entry 12). -/

namespace Sys2Proof.Machine

/-! ### Check word and frame -/

/-- One bit of the check word's register: shifted left, with the generator x^16 + x^12 + x^5 + 1 added when the bit shifted out
differs from the data bit (R154). -/
def crcBit (crc : BitVec 16) (bit : Bool) : BitVec 16 :=
  let shifted := crc <<< 1
  if crc.getLsbD 15 != bit then shifted ^^^ 0x1021 else shifted

/-- One byte into the register, most significant bit first (R154). -/
def crcByte (crc : BitVec 16) (b : Byte) : BitVec 16 :=
  [7, 6, 5, 4, 3, 2, 1, 0].foldl (fun c k => crcBit c (b.getLsbD k)) crc

/-- The check word of a body: register all ones, no final inversion (R154). -/
def checkWord (body : List Byte) : BitVec 16 := body.foldl crcByte 0xFFFF

/-- The high byte of a 16-bit number. -/
def hiByte (w : BitVec 16) : Byte := w.extractLsb' 8 8

/-- The low byte of a 16-bit number. -/
def loByte (w : BitVec 16) : Byte := w.extractLsb' 0 8

/-- A 16-bit number of a high and a low byte. -/
def wordOf (hi lo : Byte) : BitVec 16 := hi ++ lo

/-- A number sent in one byte. -/
def byteOf (n : Nat) : Byte := BitVec.ofNat 8 n

/-- A 16-bit number sent low byte first (R163). -/
def lowFirst16 (w : BitVec 16) : List Byte := [loByte w, hiByte w]

/-- A three-byte address, sent high byte first (R163). -/
def addrBytes (a : Addr) : List Byte := [a.extractLsb' 16 8, a.extractLsb' 8 8, a.extractLsb' 0 8]

/-- The address of three bytes, high byte first (R163). -/
def addrOf (hi mid lo : Byte) : Addr := hi ++ mid ++ lo

/-- A set of positions, sent low byte first (R163). -/
def positionsBytes (s : Positions) : List Byte :=
  [s.extractLsb' 0 8, s.extractLsb' 8 8, s.extractLsb' 16 8, s.extractLsb' 24 8]

/-- The set of positions of four bytes, low byte first (R163). -/
def positionsOf (b0 b1 b2 b3 : Byte) : Positions := b3 ++ b2 ++ b1 ++ b0

/-- The frame of a body on the line (R154): start delimiter, length byte, body, check word high byte first. -/
def frameOf (body : List Byte) : List LineSymbol :=
  [.delimiter, .byte (byteOf body.length)] ++ body.map .byte
    ++ [.byte (hiByte (checkWord body)), .byte (loByte (checkWord body))]

/-! ### Request headers -/

/-- The code of a chain mark (R163). -/
def markCode : ChainMark → BitVec 2
  | .none => 0
  | .member => 1
  | .last => 2
  | .malformed => 3

/-- The chain mark of a code (R163). -/
def markOf (c : BitVec 2) : ChainMark :=
  if c = 0 then .none else if c = 1 then .member else if c = 2 then .last else .malformed

/-- The second body byte of a request (R163): bits 7–5 initiator, bits 4–2 tag, bits 1–0 chain mark. -/
def headerByte (h : ReqHeader) : Byte :=
  (BitVec.ofNat 3 h.initiator.val) ++ (BitVec.ofNat 3 h.tag.val) ++ markCode h.mark

/-- The header of a second body byte (R163). -/
def headerOf (b : Byte) : ReqHeader where
  initiator := strapValue (b.extractLsb' 5 3)
  tag := strapValue (b.extractLsb' 2 3)
  mark := markOf (b.extractLsb' 0 2)

/-! ### Codes of named values (R163) -/

/-- Fault code numbers. -/
def faultNumber : FaultCode → Nat
  | .badReq => 1
  | .tagBusy => 2
  | .noMap => 3
  | .denied => 4
  | .align => 5
  | .portDown => 6
  | .noLock => 7
  | .lockNest => 8
  | .lockAddr => 9
  | .lockLost => 10
  | .timeout => 11
  | .noStation => 12
  | .direction => 13
  | .fieldSpan => 14
  | .chainLong => 15
  | .badAck => 16
  | .entryBusy => 17
  | .overlap => 18
  | .badValue => 19

/-- The outcome byte of a RESPONSE. -/
def answerCode : Answer → Byte
  | .done => 0x00
  | .data _ => 0x01
  | .defer => 0x02
  | .full => 0x03
  | .skipped => 0x04
  | .fault c => byteOf (0x10 + faultNumber c)

/-- Width codes: 1 BYTE, 2 WORD. -/
def widthCode : Width → Byte
  | .byte => 1
  | .word => 2

/-- Lane rule codes. -/
def laneCode : LaneRule → Byte
  | .straight => 0
  | .crossed => 1
  | .narrow => 2

/-- A completion as its kind byte and its delay or timeout. -/
def completionBytes : Completion → List Byte
  | .fixed d => [0, byteOf d]
  | .ready t => [1, byteOf t]

/-- A byte that names a yes or no. -/
def yesNoByte (b : Bool) : Byte := if b then 1 else 0

/-- Region state codes of a present entry; ABSENT is 0. -/
def phaseCode : RegionPhase → Byte
  | .active => 1
  | .draining => 2

/-- Port setting codes. -/
def settingCode : Setting → Byte
  | .up => 0
  | .down => 1

/-- Port state codes. -/
def portStateCode : PortState → Byte
  | .idle => 0
  | .issued _ => 1
  | .held => 2

/-- Hold gate codes. -/
def gateCode : Gate → Byte
  | .none => 0
  | .pending => 1
  | .granted => 2

/-- Lifetime timer codes: RUNNING 0, STOPPED 1. -/
def lifetimeCode : Timer → Byte
  | .running _ => 0
  | .stopped => 1

/-- Presence codes. -/
def presenceCode : Presence → Byte
  | .disabled => 0
  | .unknown => 1
  | .present => 2
  | .absent => 3

/-- The number of an incident kind among the eight. -/
def incidentIndex : IncidentKind → Fin 8
  | .lockExpired => 0
  | .readyTimeout => 1
  | .strayReady => 2
  | .postedFail => 3
  | .holdOverrun => 4
  | .stationLost => 5
  | .linkError => 6
  | .scanOverrun => 7

/-- The eight incident kinds in the order of their source numbers. -/
def incidentKinds : List IncidentKind :=
  [.lockExpired, .readyTimeout, .strayReady, .postedFail, .holdOverrun, .stationLost, .linkError, .scanOverrun]

/-- The source number, 0 to 23 (8.1). -/
def sourceNumber : Source → Fin 24
  | .station st => ⟨st.val, by omega⟩
  | .incident k => ⟨16 + (incidentIndex k).val, by omega⟩

/-- All 24 sources in the order of their numbers (8.1). -/
def allSources : List Source := (List.finRange 16).map .station ++ incidentKinds.map .incident

/-- The source of a number, absent above 23 (8.1). -/
def sourceOf (n : Nat) : Option Source := allSources[n]?

/-! ### Bodies (R163) -/

/-- The five detail bytes of an incident: form, value, three-byte address, 0 where the form has none. -/
def detailBytes : Option Detail → List Byte
  | none => [0, 0] ++ addrBytes 0
  | some (.port p) => [1, byteOf p.val] ++ addrBytes 0
  | some (.portAddress p a) => [2, byteOf p.val] ++ addrBytes a
  | some (.station st) => [3, byteOf st.val] ++ addrBytes 0
  | some (.cause .check) => [4, 0] ++ addrBytes 0
  | some (.cause .length) => [4, 1] ++ addrBytes 0

/-- The 17 field bytes of LOAD-REGION, from base to target base. -/
def regionFieldBytes (f : RegionFields) : List Byte :=
  addrBytes f.base ++ addrBytes f.limit ++ [byteOf f.port.val] ++ completionBytes f.completion
    ++ [yesNoByte f.posted, laneCode f.lanes, yesNoByte f.lockable, f.readSet, f.writeSet] ++ addrBytes f.targetBase

/-- The lock bytes of a READ-PORT record, 0 when absent. -/
def lockBytes : Option LockRecord → List Byte
  | none => [0, 0] ++ addrBytes 0 ++ [0, 0, 0]
  | some l => [1, byteOf l.owner.val] ++ addrBytes l.address ++ [widthCode l.width, byteOf l.entry.val, lifetimeCode l.timer]

/-- Four bytes of free value. -/
def fillPositions (fill : Nat → Byte) (k : Nat) : Positions :=
  positionsOf (fill k) (fill (k + 1)) (fill (k + 2)) (fill (k + 3))

/-- The byte of one initiator in a READ-OCCUPANCY record: occupancy in bits 3–0, mode in bit 7; bits 6–4 are not stated. -/
def occupancyByte (free : Byte) (r : Nat × Mode) : Byte :=
  (byteOf r.1 &&& 0x0F) ||| (if r.2 = .abandoning then 0x80 else 0) ||| (free &&& 0x70)

/-- The bytes of a returned record. The sample bytes and the copy bytes of an absent sample or copy are not stated. -/
def recordBytes (fill : Nat → Byte) : ReadRecord → List Byte
  | .region none => [0]
  | .region (some r) => [phaseCode r.phase] ++ regionFieldBytes r.fields ++ [byteOf r.inFlight]
  | .port r =>
      [settingCode r.setting, portStateCode r.state, byteOf r.queueLength, gateCode r.gate, byteOf r.lockLifetime,
        byteOf r.holdLimit] ++ lockBytes r.lock
  | .station r =>
      [presenceCode r.presence, byteOf r.timeouts] ++ positionsBytes r.direction ++ positionsBytes r.inversion
        ++ positionsBytes r.rise ++ positionsBytes r.fall
        ++ [yesNoByte r.lastSample.isSome] ++ positionsBytes (r.lastSample.getD (fillPositions fill 1))
        ++ positionsBytes r.image ++ positionsBytes r.latched
        ++ [yesNoByte r.delivered.isSome] ++ positionsBytes (r.delivered.getD (fillPositions fill 5))
  | .incident r =>
      lowFirst16 (BitVec.ofNat 16 r.count) ++ lowFirst16 (BitVec.ofNat 16 r.acknowledged) ++ detailBytes r.detail
  | .occupancy records free =>
      (records.mapIdx fun k r => occupancyByte (fill (k + 1)) r) ++ [byteOf free]

/-- The bytes of a DATA value. -/
def dataBytes (fill : Nat → Byte) : DataValue → List Byte
  | .byte b => [b]
  | .word w => lowFirst16 w
  | .record r => recordBytes fill r

/-- The bytes of a chain summary: member count, first failure ordinal, first failure code, 0 when absent. -/
def summaryBytes (s : Summary) : List Byte :=
  match s.failure with
  | none => [byteOf s.count] ++ lowFirst16 0 ++ [0]
  | some f => [byteOf s.count] ++ lowFirst16 (BitVec.ofNat 16 f.ordinal) ++ [byteOf (faultNumber f.code)]

/-- Byte 3 of a RESPONSE: bit 0 partial marker, bit 1 summary present; bits 7–2 are not stated. -/
def responseFlags (free : Byte) (r : Response) : Byte :=
  yesNoByte r.partialMarker ||| (if r.summary.isSome then 2 else 0) ||| (free &&& 0xFC)

/-- The body of a RESPONSE. -/
def responseBody (fill : Nat → Byte) (r : Response) : List Byte :=
  [0x81, headerByte ⟨r.initiator, r.tag, .none⟩, answerCode r.answer, responseFlags (fill 0) r]
    ++ (match r.summary with
        | none => []
        | some s => summaryBytes s)
    ++ (match r.answer with
        | .data v => dataBytes fill v
        | _ => [])

/-- The payload bytes of an EVENT. -/
def payloadBytes : Payload → List Byte
  | .latched set => positionsBytes set
  | .incident count detail => lowFirst16 (BitVec.ofNat 16 count) ++ detailBytes detail

/-- The body of an EVENT; bits 4–0 of byte 1 are not stated. -/
def eventBody (fill : Nat → Byte) (target : Initiator) (m : EventMessage) : List Byte :=
  [0x82, (BitVec.ofNat 3 target.val ++ (fill 0).extractLsb' 0 5), m.sequence, byteOf (sourceNumber m.source).val,
    byteOf m.priority.val] ++ payloadBytes m.payload

/-- The body of a LINK-NOTICE; bits 7–3 of byte 1 are not stated. -/
def noticeBody (fill : Nat → Byte) (strap : Initiator) (count : BitVec 16) : List Byte :=
  [0x83, ((fill 0).extractLsb' 3 5 ++ BitVec.ofNat 3 strap.val)] ++ lowFirst16 count

/-- The body of a message the part sends. -/
def messageBody (fill : Nat → Byte) : Message → List Byte
  | .response r => responseBody fill r
  | .event target m => eventBody fill target m
  | .linkNotice strap count => noticeBody fill strap count

end Sys2Proof.Machine
end

