-- ==== Sys2Proof/Machine/Flags.lean ====
section
/-! DEFINITION. The block's computed flags: signals and conditions that are functions of the state and held in no field of it. -/

namespace Sys2Proof.Machine

/-- The pause mark the part shows in its idle symbols (R155). -/
def showsPauseMark (s : State) : Bool := !s.link.rx.isEmpty

/-- The level of a segment's hold grant line: asserted exactly while the gate is GRANTED (R83). -/
def grantLine (s : State) (p : PortId) : Bool := decide ((row s.ports p).gate = .granted)

/-- The positions latched and not carried by the delivered copy (R126). -/
def undelivered (st : Station) : Positions := st.latched &&& ~~~ st.delivered.getD 0

/-- Whether a source is pending (R126). -/
def sourcePending (s : State) : Source → Bool
  | .station n => undelivered (row s.stations n) != 0
  | .incident k =>
      (row s.events.incidents (incidentIndex k)).count != (row s.events.incidents (incidentIndex k)).acknowledged

/-- The priority of a source (R123). -/
def sourcePriority (s : State) (src : Source) : Fin 16 := row s.events.priorities (sourceNumber src)

/-- Whether a source is eligible for selection: pending, with a priority of 1 or more (R126). -/
def sourceEligible (s : State) (src : Source) : Bool := sourcePending s src && decide (0 < (sourcePriority s src).val)

/-- Of two candidates in the order of their numbers, the one selection prefers: the later one only at a higher priority (R128). -/
def preferSource (s : State) (best : Option Source) (src : Source) : Option Source :=
  if sourceEligible s src then
    match best with
    | none => some src
    | some b => if (sourcePriority s b).val < (sourcePriority s src).val then some src else some b
  else best

/-- The eligible source of the highest priority, the lower number among equals (R128). -/
def chosenSource (s : State) : Option Source := allSources.foldl (preferSource s) none

/-- Whether selection is carried out: delivery IDLE, link UP, and the event target NORMAL (R128). -/
def selectionOpen (s : State) : Bool :=
  decide (s.events.delivery = .idle) && decide (s.link.state = .up)
    && decide ((row s.initiators s.events.target).mode = .normal)

/-- Whether the line operation in progress is a poll of the running cycle (R117). -/
def pollInFlight (s : State) : Bool :=
  match s.line.op with
  | some op => decide (op.origin = .poll)
  | none => false

/-- The lowest-numbered station at or above a cursor whose presence is not DISABLED (R118). -/
def nextPoll (s : State) (cursor : Nat) : Option StationId :=
  (List.finRange 16).find? fun n => decide (cursor ≤ n.val) && decide ((row s.stations n).presence ≠ .disabled)

/-- The station of an outstanding poll: a cycle runs, no poll of it is in flight, and a station remains (R118). -/
def outstandingPoll (s : State) : Option StationId :=
  if pollInFlight s then none
  else
    match s.line.cycle with
    | none => none
    | some cursor => nextPoll s cursor

/-- The station that a SCAN-OVERRUN names (R117): that of the poll in flight, or the one the cycle would poll next. -/
def overrunStation (s : State) (cursor : Nat) : Option StationId :=
  match s.line.op with
  | some op => if op.origin = .poll then some op.station else nextPoll s cursor
  | none => nextPoll s cursor

/-- The message in flight (R127). -/
def inFlightMessage (s : State) : Option EventMessage :=
  match s.events.delivery with
  | .idle => none
  | .awaitAck m => some m
  | .stalled m => some m

end Sys2Proof.Machine
end

