-- ==== Sys2Proof/Machine/Operands.lean ====
section
/-! DEFINITION. The operand forms of the commands: the bodies of the received messages (R163), how a request's body is read
(a body that does not fit its kind is malformed, R26), and what an access presents on its segment and takes from it under each
lane rule (R11, R12, R52). -/

namespace Sys2Proof.Machine

/-! ### Reading a request's body -/

/-- A request whose body fits its kind. -/
inductive Parsed where
  | port (kind : PortKind) (addr : Addr) (width : Width)
  | bit (kind : BitKind) (addr : Addr)
  | manage (op : ManageOp)
  | abandon
  deriving DecidableEq, Repr

/-- The width a port kind carries in body byte 2: 1 BYTE, 2 WORD (R163). -/
def widthOf (b : Byte) : Option Width :=
  if b = 1 then some .byte else if b = 2 then some .word else none

/-- A READ or LOCK-READ body after the header: width and byte address, and nothing else (R26, R163). -/
def parseAccessRead (kind : PortKind) : List Byte → Option Parsed
  | [w, a2, a1, a0] => (widthOf w).map fun width => .port kind (addrOf a2 a1 a0) width
  | _ => none

/-- A WRITE or UNLOCK-WRITE body after the header: width, byte address, and one data byte for BYTE or two, low byte first, for
WORD (R26, R163). -/
def parseAccessWrite (kind : BitVec 16 → PortKind) : List Byte → Option Parsed
  | [w, a2, a1, a0, d] => if w = 1 then some (.port (kind (wordOf 0 d)) (addrOf a2 a1 a0) .byte) else none
  | [w, a2, a1, a0, d0, d1] => if w = 2 then some (.port (kind (wordOf d1 d0)) (addrOf a2 a1 a0) .word) else none
  | _ => none

/-- A BIT-SET, BIT-CLEAR or BIT-TEST body after the header: a zero byte and the bit address (R26, R163). -/
def parseSingleBit (kind : BitKind) : List Byte → Option Parsed
  | [w, a2, a1, a0] => if w = 0 then some (.bit kind (addrOf a2 a1 a0)) else none
  | _ => none

/-- A field width, 1 to 16 (R26). -/
def fieldWidthOk (w : Byte) : Bool := decide (1 ≤ w.toNat ∧ w.toNat ≤ 16)

/-- A FIELD-READ body after the header: width and bit address (R26, R163). -/
def parseFieldRead : List Byte → Option Parsed
  | [w, a2, a1, a0] => if fieldWidthOk w then some (.bit (.fieldRead w.toNat) (addrOf a2 a1 a0)) else none
  | _ => none

/-- A FIELD-WRITE body after the header: width, bit address, and a value below 2 to the power of the width (R26, R163). -/
def parseFieldWrite : List Byte → Option Parsed
  | [w, a2, a1, a0, v0, v1] =>
      if fieldWidthOk w && decide ((wordOf v1 v0).toNat < 2 ^ w.toNat) then
        some (.bit (.fieldWrite w.toNat (wordOf v1 v0)) (addrOf a2 a1 a0))
      else none
  | _ => none

/-- An ABANDON body after the header: nothing (R26, R163). -/
def parseAbandon : List Byte → Option Parsed
  | [] => some .abandon
  | _ => none

/-- The operands of LOAD-REGION (R163). -/
def parseLoadRegion : List Byte → Option ManageOp
  | [e, b2, b1, b0, l2, l1, l0, p, ck, ct, po, la, lo, rs, ws, t2, t1, t0] =>
      some (.loadRegion
        { entry := e, base := addrOf b2 b1 b0, limit := addrOf l2 l1 l0, port := p, completionKind := ck,
          completionTime := ct, posted := po, lanes := la, lockable := lo, readSet := rs, writeSet := ws,
          targetBase := addrOf t2 t1 t0 })
  | _ => none

/-- The operands of RETIRE-REGION (R163). -/
def parseRetireRegion : List Byte → Option ManageOp
  | [e] => some (.retireRegion e)
  | _ => none

/-- The operands of ALTER-RIGHTS (R163). -/
def parseAlterRights : List Byte → Option ManageOp
  | [e, rs, ws] => some (.alterRights e rs ws)
  | _ => none

/-- The operands of READ-REGION (R163). -/
def parseReadRegion : List Byte → Option ManageOp
  | [e] => some (.readRegion e)
  | _ => none

/-- The operands of SET-PORT (R163). -/
def parseSetPort : List Byte → Option ManageOp
  | [p, s, lifetime, limit] => some (.setPort p s lifetime limit)
  | _ => none

/-- The operands of READ-PORT (R163). -/
def parseReadPort : List Byte → Option ManageOp
  | [p] => some (.readPort p)
  | _ => none

/-- The operands of SET-STATION (R163). -/
def parseSetStation : List Byte → Option ManageOp
  | [st, en, d0, d1, d2, d3, i0, i1, i2, i3, r0, r1, r2, r3, f0, f1, f2, f3] =>
      some (.setStation
        { station := st, enable := en, direction := positionsOf d0 d1 d2 d3, inversion := positionsOf i0 i1 i2 i3,
          rise := positionsOf r0 r1 r2 r3, fall := positionsOf f0 f1 f2 f3 })
  | _ => none

/-- The operands of READ-STATION (R163). -/
def parseReadStation : List Byte → Option ManageOp
  | [st] => some (.readStation st)
  | _ => none

/-- The operands of SET-SCAN (R163). -/
def parseSetScan : List Byte → Option ManageOp
  | [period] => some (.setScan period)
  | _ => none

/-- The operands of SET-EVENT (R163). -/
def parseSetEvent : List Byte → Option ManageOp
  | [source, priority] => some (.setEvent source priority)
  | _ => none

/-- The operands of SET-EVENT-TARGET (R163). -/
def parseSetEventTarget : List Byte → Option ManageOp
  | [initiator, window] => some (.setEventTarget initiator window)
  | _ => none

/-- The operands of EVENT-ACK (R163). -/
def parseEventAck : List Byte → Option ManageOp
  | [source, sequence] => some (.eventAck source sequence)
  | _ => none

/-- The operands of EVENT-RESUME: none (R163). -/
def parseEventResume : List Byte → Option ManageOp
  | [] => some .eventResume
  | _ => none

/-- The operands of READ-INCIDENT (R163). -/
def parseReadIncident : List Byte → Option ManageOp
  | [kind, clear] => some (.readIncident kind clear)
  | _ => none

/-- The operands of SET-MANAGERS (R163). -/
def parseSetManagers : List Byte → Option ManageOp
  | [set] => some (.setManagers set)
  | _ => none

/-- The operands of READ-OCCUPANCY: none (R163). -/
def parseReadOccupancy : List Byte → Option ManageOp
  | [] => some .readOccupancy
  | _ => none

/-! ### The bodies of the messages that commands carry -/

/-- A request's body: kind code, header, and the rest (R163). -/
def requestBody (kind : Byte) (h : ReqHeader) (rest : List Byte) : List Byte := kind :: headerByte h :: rest

/-- A MANAGE body: kind 0x0A, header, operation code, operands (R163). -/
def manageBody (code : Byte) (h : ReqHeader) (operands : List Byte) : List Byte :=
  requestBody 0x0A h (code :: operands)

/-- The body of the message that a command takes; absent for the commands that are no message. -/
def bodyOf : Instr → Option (List Byte)
  | .powerOnReset _ _ => none
  | .frameReceived _ => none
  | .farEndPauseMark => none
  | .messageSent => none
  | .signalFound => none
  | .signalLost => none
  | .sync rest => some (0x70 :: rest)
  | .linkReset rest => some (0x71 :: rest)
  | .unknownMessageType first h rest => some (requestBody first h rest)
  | .read h rest => some (requestBody 0x01 h rest)
  | .write h rest => some (requestBody 0x02 h rest)
  | .lockRead h rest => some (requestBody 0x03 h rest)
  | .unlockWrite h rest => some (requestBody 0x04 h rest)
  | .bitSet h rest => some (requestBody 0x05 h rest)
  | .bitClear h rest => some (requestBody 0x06 h rest)
  | .bitTest h rest => some (requestBody 0x07 h rest)
  | .fieldRead h rest => some (requestBody 0x08 h rest)
  | .fieldWrite h rest => some (requestBody 0x09 h rest)
  | .abandon h rest => some (requestBody 0x0B h rest)
  | .loadRegion h o => some (manageBody 0x01 h o)
  | .retireRegion h o => some (manageBody 0x02 h o)
  | .alterRights h o => some (manageBody 0x03 h o)
  | .readRegion h o => some (manageBody 0x04 h o)
  | .setPort h o => some (manageBody 0x05 h o)
  | .readPort h o => some (manageBody 0x06 h o)
  | .setStation h o => some (manageBody 0x07 h o)
  | .readStation h o => some (manageBody 0x08 h o)
  | .setScan h o => some (manageBody 0x09 h o)
  | .setEvent h o => some (manageBody 0x0A h o)
  | .setEventTarget h o => some (manageBody 0x0B h o)
  | .eventAck h o => some (manageBody 0x0C h o)
  | .eventResume h o => some (manageBody 0x0D h o)
  | .readIncident h o => some (manageBody 0x0E h o)
  | .setManagers h o => some (manageBody 0x0F h o)
  | .readOccupancy h o => some (manageBody 0x10 h o)
  | .fixedDelayExpiry _ _ => none
  | .readyIndication _ _ => none
  | .readyTimerExpiry _ => none
  | .lockLifetimeExpiry _ => none
  | .holdRequestRaise _ => none
  | .holdRequestWithdrawal _ => none
  | .holdLimitExpiry _ => none
  | .stationReply _ => none
  | .lineTimerExpiry => none
  | .scanTimerExpiry => none
  | .ackWindowExpiry => none
  | .farEndPauseMarkGone => none

/-! ### Segment accesses under the lane rules -/

/-- Whether an access is one of a NARROW word, which takes two steps (R12). -/
def isNarrowWord (w : PortWork) (lanes : LaneRule) : Bool :=
  decide (w.width = .word) && decide (lanes = .narrow)

/-- The translated address of an access (R9), after the lane rule: a BYTE access in a CROSSED window goes to the other byte of
its word (R11). -/
def translate (f : RegionFields) (width : Width) (addr : Addr) : Addr :=
  let t := addr - f.base + f.targetBase
  if width = .byte ∧ f.lanes = .crossed then t ^^^ 1 else t

/-- The write data of a port kind, absent for the reading kinds. -/
def writeData : PortKind → Option (BitVec 16)
  | .read => none
  | .write d => some d
  | .lockRead => none
  | .unlockWrite d => some d

/-- The data a write step presents (R52). -/
def stepData (w : PortWork) (lanes : LaneRule) (step : StepNo) (d : BitVec 16) : SegmentData :=
  match w.width, lanes, step with
  | .byte, _, _ => .byte (loByte d)
  | .word, .straight, _ => .word (loByte d) (hiByte d)
  | .word, .crossed, _ => .word (hiByte d) (loByte d)
  | .word, .narrow, .one => .byte (loByte d)
  | .word, .narrow, .two => .byte (hiByte d)

/-- The step a port presents on its segment (R52). -/
def segmentStep (w : PortWork) (lanes : LaneRule) (step : StepNo) : SegmentStep where
  address := if step = .two then w.target + 1 else w.target
  width := if lanes = .narrow then .byte else w.width
  write := (writeData w.kind).map (stepData w lanes step)

/-- The byte that the segment gives for an address. -/
def byteAt (bytes : SegmentBytes) (a : Addr) : Byte := if a.getLsbD 0 then bytes.odd else bytes.even

/-- The DATA value of a read whose last step completes with the given bytes on the segment (R11, R12): `low` is the byte step 1
of a NARROW word returned. -/
def readValue (w : PortWork) (lanes : LaneRule) (low : Byte) (bytes : SegmentBytes) : DataValue :=
  match w.width, lanes with
  | .byte, _ => .byte (byteAt bytes w.target)
  | .word, .straight => .word (wordOf bytes.odd bytes.even)
  | .word, .crossed => .word (wordOf bytes.even bytes.odd)
  | .word, .narrow => .word (wordOf (byteAt bytes (w.target + 1)) low)

/-- The outcome of a port slot whose last step succeeded (R58). -/
def successAnswer (w : PortWork) (lanes : LaneRule) (low : Byte) (bytes : SegmentBytes) : Answer :=
  match w.kind with
  | .read => .data (readValue w lanes low bytes)
  | .lockRead => .data (readValue w lanes low bytes)
  | .write _ => .done
  | .unlockWrite _ => .done

/-- The step timer that an entry's discipline starts (R51). -/
def stepTimerOf : Completion → StepTimer
  | .fixed d => .delay d
  | .ready t => .ready t

/-! ### Bit line positions -/

/-- The station of a bit address (R106). -/
def stationOf (a : BitAddr) : StationId := ⟨a.toNat / 32, by have := a.isLt; omega⟩

/-- The position of a bit address in its station (R106). -/
def positionOf (a : BitAddr) : Nat := a.toNat % 32

/-- The number of positions a bit kind covers (R106). -/
def bitWidth : BitKind → Nat
  | .set => 1
  | .clear => 1
  | .test => 1
  | .fieldRead w => w
  | .fieldWrite w _ => w

/-- The positions a bit slot covers, as a set (R106). -/
def bitMask (w : BitWork) : Positions := (BitVec.ofNat 32 (2 ^ bitWidth w.kind - 1)) <<< positionOf w.addr

/-- The value of a bit slot's positions among 32 logical values; bit k belongs to position p + k (R106, R114). -/
def fieldValue (w : BitWork) (logical : Positions) : BitVec 16 :=
  ((logical &&& bitMask w) >>> positionOf w.addr).setWidth 16

/-- The output image of a write kind, formed from the stored image (R115). -/
def formedImage (w : BitWork) (image : Positions) : Positions :=
  match w.kind with
  | .set => image ||| bitMask w
  | .clear => image &&& ~~~ bitMask w
  | .fieldWrite _ v => (image &&& ~~~ bitMask w) ||| ((v.setWidth 32 <<< positionOf w.addr) &&& bitMask w)
  | .test => image
  | .fieldRead _ => image

/-- Whether a bit kind is carried out by a WRITE-STATION (R113). -/
def isBitWrite : BitKind → Bool
  | .set => true
  | .clear => true
  | .test => false
  | .fieldRead _ => false
  | .fieldWrite _ _ => true

/-- The logical values of 32 pin values under an inversion set, and the pin values of logical ones (R106). -/
def inverted (inversion values : Positions) : Positions := values ^^^ inversion

/-- The pin values of a WRITE-STATION: the image, inverted as set, at output positions and 0 at inputs (R109). -/
def writePins (st : Station) (image : Positions) : Positions := inverted st.inversion image &&& st.direction

/-- The DATA value of a bit slot's READ-STATION (R114). -/
def bitReadValue (w : BitWork) (logical : Positions) : DataValue :=
  match w.kind with
  | .fieldRead _ => .word (fieldValue w logical)
  | .test => .byte ((fieldValue w logical).setWidth 8)
  | .set => .byte ((fieldValue w logical).setWidth 8)
  | .clear => .byte ((fieldValue w logical).setWidth 8)
  | .fieldWrite _ _ => .word (fieldValue w logical)

end Sys2Proof.Machine
end

