-- ==== Sys2Proof/Machine/Ops.lean ====
section
/-! DEFINITION. The named operations over the state that the meanings share: reading and writing its parts, handing messages to
the link, raising incidents, region counts and drains, slots and their release, and the chain contexts. -/

namespace Sys2Proof.Machine

/-! ### Writing the parts of the state -/

/-- The state with another link interface. -/
def State.setLink (s : State) (l : LinkUnit) : State := { s with link := l }

/-- The state with one region entry replaced. -/
def State.setRegion (s : State) (e : EntryId) (r : Option RegionRecord) : State :=
  { s with regions := putRow s.regions e r }

/-- The state with one slot replaced. -/
def State.setSlot (s : State) (i : SlotId) (x : Option Slot) : State := { s with slots := putRow s.slots i x }

/-- The state with one initiator record replaced. -/
def State.setInitiator (s : State) (k : Initiator) (r : InitiatorRecord) : State :=
  { s with initiators := putRow s.initiators k r }

/-- The state with another acceptance counter. -/
def State.setAcceptCounter (s : State) (c : BitVec 16) : State := { s with acceptCounter := c }

/-- The state with one chain context replaced. -/
def State.setChain (s : State) (k : Initiator) (c : Chain) : State := { s with chains := putRow s.chains k c }

/-- The state with one port replaced. -/
def State.setPort (s : State) (p : PortId) (x : Port) : State := { s with ports := putRow s.ports p x }

/-- The state with one station record replaced. -/
def State.setStation (s : State) (n : StationId) (x : Station) : State := { s with stations := putRow s.stations n x }

/-- The state with another line unit. -/
def State.setLine (s : State) (l : LineUnit) : State := { s with line := l }

/-- The state with another event unit. -/
def State.setEvents (s : State) (e : EventUnit) : State := { s with events := e }

/-- The state with another management unit. -/
def State.setManagement (s : State) (m : ManagementUnit) : State := { s with management := m }

/-! ### Handing messages to the link -/

/-- Begin the frame of the outbound list's head, if none is on the line and the far end shows no pause mark (R159). -/
def beginFrame (l : LinkUnit) : LinkUnit :=
  match l.sending, l.outbound with
  | none, m :: _ =>
      if l.farPause then l
      else { l with
        sending := some (frameOf (messageBody (Config.freeByte l.frameCount) m)),
        frameCount := l.frameCount + 1 }
  | _, _ => l

/-- The link interface with a message joined to its outbound list, or discarded while DOWN (R159, R160). -/
def enqueue (l : LinkUnit) (m : Message) : LinkUnit :=
  match l.state with
  | .down => l
  | .up => beginFrame { l with outbound := l.outbound ++ [m] }

/-- Hand a message to the link interface (R159, R160). -/
def handOver (m : Message) (s : State) : State := s.setLink (enqueue s.link m)

/-- Hand over a RESPONSE. -/
def respond (r : Response) (s : State) : State := handOver (.response r) s

/-- Answer a request that holds no slot with its own key (R30). -/
def answerKey (k : Initiator) (t : Tag) (a : Answer) (summary : Option Summary) (s : State) : State :=
  respond { initiator := k, tag := t, answer := a, partialMarker := false, summary := summary } s

/-- Hand over a LINK-NOTICE with the strap value and the link reset count as it stands (R158). -/
def handNotice (s : State) : State := handOver (.linkNotice s.link.strap s.link.resetCount) s

/-! ### Incidents -/

/-- An incident record with one raise taken (R124). -/
def raised (r : Incident) (d : Option Detail) : Incident :=
  { r with count := if r.count < Config.maxIncidentCount then r.count + 1 else r.count, detail := d }

/-- Raise an incident at the event unit (R124). Its source's pending state follows from the record (R126). -/
def raiseIncident (k : IncidentKind) (d : Option Detail) (s : State) : State :=
  s.setEvents { s.events with
    incidents := putRow s.events.incidents (incidentIndex k) (raised (row s.events.incidents (incidentIndex k)) d) }

/-! ### Slots and initiator records -/

/-- The region entry a slot's work references: port kinds reference one (R13). -/
def workEntry : Work → Option EntryId
  | .port w => some w.entry
  | .bit _ => none
  | .manage _ => none

/-- The ordinal of a chain role, absent for NONE. -/
def roleOrdinal : ChainRole → Option Nat
  | .none => none
  | .member n => some n
  | .last n => some n

/-- Whether a chain role is LAST. -/
def isLastRole : ChainRole → Bool
  | .last _ => true
  | .none => false
  | .member _ => false

/-- Whether an occupied slot has a key. -/
def hasKey (k : Initiator) (t : Tag) (x : Slot) : Bool := decide (x.initiator = k) && decide (x.tag = t)

/-- The slot that holds a key (R21). -/
def slotOfKey (s : State) (k : Initiator) (t : Tag) : Option SlotId :=
  (List.finRange 32).find? fun i => (row s.slots i).any (hasKey k t)

/-- The FREE slot a request receives: the lowest-numbered one (R20 leaves it open; assumption log entry 6). -/
def freeSlot (s : State) : Option SlotId := (List.finRange 32).find? fun i => (row s.slots i).isNone

/-- The number of FREE slots (R153). -/
def freeSlotCount (s : State) : Nat := (List.finRange 32).countP fun i => (row s.slots i).isNone

/-- How far a sequence number lies behind the acceptance counter (R24); earlier acceptance lies further behind. -/
def behind (s : State) (i : SlotId) : Nat :=
  match row s.slots i with
  | some x => (s.acceptCounter - x.sequence).toNat
  | none => 0

/-- A queue with a slot placed after every slot of earlier acceptance and before every later one (R24, R47). -/
def placeInQueue (s : State) (i : SlotId) : List SlotId → List SlotId
  | [] => [i]
  | q :: rest => if behind s q < behind s i then i :: q :: rest else q :: placeInQueue s i rest

/-- The initiator's occupancy lowered by 1 (R22, R37). -/
def lowerOccupancy (k : Initiator) (s : State) : State :=
  s.setInitiator k { row s.initiators k with occupancy := (row s.initiators k).occupancy - 1 }

/-- The initiator's occupancy raised by 1 (R22, R32). -/
def raiseOccupancy (k : Initiator) (s : State) : State :=
  s.setInitiator k { row s.initiators k with occupancy := (row s.initiators k).occupancy + 1 }

/-- A slot becomes FREE, and its initiator's occupancy falls by 1 (R37). -/
def freeSlotOf (i : SlotId) (k : Initiator) (s : State) : State := lowerOccupancy k (s.setSlot i none)

/-- The end of an abandonment when the occupancy has reached 0 (R42): an ABANDON tag is answered DONE and made absent, and the
mode becomes NORMAL. -/
def endAbandonment (k : Initiator) (s : State) : State :=
  if (row s.initiators k).mode = .abandoning ∧ (row s.initiators k).occupancy = 0 then
    let ended := s.setInitiator k { row s.initiators k with mode := .normal, abandonTag := none }
    match (row s.initiators k).abandonTag with
    | some t => answerKey k t .done none ended
    | none => ended
  else s

/-! ### Responses of slots -/

/-- The partial marker of a slot's response: the outcome is TIMEOUT and the step field is 2 (R36). -/
def partialMarkerOf (x : Slot) (a : Answer) : Bool := decide (a = .fault .timeout) && decide (x.step = .two)

/-- The summary of an initiator's chain as it stands (R102). -/
def chainSummary (s : State) (k : Initiator) : Summary := ⟨(row s.chains k).count, (row s.chains k).failure⟩

/-- Whether a chain slot is in its initiator's member list; a chain slot that is not is detached (R93). -/
def inChain (s : State) (i : SlotId) (x : Slot) : Bool :=
  decide (x.role ≠ .none) && decide (i ∈ (row s.chains x.initiator).members)

/-- Record a slot's final outcome and hand its RESPONSE over, unless it is answered or suppressed (R35 to R38). A LAST member
of the chain carries the summary. -/
def answerSlot (i : SlotId) (x : Slot) (a : Answer) (s : State) : State :=
  let recorded := s.setSlot i (some { x with state := .done, outcome := some (if x.answered then .done else a) })
  if x.answered || x.suppressed then recorded
  else
    respond
      { initiator := x.initiator, tag := x.tag, answer := a, partialMarker := partialMarkerOf x a,
        summary := if isLastRole x.role && inChain s i x then some (chainSummary s x.initiator) else none }
      recorded

/-! ### In-flight counts and drains -/

/-- Complete the pending RETIRE-REGION of a drained entry (R144): its pair leaves the list, its slot is answered DONE and
released. A MANAGE slot references no entry and is in no chain. -/
def answerRetire (e : EntryId) (s : State) : State :=
  match s.management.retires.find? fun r => decide (r.entry = e) with
  | none => s
  | some r =>
      let listed := s.setManagement { s.management with
        retires := s.management.retires.filter fun r => decide (r.entry ≠ e) }
      match slotOfKey listed r.initiator r.tag with
      | none => listed
      | some i =>
          match row listed.slots i with
          | none => listed
          | some x => endAbandonment x.initiator (freeSlotOf i x.initiator (answerSlot i x .done listed))

/-- Raise an entry's in-flight count by 1 (R14, R16). -/
def raiseCount (e : EntryId) (s : State) : State :=
  match row s.regions e with
  | none => s
  | some r => s.setRegion e (some { r with inFlight := r.inFlight + 1 })

/-- Lower an entry's in-flight count by 1 (R15, R16). A DRAINING entry whose count reaches 0 becomes ABSENT, and its RETIRE is
answered (R18). -/
def lowerCount (e : EntryId) (s : State) : State :=
  match row s.regions e with
  | none => s
  | some r =>
      if r.phase = .draining ∧ r.inFlight ≤ 1 then answerRetire e (s.setRegion e none)
      else s.setRegion e (some { r with inFlight := r.inFlight - 1 })

/-- Lower the count of the entry that a slot's work references, if it references one (R37). -/
def lowerWorkCount (w : Work) (s : State) : State :=
  match workEntry w with
  | some e => lowerCount e s
  | none => s

/-! ### Chain contexts -/

/-- A context with a failure recorded: the first is kept, and the state is FAILED (R100). -/
def recordFailure (c : Chain) (ordinal : Nat) (code : FaultCode) : Chain :=
  { c with
    state := .failed,
    failure := match c.failure with
      | some f => some f
      | none => some ⟨ordinal, code⟩ }

/-- A context that has received a member (R94): the count rises, staying at 255, and a CLOSED context opens. -/
def receiveMember (c : Chain) : Chain :=
  { c with
    count := if c.count < Config.maxChainMembers then c.count + 1 else c.count,
    state := if c.state = .closed then .opened else c.state }

/-- Report a slot's outcome to the chain unit (R35, R100): a FAULT of a member that is in the list and not suppressed. -/
def reportToChain (i : SlotId) (x : Slot) (a : Answer) (s : State) : State :=
  match roleOrdinal x.role, a with
  | some n, .fault code =>
      if !x.suppressed && inChain s i x then
        s.setChain x.initiator (recordFailure (row s.chains x.initiator) n code)
      else s
  | _, _ => s

/-- The chain unit is told of a release (R93, R102): the slot leaves the member list, and the release of the chain's LAST
clears the context. -/
def leaveChain (i : SlotId) (x : Slot) (s : State) : State :=
  if inChain s i x then
    if isLastRole x.role then s.setChain x.initiator Chain.closed
    else s.setChain x.initiator
      { row s.chains x.initiator with members := (row s.chains x.initiator).members.erase i }
  else s

/-! ### Completion and release -/

/-- Release a slot (R37): it becomes FREE, the occupancy and the entry's count fall, the chain unit is told, and an abandonment
whose last slot it was ends. -/
def releaseSlot (i : SlotId) (x : Slot) (s : State) : State :=
  endAbandonment x.initiator (leaveChain i x (lowerWorkCount x.work (freeSlotOf i x.initiator s)))

/-- A slot completes with an outcome (R35 to R38): the chain unit is told of the outcome, the response is handed over where one
is due, and the slot is released. What the release makes eligible is not part of it. -/
def finishSlot (i : SlotId) (a : Answer) (s : State) : State :=
  match row s.slots i with
  | none => s
  | some x => releaseSlot i x (answerSlot i x a (reportToChain i x a s))

/-- Complete slots SKIPPED, one after another (R99, R103). -/
def skipSlots : List SlotId → State → State
  | [], s => s
  | i :: rest, s => skipSlots rest (finishSlot i .skipped s)

/-- Whether a slot is WAITING. -/
def isWaiting (s : State) (i : SlotId) : Bool := (row s.slots i).any fun x => decide (x.state = .waiting)

/-- The sweep of a chain: its WAITING members are completed SKIPPED in ordinal order (R99, R103). -/
def sweepChain (k : Initiator) (s : State) : State :=
  skipSlots ((row s.chains k).members.filter (isWaiting s)) s

/-- A slot completes with a FAULT that its chain records; the release starts the sweep of a FAILED chain (R99, R100). Used where
no member can become QUEUED, because the outcome is a FAULT. -/
def failSlot (i : SlotId) (code : FaultCode) (s : State) : State :=
  match row s.slots i with
  | none => s
  | some x =>
      let member := inChain s i x
      let finished := finishSlot i (.fault code) s
      if member ∧ (row finished.chains x.initiator).state = .failed then sweepChain x.initiator finished else finished

end Sys2Proof.Machine
end

