-- ==== Sys2Proof/Machine/EventOps.lean ====
section
/-! DEFINITION. The event unit's shared operations: building and sending a message (R129), selection (R128), the delivered copy
(R119), acknowledgement (R131), withdrawal (R133) and resending (R130, R132). -/

namespace Sys2Proof.Machine

/-- Make a station's delivered copy (R119, R129). -/
def setDelivered (n : StationId) (copy : Option Positions) (s : State) : State :=
  s.setStation n { row s.stations n with delivered := copy }

/-- The payload of a source as it stands (R129). -/
def payloadOf (s : State) : Source → Payload
  | .station n => .latched (row s.stations n).latched
  | .incident k =>
      .incident (row s.events.incidents (incidentIndex k)).count (row s.events.incidents (incidentIndex k)).detail

/-- The message built for a source (R129): the raised sequence number, the source, its priority and its payload. -/
def builtMessage (s : State) (src : Source) : EventMessage where
  sequence := s.events.sequence + 1
  source := src
  priority := sourcePriority s src
  payload := payloadOf s src

/-- The bit line controller's part of a build (R129): a station's delivered copy is made equal to its latched set. -/
def copyForSource (src : Source) (s : State) : State :=
  match src with
  | .station n => setDelivered n (some (row s.stations n).latched) s
  | .incident _ => s

/-- The event unit with a message built (R129). -/
def eventsAfterBuild (e : EventUnit) (m : EventMessage) : EventUnit :=
  { e with
    sequence := m.sequence
    delivery := .awaitAck m
    resends := 0
    ackTimer := .running e.ackWindow }

/-- Build and send the message of a source (R129). -/
def buildMessage (src : Source) (s : State) : State :=
  let m := builtMessage s src
  handOver (.event s.events.target m) (copyForSource src (s.setEvents (eventsAfterBuild s.events m)))

/-- Selection (R128), carried out if its conditions hold. -/
def selectEvent (s : State) : State :=
  if selectionOpen s then
    match chosenSource s with
    | some src => buildMessage src s
    | none => s
  else s

/-- The event unit back in IDLE: timer stopped, message absent, resend count 0 (R131, R133). -/
def eventsIdle (e : EventUnit) : EventUnit := { e with delivery := .idle, resends := 0, ackTimer := .stopped }

/-- The bit line controller's part of a withdrawal (R133): a station's delivered copy is made absent. -/
def dropCopy (src : Source) (s : State) : State :=
  match src with
  | .station n => setDelivered n none s
  | .incident _ => s

/-- Withdraw the message in flight, if there is one (R133). Selection is not part of it: every event ends with it. -/
def withdrawMessage (s : State) : State :=
  match inFlightMessage s with
  | none => s
  | some m => dropCopy m.source (s.setEvents (eventsIdle s.events))

/-- The incident record with the count that a message carried acknowledged (R131). -/
def acknowledgeIncident (r : Incident) : Payload → Incident
  | .incident count _ => { r with acknowledged := count }
  | .latched _ => r

/-- Clear what the acknowledged message carried (R131 steps 1 and 2). -/
def clearCarried (m : EventMessage) (s : State) : State :=
  match m.source with
  | .station n =>
      let st := row s.stations n
      s.setStation n { st with latched := st.latched &&& ~~~ st.delivered.getD 0, delivered := none }
  | .incident k =>
      s.setEvents { s.events with
        incidents := putRow s.events.incidents (incidentIndex k)
          (acknowledgeIncident (row s.events.incidents (incidentIndex k)) m.payload) }

/-- Take a matching acknowledgement, but for selection and the answer (R131 steps 1 to 3). -/
def acknowledge (m : EventMessage) (s : State) : State :=
  let cleared := clearCarried m s
  cleared.setEvents (eventsIdle cleared.events)

/-- Hand the message in flight over again with a resend count, and start the ack window afresh (R130, R132). -/
def resendMessage (m : EventMessage) (resends : Nat) (s : State) : State :=
  handOver (.event s.events.target m)
    (s.setEvents { s.events with
      delivery := .awaitAck m, resends := resends, ackTimer := .running s.events.ackWindow })

end Sys2Proof.Machine
end

