-- ==== Sys2Proof/Machine/LineOps.lean ====
section
/-! DEFINITION. The bit line controller's shared operations: the line arbiter with the taking of requests and polls (R113, R118,
R120), scan cycles (R118), presence (R107) and edge taking (R119). -/

namespace Sys2Proof.Machine

/-- The bit work of a slot, absent for a FREE slot and for other kinds. -/
def bitWorkOf (s : State) (i : SlotId) : Option BitWork :=
  match row s.slots i with
  | some x =>
    match x.work with
    | .bit w => some w
    | .port _ => none
    | .manage _ => none
  | none => none

/-- What taking a bit slot comes to (R113): NOSTATION, DIRECTION, or the command of its line operation. -/
inductive IssueCheck where
  | refused (code : FaultCode)
  | started (command : LineCommand)
  deriving DecidableEq, Repr

/-- The command of a bit slot's line operation: READ-STATION for BIT-TEST and FIELD-READ, WRITE-STATION for the others, formed
from the stored image when the operation starts (R114, R115). -/
def lineCommandOf (st : Station) (w : BitWork) : LineCommand :=
  if isBitWrite w.kind then
    .writeStation st.direction (writePins st (formedImage w st.image)) (formedImage w st.image)
  else .readStation

/-- The checks of a bit slot when the arbiter takes it (R113). -/
def issueCheck (st : Station) (w : BitWork) : IssueCheck :=
  if st.presence = .disabled ∨ st.presence = .absent then .refused .noStation
  else if isBitWrite w.kind ∧ bitMask w &&& ~~~ st.direction ≠ 0 then .refused .direction
  else .started (lineCommandOf st w)

/-- The line unit with the head of its queue taken. -/
def LineUnit.dequeue (l : LineUnit) : LineUnit := { l with queue := l.queue.tail }

/-- The arbiter takes a slot (R113): it becomes ACTIVE, and is completed at issue or its line operation is started. -/
def takeBitSlot (i : SlotId) (s : State) : State :=
  match row s.slots i, bitWorkOf s i with
  | some x, some w =>
      let taken := s.setSlot i (some { x with state := .active })
      match issueCheck (row s.stations (stationOf w.addr)) w with
      | .refused code => failSlot i code taken
      | .started command =>
          taken.setLine { taken.line with
            op := some { station := stationOf w.addr, command := command, origin := .request i }
            previous := .request }
  | _, _ => s

/-- The arbiter takes the poll of a station (R118): a READ-STATION starts, and the cursor becomes the station's number plus 1. -/
def takePoll (n : StationId) (s : State) : State :=
  s.setLine { s.line with
    op := some { station := n, command := .readStation, origin := .poll }
    previous := .poll
    cycle := some (n.val + 1) }

/-- Whether the arbiter takes the head of the queue rather than an outstanding poll (R120 cases 1 to 3). -/
def requestGoesFirst (s : State) (poll : Option StationId) : Bool :=
  match poll with
  | none => true
  | some _ => decide (s.line.previous = .poll)

/-- The line arbiter (R120), deciding again after each slot completed at issue; `fuel` bounds how many slots it may take. -/
def lineArbiterFor : (fuel : Nat) → State → State
  | 0, s => s
  | fuel + 1, s =>
      if s.line.op = none then
        match s.line.queue, outstandingPoll s with
        | i :: _, poll =>
            if requestGoesFirst s poll then
              lineArbiterFor fuel (takeBitSlot i (s.setLine s.line.dequeue))
            else
              match poll with
              | some n => takePoll n s
              | none => s
        | [], some n => takePoll n s
        | [], none => s
      else s

/-- The line arbiter, consulted (R120). Each decision takes a slot from the queue or starts an operation, so the queue's length
bounds the decisions. -/
def lineArbiter (s : State) : State := lineArbiterFor (s.line.queue.length + 1) s

/-- A QUEUED slot joins the line queue in acceptance order, and the arbiter is consulted if the line is free (R113, R120). -/
def joinLine (i : SlotId) (s : State) : State :=
  lineArbiter (s.setLine { s.line with queue := placeInQueue s i s.line.queue })

/-! ### Scan cycles -/

/-- A cycle begins (R118): the due mark is cleared, and the running cycle has cursor 0, unless no station is enabled, when it
ends at its beginning. -/
def beginCycle (s : State) : State :=
  s.setLine { s.line with cycleDue := false, cycle := if (nextPoll s 0).isSome then some 0 else none }

/-- The end of a running cycle, in any event in which no poll of it is in flight and no station at or above its cursor is
enabled; a due cycle then begins (R118). -/
def checkCycleEnd (s : State) : State :=
  match s.line.cycle with
  | none => s
  | some cursor =>
      if pollInFlight s ∨ (nextPoll s cursor).isSome then s
      else if s.line.cycleDue then beginCycle s
      else s.setLine { s.line with cycle := none }

/-! ### Presence and samples -/

/-- A station after a reply (R107). -/
def afterReply (st : Station) : Station :=
  if st.presence = .disabled then st else { st with presence := .present, timeouts := 0 }

/-- A station after a line timeout (R107). -/
def afterTimeout (st : Station) : Station :=
  match st.presence with
  | .disabled => st
  | .absent => st
  | .unknown =>
      { st with
        timeouts := st.timeouts + 1
        presence := if Config.lostAfterTimeouts ≤ st.timeouts + 1 then .absent else .unknown }
  | .present =>
      { st with
        timeouts := st.timeouts + 1
        presence := if Config.lostAfterTimeouts ≤ st.timeouts + 1 then .absent else .present }

/-- Whether a line timeout makes a station ABSENT, which raises STATION-LOST (R107). -/
def losesStation (st : Station) : Bool :=
  decide (st.presence ≠ .absent) && decide ((afterTimeout st).presence = .absent)

/-- The edges of a poll reply (R119): rises in the rise set and falls in the fall set. -/
def edges (st : Station) (last now : Positions) : Positions :=
  (st.rise &&& ~~~ last &&& now) ||| (st.fall &&& last &&& ~~~ now)

/-- A station's record after a poll reply's logical values (R118): the sample is loaded without edges when it was absent or the
station was ABSENT, and otherwise edges are taken and the sample replaced. `before` is the record before the presence update. -/
def afterPollReply (before st : Station) (pins : Positions) : Station :=
  match before.lastSample with
  | none => { st with lastSample := some (inverted st.inversion pins) }
  | some last =>
      if before.presence = .absent then { st with lastSample := some (inverted st.inversion pins) }
      else { st with
        lastSample := some (inverted st.inversion pins)
        latched := st.latched ||| edges st last (inverted st.inversion pins) }

end Sys2Proof.Machine
end

