-- ==== Sys2Proof/Machine/PortOps.lean ====
section
/-! DEFINITION. The target ports' shared operations: the issue arbiter with issue and grant (R49, R51, R85), joining a queue (R47,
R64), the removal of a lock record (R69), and the end of a step (R58 to R61). -/

namespace Sys2Proof.Machine

/-! ### Issue -/

/-- The port work of a slot, absent for a FREE slot and for other kinds. -/
def portWorkOf (s : State) (i : SlotId) : Option PortWork :=
  match row s.slots i with
  | some x =>
    match x.work with
    | .port w => some w
    | .bit _ => none
    | .manage _ => none
  | none => none

/-- The initiator of an occupied slot. -/
def slotInitiator (s : State) (i : SlotId) : Option Initiator := (row s.slots i).map Slot.initiator

/-- Take an occupied slot into a state. -/
def setSlotState (i : SlotId) (st : SlotState) (s : State) : State :=
  match row s.slots i with
  | some x => s.setSlot i (some { x with state := st })
  | none => s

/-- The lock record that the issue of a LOCK-READ creates (R72). -/
def newLock (owner : Initiator) (w : PortWork) (lifetime : Nat) : LockRecord where
  owner := owner
  address := w.addr
  width := w.width
  entry := w.entry
  timer := .running lifetime

/-- What an issue does to the port's lock record (R72, R75): a LOCK-READ creates it, the owner's UNLOCK-WRITE stops its
lifetime timer. -/
def lockAtIssue (owner : Initiator) (w : PortWork) (port : Port) : Option LockRecord :=
  match w.kind with
  | .lockRead => some (newLock owner w port.lockLifetime)
  | .unlockWrite _ => port.lock.map fun l => if l.owner = owner then { l with timer := .stopped } else l
  | .read => port.lock
  | .write _ => port.lock

/-- Issue a slot at a port (R51): it leaves the queue and becomes ACTIVE, the port becomes ISSUED with step 1 presented and the
step timer started by the entry's discipline, and the lock record follows R72 and R75. -/
def issueSlot (p : PortId) (i : SlotId) (s : State) : State :=
  match row s.slots i, portWorkOf s i with
  | some x, some w =>
      match row s.regions w.entry with
      | some r =>
          let port := row s.ports p
          let issued := (setSlotState i .active s).setPort p
            { port with
              queue := port.queue.erase i
              lock := lockAtIssue x.initiator w port
              state := .issued
                { slot := i, step := .one, lowByte := none, timer := stepTimerOf r.fields.completion,
                  presented := segmentStep w r.fields.lanes .one } }
          match w.kind with
          | .lockRead => raiseCount w.entry issued
          | .read => issued
          | .write _ => issued
          | .unlockWrite _ => issued
      | none => s
  | _, _ => s

/-- Grant the hold (R85): the gate becomes GRANTED, the port HELD, and the hold-limit timer starts unless the limit is 0. -/
def grantHold (p : PortId) (s : State) : State :=
  let port := row s.ports p
  s.setPort p { port with
    gate := .granted
    state := .held
    holdTimer := if port.holdLimit = 0 then .stopped else .running port.holdLimit }

/-- The slot the arbiter issues when it grants no hold (R49 cases 2 and 3): the owner's oldest while a lock stands, else the head
of the queue. -/
def arbiterPick (s : State) (port : Port) : Option SlotId :=
  match port.lock with
  | some l => port.queue.find? fun i => decide (slotInitiator s i = some l.owner)
  | none => port.queue.head?

/-- The issue arbiter (R49), consulted in an event that leaves the port IDLE (R50). -/
def arbiter (p : PortId) (s : State) : State :=
  let port := row s.ports p
  if port.state = .idle then
    if port.gate = .pending ∧ port.lock = none then grantHold p s
    else
      match arbiterPick s port with
      | some i => issueSlot p i s
      | none => s
  else s

/-- A QUEUED slot joins its port (R47, R64): completed PORTDOWN at once while the port is DOWN, else placed in acceptance order,
and the arbiter is consulted if the port is IDLE. -/
def joinPort (p : PortId) (i : SlotId) (s : State) : State :=
  let port := row s.ports p
  match port.setting with
  | .down => failSlot i .portDown s
  | .up => arbiter p (s.setPort p { port with queue := placeInQueue s i port.queue })

/-! ### Lock removal -/

/-- Whether a slot is an UNLOCK-WRITE of an initiator. -/
def isUnlockOf (s : State) (owner : Initiator) (i : SlotId) : Bool :=
  match portWorkOf s i with
  | some w =>
      match w.kind with
      | .unlockWrite _ => decide (slotInitiator s i = some owner)
      | .read => false
      | .write _ => false
      | .lockRead => false
  | none => false

/-- Complete slots with LOCKLOST, one after another (R69). An UNLOCK-WRITE is in no chain. -/
def loseUnlocks : List SlotId → State → State
  | [], s => s
  | i :: rest, s => loseUnlocks rest (finishSlot i (.fault .lockLost) s)

/-- The removal of a port's lock record but for the arbiter (R69 steps 1 to 4). -/
def dropLock (p : PortId) (l : LockRecord) (expired : Bool) (s : State) : State :=
  let lost := (row s.ports p).queue.filter (isUnlockOf s l.owner)
  let kept := (row s.ports p).queue.filter fun i => !isUnlockOf s l.owner i
  let removed := lowerCount l.entry (s.setPort p { row s.ports p with lock := none, queue := kept })
  let told := loseUnlocks lost removed
  if expired then raiseIncident .lockExpired (some (.portAddress p l.address)) told else told

/-- The removal of a port's lock record (R69), whatever the cause; `expired` when it is the expiry of the lifetime timer. The
arbiter is consulted if the port is IDLE. -/
def removeLock (p : PortId) (expired : Bool) (s : State) : State :=
  match (row s.ports p).lock with
  | none => s
  | some l => arbiter p (dropLock p l expired s)

/-! ### Hold gate -/

/-- A raise taken by a port (R84): on an UP port with gate NONE the gate becomes PENDING and an IDLE port's arbiter is consulted;
a DOWN port does not take it. -/
def takeRaise (p : PortId) (s : State) : State :=
  let port := row s.ports p
  if port.setting = .up ∧ port.gate = .none then arbiter p (s.setPort p { port with gate := .pending }) else s

end Sys2Proof.Machine
end

