-- ==== Sys2Proof/Machine/ChainOps.lean ====
section
/-! DEFINITION. Routing and serialisation: a slot joins the queue of its destination (R33), a chain's next member is made
eligible (R98, R99), and the completion of a slot with everything its release starts (R35 to R37). -/

namespace Sys2Proof.Machine

/-- A slot becomes QUEUED and joins the queue of its destination (R33, R98). A MANAGE slot joins the management unit's queue. -/
def joinDestination (i : SlotId) (w : Work) (s : State) : State :=
  let queued := setSlotState i .queued s
  match w with
  | .port pw => joinPort pw.port i queued
  | .bit _ => joinLine i queued
  | .manage _ => queued.setManagement { queued.management with queue := placeInQueue queued i queued.management.queue }

/-- The new head of a chain's member list is made eligible (R98, R99): it is placed QUEUED while the context is OPEN, and while
it is FAILED the WAITING members are skipped. -/
def advanceChain (k : Initiator) (s : State) : State :=
  match (row s.chains k).state, (row s.chains k).members with
  | .opened, i :: _ =>
      match row s.slots i with
      | some x => if x.state = .waiting then joinDestination i x.work s else s
      | none => s
  | .failed, _ => sweepChain k s
  | .opened, [] => s
  | .closed, _ => s

/-- The completion of a slot (R35 to R37, R98, R99): it is finished, and the release of a chain's head makes the next member
eligible in the same event. -/
def completeSlot (i : SlotId) (a : Answer) (s : State) : State :=
  match row s.slots i with
  | none => s
  | some x =>
      let member := inChain s i x
      let finished := finishSlot i a s
      if member then advanceChain x.initiator finished else finished

end Sys2Proof.Machine
end

