-- ==== Sys2Proof/Machine/StepOps.lean ====
section
/-! DEFINITION. The end of a target step: success and failure (R53 to R55), the second step of a NARROW word (R59, R60), and the
end of a slot's service (R58, R61, R74, R75). -/

namespace Sys2Proof.Machine

/-- Whether the end of a service removes the lock record (R74, R75): a failed LOCK-READ, and an UNLOCK-WRITE whether it
succeeded or failed. -/
def endsLock (kind : PortKind) (failed : Bool) : Bool :=
  match kind with
  | .lockRead => failed
  | .unlockWrite _ => true
  | .read => false
  | .write _ => false

/-- The port becomes IDLE, with current slot and step absent and the step timer stopped (R58 steps 2 and 3). -/
def idlePort (p : PortId) (s : State) : State := s.setPort p { row s.ports p with state := .idle }

/-- The lock's part of an end of service, before the outcome is reported (R74, R75). -/
def lockAtEnd (p : PortId) (w : PortWork) (failed : Bool) (s : State) : State :=
  if endsLock w.kind failed then removeLock p false s else s

/-- The POSTED-FAIL incident of an answered slot whose service failed (R61). -/
def postedFailAtEnd (p : PortId) (x : Slot) (w : PortWork) (failed : Bool) (s : State) : State :=
  if failed && x.answered then raiseIncident .postedFail (some (.portAddress p w.target)) s else s

/-- The end of a slot's service (R58): the lock follows R74 and R75, a failed posted write raises POSTED-FAIL, the outcome is
reported, the port becomes IDLE and its arbiter is consulted. -/
def endService (p : PortId) (i : SlotId) (a : Answer) (failed : Bool) (s : State) : State :=
  match row s.slots i, portWorkOf s i with
  | some x, some w =>
      arbiter p (idlePort p (completeSlot i a (postedFailAtEnd p x w failed (lockAtEnd p w failed s))))
  | _, _ => arbiter p (idlePort p s)

/-- Step 2 of a NARROW word is presented at once, with its timer started afresh (R59). -/
def presentStepTwo (p : PortId) (cur : Issued) (x : Slot) (w : PortWork) (f : RegionFields) (bytes : SegmentBytes)
    (s : State) : State :=
  let stepped := s.setSlot cur.slot (some { x with step := .two })
  stepped.setPort p { row s.ports p with
    state := .issued
      { slot := cur.slot, step := .two,
        lowByte := match writeData w.kind with
          | none => some (byteAt bytes w.target)
          | some _ => none
        timer := stepTimerOf f.completion, presented := segmentStep w f.lanes .two } }

/-- A step completes successfully with the given bytes on the segment (R53, R54, R58, R59). -/
def stepSucceeds (p : PortId) (cur : Issued) (bytes : SegmentBytes) (s : State) : State :=
  match row s.slots cur.slot, portWorkOf s cur.slot with
  | some x, some w =>
      match row s.regions w.entry with
      | some r =>
          if isNarrowWord w r.fields.lanes && decide (cur.step = .one) then presentStepTwo p cur x w r.fields bytes s
          else endService p cur.slot (successAnswer w r.fields.lanes (cur.lowByte.getD 0) bytes) false s
      | none => s
  | _, _ => s

/-- A READY step's timer expires (R55, R60): READY-TIMEOUT is raised with the address the failed step presents, and the service
ends with FAULT TIMEOUT at that step. -/
def stepFails (p : PortId) (cur : Issued) (s : State) : State :=
  endService p cur.slot (.fault .timeout) true
    (raiseIncident .readyTimeout (some (.portAddress p cur.presented.address)) s)

/-- Complete a port's queued slots without issue when it is set DOWN (R63 step 2): a posted write raises POSTED-FAIL and is
released, any other slot is answered PORTDOWN. -/
def flushQueue (p : PortId) : List SlotId → State → State
  | [], s => s
  | i :: rest, s =>
      match row s.slots i, portWorkOf s i with
      | some x, some w =>
          if x.answered then
            flushQueue p rest (finishSlot i .done (raiseIncident .postedFail (some (.portAddress p w.target)) s))
          else flushQueue p rest (failSlot i .portDown s)
      | _, _ => flushQueue p rest s

/-- A gate after a port is set DOWN: a PENDING hold is dropped, a GRANTED one stays (R63 step 4, R89). -/
def gateAfterDown : Gate → Gate
  | .none => .none
  | .pending => .none
  | .granted => .granted

/-- A port's setting changes from UP to DOWN (R63). The PENDING gate is dropped before the lock record is removed, so that the
removal's arbiter finds no hold to grant (R89; assumption log entry 8). -/
def setPortDown (p : PortId) (s : State) : State :=
  let port := row s.ports p
  removeLock p false
    (flushQueue p port.queue
      (s.setPort p { port with setting := .down, queue := [], gate := gateAfterDown port.gate }))

/-- A port's setting changes from DOWN to UP (R65): the hold request line is sampled, and a raise is taken if it is asserted. -/
def setPortUp (p : PortId) (s : State) : State :=
  let port := row s.ports p
  let up := s.setPort p { port with setting := .up }
  if port.holdLine then takeRaise p up else up

end Sys2Proof.Machine
end

