-- ==== Sys2Proof/Machine/Abandonment.lean ====
section
/-! DEFINITION. Abandonment (R39 to R43, R79, R104) of one initiator or of all eight, and the link reset (R161). -/

namespace Sys2Proof.Machine

/-- Do something for each of a list of things, in order. -/
def forEach {α : Type} (f : α → State → State) : List α → State → State
  | [], s => s
  | x :: rest, s => forEach f rest (f x s)

/-- The mode becomes ABANDONING, with the ABANDON tag given or absent (R40 step 1, R43). -/
def startMode (tag : Option Tag) (k : Initiator) (s : State) : State :=
  s.setInitiator k { row s.initiators k with mode := .abandoning, abandonTag := tag }

/-- Suppress a slot of the abandoned initiators if it is ACTIVE (R40 step 4). -/
def suppressSlot (who : InitiatorSet) (i : SlotId) (s : State) : State :=
  match row s.slots i with
  | some x =>
      if who.has x.initiator ∧ x.state = .active then s.setSlot i (some { x with suppressed := true }) else s
  | none => s

/-- A chain context is cleared (R40 step 6, R104). -/
def clearChain (k : Initiator) (s : State) : State := s.setChain k Chain.closed

/-- Whether abandonment drops a slot: WAITING or QUEUED, and not answered (R40 step 2). -/
def dropsSlot (who : InitiatorSet) (x : Slot) : Bool :=
  who.has x.initiator && !x.answered && (decide (x.state = .waiting) || decide (x.state = .queued))

/-- A slot leaves the queue it is in (R33, R47, R113). -/
def leaveQueues (i : SlotId) (w : Work) (s : State) : State :=
  match w with
  | .port pw => s.setPort pw.port { row s.ports pw.port with queue := (row s.ports pw.port).queue.erase i }
  | .bit _ => s.setLine { s.line with queue := s.line.queue.erase i }
  | .manage _ => s.setManagement { s.management with queue := s.management.queue.erase i }

/-- Drop a slot of the abandoned initiators (R40 step 2): out of its queue, and released with no response. The chain context is
CLOSED already, so nothing becomes eligible (R104). -/
def dropSlot (who : InitiatorSet) (i : SlotId) (s : State) : State :=
  match row s.slots i with
  | some x =>
      if dropsSlot who x then lowerWorkCount x.work (freeSlotOf i x.initiator (leaveQueues i x.work s)) else s
  | none => s

/-- Remove a port's lock record if an abandoned initiator owns it (R40 step 5, R79). -/
def dropOwnedLock (who : InitiatorSet) (p : PortId) (s : State) : State :=
  if (row s.ports p).lock.any fun l => who.has l.owner then removeLock p false s else s

/-- The initiators of a set, in the order of their numbers. -/
def initiatorsOf (who : InitiatorSet) : List Initiator := (List.finRange 8).filter fun k => who.has k

/-- Abandonment up to the removal of the locks (R40 steps 1 to 6, R43), for every initiator of the set in one event: each step is
done for all of them before the next. ACTIVE slots are suppressed before the drops, so that a drain that a drop ends finds its
RETIRE-REGION slot suppressed (R18, R19; assumption log entry 7). -/
def abandonWork (who : InitiatorSet) (tag : Option Tag) (s : State) : State :=
  let modes := forEach (startMode tag) (initiatorsOf who) s
  let suppressed := forEach (suppressSlot who) (List.finRange 32) modes
  let cleared := forEach clearChain (initiatorsOf who) suppressed
  let dropped := forEach (dropSlot who) (List.finRange 32) cleared
  forEach (dropOwnedLock who) (List.finRange 4) dropped

/-- The abandonment of one initiator by an ABANDON request (R39 to R42): the message in flight is withdrawn if the initiator is
the event target, and the abandonment ends at once if no slot is left. -/
def abandonInitiator (k : Initiator) (tag : Tag) (s : State) : State :=
  let worked := abandonWork (InitiatorSet.single k) (some tag) s
  endAbandonment k (if worked.events.target = k then withdrawMessage worked else worked)

/-- Every initiator. -/
def everyInitiator : InitiatorSet := 0xFF

/-- The abandonment of all eight by the link reset, with the ABANDON tag absent, and the withdrawal of the message in flight
whatever its target (R43, R133, R161). -/
def abandonAll (s : State) : State :=
  forEach endAbandonment (List.finRange 8) (withdrawMessage (abandonWork everyInitiator none s))

/-- The link reset count raised by 1, from 65535 to 0 (R158). -/
def raiseResetCount (s : State) : State := s.setLink { s.link with resetCount := s.link.resetCount + 1 }

/-- The link reset that a LINK-RESET raises (R161): buffer and list are kept, and a LINK-NOTICE is handed over after the rest. -/
def linkResetByMessage (s : State) : State := handNotice (abandonAll (raiseResetCount s))

/-- A link interface that has lost signal (R157). -/
def signalGone (l : LinkUnit) : LinkUnit :=
  { l with state := .down, signal := false, framing := .hunting, rx := [], outbound := [], sending := none }

/-- The loss of signal (R157, R161): while UP it raises the link reset, while DOWN it only discards the receive buffer. -/
def loseSignal (s : State) : State :=
  match s.link.state with
  | .down => s.setLink (signalGone s.link)
  | .up =>
      let raised := raiseResetCount s
      abandonAll (raised.setLink (signalGone raised.link))

end Sys2Proof.Machine
end

