-- ==== Sys2Proof/Machine/Acceptance.lean ====
section
/-! DEFINITION. Acceptance of a request: lookup and the region checks (R4 to R7), the lock checks (R70, R71), the checks of the
other kinds (R29), the acceptance order (R25), the effect of each refusal (R30, R94 to R96, R103), and allocation and routing
(R32 to R34, R97). -/

namespace Sys2Proof.Machine

/-- What the checks of step 7 come to: the outcome of the first that fails, or the work of the slot to allocate (R25). -/
inductive Checked where
  | refused (a : Answer)
  | passed (w : Work)
  deriving DecidableEq, Repr

/-- What the acceptance order decides of a request (R25). -/
inductive Verdict where
  /-- Refused; the chain context is untouched (R30). -/
  | refused (a : Answer)
  /-- A member refused SKIPPED at step 4, which the chain has received (R95). -/
  | skipped
  /-- A member refused CHAINLONG at step 5 (R96). -/
  | chainLong
  /-- A member refused at step 7 with a fault its chain records (R30). -/
  | failed (code : FaultCode)
  /-- Accepted: a slot is allocated. -/
  | accepted (w : Work)
  /-- An ABANDON that is carried out (R39). -/
  | abandon
  deriving DecidableEq, Repr

/-! ### Region map -/

/-- Whether an address lies in a window (R4). -/
def inWindow (f : RegionFields) (a : Addr) : Bool := decide (f.base ≤ a) && decide (a ≤ f.limit)

/-- Lookup of a byte address: the present entry whose window holds it (R4). By R3 there is at most one. -/
def lookup (s : State) (a : Addr) : Option EntryId :=
  (List.finRange 48).find? fun e => (row s.regions e).any fun r => inWindow r.fields a

/-- Whether an initiator has the right a port kind needs (R6). -/
def hasRight (f : RegionFields) (k : Initiator) : PortKind → Bool
  | .read => f.readSet.has k
  | .write _ => f.writeSet.has k
  | .lockRead => f.readSet.has k && f.writeSet.has k
  | .unlockWrite _ => f.writeSet.has k

/-- Whether a slot is an occupied LOCK-READ of an initiator for a port, in whatever state (R70). -/
def isLockReadOf (k : Initiator) (p : PortId) (x : Slot) : Bool :=
  decide (x.initiator = k) &&
    match x.work with
    | .port w => decide (w.port = p) && decide (w.kind = .lockRead)
    | .bit _ => false
    | .manage _ => false

/-- Whether an initiator already has a claim on a port's lock (R70). -/
def hasLockClaim (s : State) (k : Initiator) (p : PortId) : Bool :=
  (row s.ports p).lock.any (fun l => decide (l.owner = k))
    || (List.finRange 32).any fun i => (row s.slots i).any (isLockReadOf k p)

/-- The lock checks of an UNLOCK-WRITE (R71). -/
def unlockCheck (s : State) (k : Initiator) (p : PortId) (addr : Addr) (width : Width) : Option FaultCode :=
  match (row s.ports p).lock with
  | none => some .lockLost
  | some l =>
      if l.owner ≠ k then some .lockLost
      else if l.address ≠ addr ∨ l.width ≠ width then some .lockAddr
      else none

/-- The lock checks of step 7 of R5 (R70, R71). -/
def lockCheck (s : State) (k : Initiator) (p : PortId) (kind : PortKind) (addr : Addr) (width : Width) : Option FaultCode :=
  match kind with
  | .lockRead => if hasLockClaim s k p then some .lockNest else none
  | .unlockWrite _ => unlockCheck s k p addr width
  | .read => none
  | .write _ => none

/-- The slot work of a port-kind request that passes R5 (R9, R32). -/
def portWorkFor (e : EntryId) (f : RegionFields) (kind : PortKind) (addr : Addr) (width : Width) : PortWork where
  kind := kind
  addr := addr
  width := width
  entry := e
  target := translate f width addr
  port := f.port

/-- The region map's checks of a port-kind request, in their order (R5). -/
def portCheck (s : State) (k : Initiator) (kind : PortKind) (addr : Addr) (width : Width) : Checked :=
  match lookup s addr with
  | none => .refused (.fault .noMap)
  | some e =>
      match row s.regions e with
      | none => .refused (.fault .noMap)
      | some r =>
          if r.phase = .draining then .refused .defer
          else if (row s.ports r.fields.port).setting = .down then .refused (.fault .portDown)
          else if hasRight r.fields k kind = false then .refused (.fault .denied)
          else if width = .word ∧ addr.getLsbD 0 = true then .refused (.fault .align)
          else if kind = .lockRead ∧ r.fields.lockable = false then .refused (.fault .noLock)
          else
            match lockCheck s k r.fields.port kind addr width with
            | some code => .refused (.fault code)
            | none => .passed (.port (portWorkFor e r.fields kind addr width))

/-- The checks of a bit request (R29): a bit address above 511, then a field that leaves its station. -/
def bitCheck (kind : BitKind) (addr : Addr) : Checked :=
  if 511 < addr.toNat then .refused (.fault .badReq)
  else if 32 ≤ addr.toNat % 32 + (bitWidth kind - 1) then .refused (.fault .fieldSpan)
  else .passed (.bit { kind := kind, addr := addr.setWidth 9 })

/-- The check of a MANAGE request: its requester must be in the manager set (R29). -/
def manageCheck (s : State) (k : Initiator) (op : ManageOp) : Checked :=
  if s.management.managers.has k then .passed (.manage op) else .refused (.fault .denied)

/-! ### The acceptance order -/

/-- Whether a chain mark is MEMBER or LAST. -/
def isMemberMark : ChainMark → Bool
  | .member => true
  | .last => true
  | .none => false
  | .malformed => false

/-- Whether a kind allows the chain marks MEMBER and LAST (R26). -/
def allowsChain : Parsed → Bool
  | .port .read _ _ => true
  | .port (.write _) _ _ => true
  | .port .lockRead _ _ => false
  | .port (.unlockWrite _) _ _ => false
  | .bit _ _ => true
  | .manage _ => false
  | .abandon => false

/-- Whether a request's chain mark makes it malformed: the mark 3, or a mark that its kind does not allow (R26). -/
def badMark (mark : ChainMark) (r : Parsed) : Bool :=
  decide (mark = .malformed) || (isMemberMark mark && !allowsChain r)

/-- The faults of step 7 that a member's chain records (R30). -/
def chainRecords : FaultCode → Bool
  | .noMap => true
  | .portDown => true
  | .denied => true
  | .align => true
  | .fieldSpan => true
  | .badReq => false
  | .tagBusy => false
  | .noLock => false
  | .lockNest => false
  | .lockAddr => false
  | .lockLost => false
  | .timeout => false
  | .noStation => false
  | .direction => false
  | .chainLong => false
  | .badAck => false
  | .entryBusy => false
  | .overlap => false
  | .badValue => false

/-- The verdict of a request whose step 7 is decided (R25, R30). -/
def verdictOfCheck (mark : ChainMark) : Checked → Verdict
  | .passed w => .accepted w
  | .refused (.fault code) =>
      if isMemberMark mark && chainRecords code then .failed code else .refused (.fault code)
  | .refused a => .refused a

/-- Steps 4 and 5 of the acceptance order, for a chain member (R95, R96). -/
def chainVerdict (c : Chain) : Option Verdict :=
  if c.lastHeld then some (.refused .defer)
  else if c.state = .failed then some .skipped
  else if c.state = .opened ∧ c.count = Config.maxChainMembers then some .chainLong
  else none

/-- Steps 6 and 7 of the acceptance order (R25). -/
def lateVerdict (s : State) (mark : ChainMark) (check : Checked) : Verdict :=
  if (freeSlot s).isNone then .refused .full else verdictOfCheck mark check

/-- Steps 3 to 7 of the acceptance order (R25), for a request whose step 7 check comes to `check`. -/
def verdictFrom3 (s : State) (h : ReqHeader) (check : Checked) : Verdict :=
  if (slotOfKey s h.initiator h.tag).isSome then .refused (.fault .tagBusy)
  else
    match (if isMemberMark h.mark then chainVerdict (row s.chains h.initiator) else none) with
    | some v => v
    | none => lateVerdict s h.mark check

/-- The checks of step 7 by kind (R29); ABANDON has none. -/
def kindCheck (s : State) (k : Initiator) : Parsed → Checked
  | .port kind addr width => portCheck s k kind addr width
  | .bit kind addr => bitCheck kind addr
  | .manage op => manageCheck s k op
  | .abandon => .refused .done

/-- The acceptance order (R25): `parsed` is absent for a body that does not fit its kind. -/
def judge (s : State) (h : ReqHeader) (parsed : Option Parsed) : Verdict :=
  if (row s.initiators h.initiator).mode = .abandoning then .refused .defer
  else
    match parsed with
    | none => .refused (.fault .badReq)
    | some r =>
        if badMark h.mark r then .refused (.fault .badReq)
        else
          match r with
          | .abandon => .abandon
          | .port kind addr width => verdictFrom3 s h (kindCheck s h.initiator (.port kind addr width))
          | .bit kind addr => verdictFrom3 s h (kindCheck s h.initiator (.bit kind addr))
          | .manage op => verdictFrom3 s h (kindCheck s h.initiator (.manage op))

/-! ### Refusals that the chain takes account of -/

/-- A LAST answered at acceptance closes its chain (R103): WAITING members are skipped, the refusal is answered with the summary,
and the context is cleared, which detaches a member that is QUEUED or ACTIVE. -/
def closeAtRefusal (h : ReqHeader) (a : Answer) (s : State) : State :=
  let swept := sweepChain h.initiator s
  (answerKey h.initiator h.tag a (some (chainSummary swept h.initiator)) swept).setChain h.initiator Chain.closed

/-- Answer a member's refusal that its chain takes account of: a LAST closes the chain (R30, R103). -/
def answerMember (h : ReqHeader) (a : Answer) (s : State) : State :=
  if h.mark = .last then closeAtRefusal h a s else answerKey h.initiator h.tag a none s

/-- A member refused SKIPPED at step 4 is received (R95). -/
def refuseSkipped (h : ReqHeader) (s : State) : State :=
  answerMember h .skipped (s.setChain h.initiator (receiveMember (row s.chains h.initiator)))

/-- A member refused CHAINLONG is not received, and its refusal is the chain's first failure, with ordinal 256 (R96). -/
def refuseChainLong (h : ReqHeader) (s : State) : State :=
  answerMember h (.fault .chainLong)
    (s.setChain h.initiator (recordFailure (row s.chains h.initiator) Config.chainLongOrdinal .chainLong))

/-- A member refused at step 7 is received, and the fault is recorded with its ordinal (R94, R100). -/
def refuseFailed (h : ReqHeader) (code : FaultCode) (s : State) : State :=
  let received := receiveMember (row s.chains h.initiator)
  answerMember h (.fault code) (s.setChain h.initiator (recordFailure received received.count code))

/-! ### Allocation and routing -/

/-- The chain role of a new slot, with the ordinal of the context that has received it (R97). -/
def roleFor (mark : ChainMark) (received : Chain) : ChainRole :=
  match mark with
  | .member => .member received.count
  | .last => .last received.count
  | .none => .none
  | .malformed => .none

/-- The context after a member has been allocated a slot (R97). -/
def joinChain (received : Chain) (mark : ChainMark) (i : SlotId) : Chain :=
  { received with
    members := received.members ++ [i]
    lastHeld := received.lastHeld || decide (mark = .last) }

/-- The record of a new slot (R32). -/
def newSlot (h : ReqHeader) (w : Work) (role : ChainRole) (seq : BitVec 16) : Slot where
  initiator := h.initiator
  tag := h.tag
  work := w
  role := role
  state := .waiting
  step := .one
  answered := false
  suppressed := false
  outcome := none
  sequence := seq

/-- Raise the count of the entry that a new slot's work references (R14). -/
def raiseWorkCount (w : Work) (s : State) : State :=
  match workEntry w with
  | some e => raiseCount e s
  | none => s

/-- The chain unit's part of an allocation: a member is received and joins the list (R97). -/
def receiveSlot (i : SlotId) (h : ReqHeader) (s : State) : State :=
  if isMemberMark h.mark then
    s.setChain h.initiator (joinChain (receiveMember (row s.chains h.initiator)) h.mark i)
  else s

/-- Allocate a slot (R32): its record is filled, the acceptance counter and the initiator's occupancy rise, the entry's count
rises, and the chain unit records a member. The slot is not yet routed. -/
def allocateSlot (i : SlotId) (h : ReqHeader) (w : Work) (s : State) : State :=
  let role := roleFor h.mark (receiveMember (row s.chains h.initiator))
  let recorded := (s.setSlot i (some (newSlot h w role s.acceptCounter))).setAcceptCounter (s.acceptCounter + 1)
  receiveSlot i h (raiseWorkCount w (raiseOccupancy h.initiator recorded))

/-- Whether a port slot is a WRITE in a posted window (R34). -/
def isPostedWrite (s : State) (w : Work) : Bool :=
  match w with
  | .port pw =>
      match pw.kind with
      | .write _ => (row s.regions pw.entry).any fun r => r.fields.posted
      | .read => false
      | .lockRead => false
      | .unlockWrite _ => false
  | .bit _ => false
  | .manage _ => false

/-- Answer a posted write at acceptance (R34): outcome DONE, answered, and the RESPONSE is handed over. -/
def answerPosted (i : SlotId) (h : ReqHeader) (s : State) : State :=
  match row s.slots i with
  | some x =>
      answerKey h.initiator h.tag .done none (s.setSlot i (some { x with answered := true, outcome := some .done }))
  | none => s

/-- Route a new slot (R33): a member whose list held a slot before it is WAITING; every other slot joins its destination. -/
def routeSlot (i : SlotId) (w : Work) (mustWait : Bool) (s : State) : State :=
  if mustWait then s else joinDestination i w s

/-- Whether a new member must wait: its member list is not empty before it joins (R97). -/
def mustWait (s : State) (h : ReqHeader) : Bool :=
  isMemberMark h.mark && !(row s.chains h.initiator).members.isEmpty

/-- Accept a request of a port or bit kind (R32 to R34): a slot is allocated, a posted write outside any chain is answered, and
the slot is routed. -/
def acceptWork (h : ReqHeader) (w : Work) (s : State) : State :=
  match freeSlot s with
  | none => s
  | some i =>
      let allocated := allocateSlot i h w s
      let answered :=
        if isPostedWrite s w && !isMemberMark h.mark then answerPosted i h allocated else allocated
      routeSlot i w (mustWait s h) answered

end Sys2Proof.Machine
end

