-- ==== Sys2Proof/Machine/Management.lean ====
section
/-! DEFINITION. The management unit: the range checks of the operands (R140), each operation's claim on the block that owns the
state and its answer (R141 to R153), and how a MANAGE slot is taken, carried out and answered (R139). -/

namespace Sys2Proof.Machine

/-- What carrying an operation out comes to: the state after its claim, and its answer, absent for a RETIRE-REGION that waits for
a drain (R143). -/
structure Claim where
  state : State
  answer : Option Answer
  deriving DecidableEq, Repr

/-- A claim that leaves every block unchanged and answers (R139). -/
def unchanged (s : State) (a : Answer) : Claim := ⟨s, some a⟩

/-- A claim answered FAULT BADVALUE, with no effect (R140). -/
def badValue (s : State) : Claim := unchanged s (.fault .badValue)

/-- A claim that is carried out and answered DONE. -/
def carriedOut (s : State) : Claim := ⟨s, some .done⟩

/-- A claim that changes nothing and returns a record. -/
def returned (s : State) (r : ReadRecord) : Claim := unchanged s (.data (.record r))

/-! ### Ranges (R140) -/

/-- A region entry number in range. -/
def entryOf (b : Byte) : Option EntryId := if h : b.toNat < 48 then some ⟨b.toNat, h⟩ else none

/-- A port number in range. -/
def portOf (b : Byte) : Option PortId := if h : b.toNat < 4 then some ⟨b.toNat, h⟩ else none

/-- A station number in range. -/
def stationNumber (b : Byte) : Option StationId := if h : b.toNat < 16 then some ⟨b.toNat, h⟩ else none

/-- An initiator number in range. -/
def initiatorOf (b : Byte) : Option Initiator := if h : b.toNat < 8 then some ⟨b.toNat, h⟩ else none

/-- A priority in range. -/
def priorityOf (b : Byte) : Option (Fin 16) := if h : b.toNat < 16 then some ⟨b.toNat, h⟩ else none

/-- A yes or no byte in range (R163). -/
def yesNoOf (b : Byte) : Option Bool := if b = 0 then some false else if b = 1 then some true else none

/-- A port setting code in range (R163). -/
def settingOf (b : Byte) : Option Setting := if b = 0 then some .up else if b = 1 then some .down else none

/-- A lane rule code in range (R163). -/
def laneOf (b : Byte) : Option LaneRule :=
  if b = 0 then some .straight else if b = 1 then some .crossed else if b = 2 then some .narrow else none

/-- A completion in range: FIXED with a delay of 1–63 or READY with a timeout of 1–255 (R2, R163). -/
def completionOf (kind time : Byte) : Option Completion :=
  if kind = 0 then (if 1 ≤ time.toNat ∧ time.toNat ≤ 63 then some (.fixed time.toNat) else none)
  else if kind = 1 then (if 1 ≤ time.toNat then some (.ready time.toNat) else none)
  else none

/-- The relations of R2 on base, limit and target base. -/
def windowOk (f : RegionFields) : Bool :=
  decide (f.base.toNat % Config.blockBytes = 0) && decide ((f.limit.toNat + 1) % Config.blockBytes = 0)
    && decide (f.base.toNat + 255 ≤ f.limit.toNat) && decide (f.targetBase.toNat % Config.blockBytes = 0)
    && decide (f.targetBase.toNat + (f.limit.toNat - f.base.toNat) ≤ Config.lastAddress)

/-- The fields of LOAD-REGION's operands, absent if a code, a range or a relation of R2 is broken (R142 order 1). -/
def loadFields (o : LoadOperands) : Option RegionFields :=
  match portOf o.port, completionOf o.completionKind o.completionTime, yesNoOf o.posted, laneOf o.lanes, yesNoOf o.lockable with
  | some port, some completion, some posted, some lanes, some lockable =>
      let f : RegionFields :=
        { base := o.base, limit := o.limit, port := port, completion := completion, posted := posted, lanes := lanes,
          lockable := lockable, readSet := o.readSet, writeSet := o.writeSet, targetBase := o.targetBase }
      if windowOk f then some f else none
  | _, _, _, _, _ => none

/-- Whether two windows share a byte (R3). -/
def windowsMeet (f g : RegionFields) : Bool := decide (f.base ≤ g.limit) && decide (g.base ≤ f.limit)

/-- Whether a window shares a byte with that of any present entry (R142 order 3). -/
def overlapsMap (s : State) (f : RegionFields) : Bool :=
  (List.finRange 48).any fun e => (row s.regions e).any fun r => windowsMeet f r.fields

/-! ### Region operations -/

/-- LOAD-REGION (R142). -/
def claimLoadRegion (o : LoadOperands) (s : State) : Claim :=
  match entryOf o.entry, loadFields o with
  | some e, some f =>
      if (row s.regions e).isSome then unchanged s (.fault .entryBusy)
      else if overlapsMap s f then unchanged s (.fault .overlap)
      else carriedOut (s.setRegion e (some { phase := .active, fields := f, inFlight := 0 }))
  | _, _ => badValue s

/-- A pending retire placed in entry order (R138). -/
def insertRetire (r : PendingRetire) : List PendingRetire → List PendingRetire
  | [] => [r]
  | q :: rest => if r.entry.val < q.entry.val then r :: q :: rest else q :: insertRetire r rest

/-- An ACTIVE entry with references becomes DRAINING, and its pair joins the pending retire list (R143). -/
def startDrain (e : EntryId) (r : RegionRecord) (k : Initiator) (t : Tag) (s : State) : State :=
  (s.setRegion e (some { r with phase := .draining })).setManagement { s.management with
    retires := insertRetire { entry := e, initiator := k, tag := t } s.management.retires }

/-- RETIRE-REGION (R143). -/
def claimRetireRegion (entry : Byte) (k : Initiator) (t : Tag) (s : State) : Claim :=
  match entryOf entry with
  | none => badValue s
  | some e =>
      match row s.regions e with
      | none => badValue s
      | some r =>
          match r.phase with
          | .draining => unchanged s .defer
          | .active =>
              if r.inFlight = 0 then carriedOut (s.setRegion e none)
              else ⟨startDrain e r k t s, none⟩

/-- ALTER-RIGHTS (R145). -/
def claimAlterRights (entry : Byte) (readSet writeSet : InitiatorSet) (s : State) : Claim :=
  match entryOf entry with
  | none => badValue s
  | some e =>
      match row s.regions e with
      | none => badValue s
      | some r =>
          carriedOut (s.setRegion e
            (some { r with fields := { r.fields with readSet := readSet, writeSet := writeSet } }))

/-- READ-REGION (R146). -/
def claimReadRegion (entry : Byte) (s : State) : Claim :=
  match entryOf entry with
  | none => badValue s
  | some e => returned s (.region (row s.regions e))

/-! ### Port operations -/

/-- A change of setting, or none (R46). -/
def applySetting (p : PortId) (new : Setting) (s : State) : State :=
  match (row s.ports p).setting, new with
  | .up, .down => setPortDown p s
  | .down, .up => setPortUp p s
  | .up, .up => s
  | .down, .down => s

/-- SET-PORT's claim (R46, R147): the lock lifetime and the hold limit are given with the setting, in one claim. -/
def applySetPort (p : PortId) (new : Setting) (lifetime limit : Nat) (s : State) : State :=
  applySetting p new (s.setPort p { row s.ports p with lockLifetime := lifetime, holdLimit := limit })

/-- SET-PORT (R140, R147). -/
def claimSetPort (port setting lifetime limit : Byte) (s : State) : Claim :=
  match portOf port, settingOf setting with
  | some p, some new =>
      if lifetime = 0 then badValue s else carriedOut (applySetPort p new lifetime.toNat limit.toNat s)
  | _, _ => badValue s

/-- What READ-PORT reports of a port (R67, R147). -/
def portReport (x : Port) : PortReport where
  setting := x.setting
  state := x.state
  queueLength := x.queue.length
  gate := x.gate
  lockLifetime := x.lockLifetime
  holdLimit := x.holdLimit
  lock := x.lock

/-- READ-PORT (R147). -/
def claimReadPort (port : Byte) (s : State) : Claim :=
  match portOf port with
  | none => badValue s
  | some p => returned s (.port (portReport (row s.ports p)))

/-! ### Station and scan operations -/

/-- The sets of a station record after SET-STATION, with what they do to the image, the sample, the latched set and the delivered
copy (R108, Direction, Inversion, Rise and fall). -/
def withStationSets (st : Station) (o : StationOperands) : Station :=
  { st with
    direction := o.direction
    inversion := o.inversion
    rise := o.rise
    fall := o.fall
    image := st.image &&& ~~~ (st.direction ^^^ o.direction)
    lastSample := st.lastSample.map fun v => v ^^^ (st.inversion ^^^ o.inversion)
    latched := st.latched &&& (o.rise ||| o.fall)
    delivered := st.delivered.map fun v => v &&& (o.rise ||| o.fall) }

/-- A station record disabled (R108, Disable). -/
def disabledStation (st : Station) : Station :=
  { st with presence := .disabled, timeouts := 0, lastSample := none, latched := 0, delivered := none }

/-- A station record enabled (R108, Enable). -/
def enabledStation (st : Station) : Station :=
  match st.presence with
  | .disabled => { st with presence := .unknown, timeouts := 0, lastSample := none }
  | .unknown => st
  | .present => st
  | .absent => st

/-- A station record after SET-STATION (R108). -/
def afterSetStation (st : Station) (enable : Bool) (o : StationOperands) : Station :=
  if enable then enabledStation (withStationSets st o) else disabledStation (withStationSets st o)

/-- SET-STATION (R108, R118, R120, R148): the record takes the claim whole, a running cycle may end, and the line arbiter is
consulted. -/
def claimSetStation (o : StationOperands) (s : State) : Claim :=
  match stationNumber o.station, yesNoOf o.enable with
  | some n, some enable =>
      if (o.rise ||| o.fall) &&& o.direction ≠ 0 then badValue s
      else carriedOut (lineArbiter (checkCycleEnd (s.setStation n (afterSetStation (row s.stations n) enable o))))
  | _, _ => badValue s

/-- READ-STATION, the MANAGE operation (R148). -/
def claimReadStation (station : Byte) (s : State) : Claim :=
  match stationNumber station with
  | none => badValue s
  | some n => returned s (.station (row s.stations n))

/-- SET-SCAN (R117, R149). -/
def claimSetScan (period : Byte) (s : State) : Claim :=
  carriedOut (s.setLine { s.line with
    scanPeriod := period.toNat
    scanTimer := if period = 0 then .stopped else .running period.toNat
    cycleDue := if period = 0 then false else s.line.cycleDue })

/-! ### Event operations -/

/-- SET-EVENT (R123, R150). -/
def claimSetEvent (source priority : Byte) (s : State) : Claim :=
  match sourceOf source.toNat, priorityOf priority with
  | some src, some p =>
      carriedOut (s.setEvents { s.events with priorities := putRow s.events.priorities (sourceNumber src) p })
  | _, _ => badValue s

/-- SET-EVENT-TARGET (R150): the message in flight is withdrawn, then the target and the ack window are set. -/
def claimSetEventTarget (initiator window : Byte) (s : State) : Claim :=
  match initiatorOf initiator with
  | none => badValue s
  | some k =>
      if window = 0 then badValue s
      else
        let withdrawn := withdrawMessage s
        carriedOut (withdrawn.setEvents { withdrawn.events with target := k, ackWindow := window.toNat })

/-- Whether an EVENT-ACK matches the message in flight (R131). -/
def ackMatches (s : State) (k : Initiator) (src : Source) (sequence : Byte) (m : EventMessage) : Bool :=
  decide (k = s.events.target) && decide (src = m.source) && decide (sequence = m.sequence)

/-- EVENT-ACK (R131, R151). -/
def claimEventAck (source sequence : Byte) (k : Initiator) (s : State) : Claim :=
  match sourceOf source.toNat with
  | none => badValue s
  | some src =>
      match inFlightMessage s with
      | none => unchanged s (.fault .badAck)
      | some m =>
          if ackMatches s k src sequence m then carriedOut (acknowledge m s) else unchanged s (.fault .badAck)

/-- EVENT-RESUME (R132, R151). -/
def claimEventResume (k : Initiator) (s : State) : Claim :=
  if k ≠ s.events.target then badValue s
  else
    match s.events.delivery with
    | .stalled m => carriedOut (resendMessage m 0 s)
    | .awaitAck _ => carriedOut s
    | .idle => carriedOut s

/-- The incident kind of a source number, absent outside 16–23 (R140). -/
def incidentKindOf (b : Byte) : Option IncidentKind :=
  match sourceOf b.toNat with
  | some (.incident k) => some k
  | some (.station _) => none
  | none => none

/-- Clear an incident's counts, and withdraw its message if it is in flight (R124, R152). -/
def clearIncident (k : IncidentKind) (s : State) : State :=
  let cleared := s.setEvents { s.events with
    incidents := putRow s.events.incidents (incidentIndex k)
      { row s.events.incidents (incidentIndex k) with count := 0, acknowledged := 0 } }
  if (inFlightMessage s).any fun m => decide (m.source = .incident k) then withdrawMessage cleared else cleared

/-- READ-INCIDENT (R152): the record returned is the one from before a clear. -/
def claimReadIncident (kind clear : Byte) (s : State) : Claim :=
  match incidentKindOf kind, yesNoOf clear with
  | some k, some yes =>
      ⟨if yes then clearIncident k s else s,
        some (.data (.record (.incident (row s.events.incidents (incidentIndex k)))))⟩
  | _, _ => badValue s

/-! ### Managers and occupancy -/

/-- SET-MANAGERS (R141). -/
def claimSetManagers (set : InitiatorSet) (k : Initiator) (s : State) : Claim :=
  if set.has k then carriedOut (s.setManagement { s.management with managers := set }) else badValue s

/-- READ-OCCUPANCY (R153). -/
def claimReadOccupancy (s : State) : Claim :=
  returned s (.occupancy ((List.finRange 8).map fun k => ((row s.initiators k).occupancy, (row s.initiators k).mode))
    (freeSlotCount s))

/-! ### Carrying a MANAGE request out -/

/-- The claim of an operation (9.2 to 9.6). -/
def claimOf (op : ManageOp) (k : Initiator) (t : Tag) (s : State) : Claim :=
  match op with
  | .loadRegion o => claimLoadRegion o s
  | .retireRegion entry => claimRetireRegion entry k t s
  | .alterRights entry readSet writeSet => claimAlterRights entry readSet writeSet s
  | .readRegion entry => claimReadRegion entry s
  | .setPort port setting lifetime limit => claimSetPort port setting lifetime limit s
  | .readPort port => claimReadPort port s
  | .setStation o => claimSetStation o s
  | .readStation station => claimReadStation station s
  | .setScan period => claimSetScan period s
  | .setEvent source priority => claimSetEvent source priority s
  | .setEventTarget initiator window => claimSetEventTarget initiator window s
  | .eventAck source sequence => claimEventAck source sequence k s
  | .eventResume => claimEventResume k s
  | .readIncident kind clear => claimReadIncident kind clear s
  | .setManagers set => claimSetManagers set k s
  | .readOccupancy => claimReadOccupancy s

/-- The management unit takes a slot from its queue, which becomes ACTIVE (R139). -/
def takeManageSlot (i : SlotId) (s : State) : State :=
  (setSlotState i .active s).setManagement { s.management with queue := s.management.queue.erase i }

/-- The end of an accepted operation (R139): selection is carried out, so that an EVENT the claim causes is handed over first,
and then the answer is formed and the slot released. A claim without an answer leaves the slot ACTIVE (R143). -/
def concludeClaim (i : SlotId) (c : Claim) : State :=
  match c.answer with
  | some a => finishSlot i a (selectEvent c.state)
  | none => selectEvent c.state

/-- A MANAGE request accepted (R139): a slot is allocated, joins the management queue, is taken in the same event and the
operation is carried out whole. -/
def acceptManage (h : ReqHeader) (op : ManageOp) (s : State) : State :=
  match freeSlot s with
  | none => s
  | some i =>
      let taken := takeManageSlot i (joinDestination i (.manage op) (allocateSlot i h (.manage op) s))
      concludeClaim i (claimOf op h.initiator h.tag taken)

end Sys2Proof.Machine
end

