-- ==== Sys2Proof/Machine/LinkOps.lean ====
section
/-! DEFINITION. The link interface's shared operations: receiving the symbols of a frame (R155), taking the oldest received
message (R156), and handing a request to the slot table (R25). -/

namespace Sys2Proof.Machine

/-- The end of an event. Selection is carried out, if its conditions hold, as the last thing of every event (R128; assumption log
entry 5). -/
def endEvent (s : State) : Host.Outcome State Fault Refusal := .next (selectEvent s)

/-! ### Receiving -/

/-- The link interface with another receive framing. -/
def State.setFraming (s : State) (f : Framing) : State := s.setLink { s.link with framing := f }

/-- A LINK-ERROR incident (R125, R155). -/
def raiseLinkError (c : LinkErrorCause) (s : State) : State := raiseIncident .linkError (some (.cause c)) s

/-- A well-formed frame's body goes to the receive buffer, or is discarded when the buffer holds two (R155). -/
def bufferBody (body : List Byte) (s : State) : State :=
  if s.link.rx.length < Config.receiveBufferFrames then s.setLink { s.link with rx := s.link.rx ++ [body] } else s

/-- A complete frame is taken: its bytes are `length` body bytes and two check bytes, high byte first (R154, R155). -/
def takeFrame (length : Nat) (bytes : List Byte) (s : State) : State :=
  let body := bytes.take length
  if bytes.drop length = [hiByte (checkWord body), loByte (checkWord body)] then bufferBody body s
  else raiseLinkError .check s

/-- The receiver takes one symbol (R155), with signal present. -/
def takeSymbol (sym : LineSymbol) (s : State) : State :=
  match s.link.framing, sym with
  | .hunting, .delimiter => s.setFraming .started
  | .hunting, .byte _ => s
  | .started, .delimiter => raiseLinkError .length (s.setFraming .started)
  | .started, .byte b =>
      if Config.minBody ≤ b.toNat ∧ b.toNat ≤ Config.maxBody then s.setFraming (.collecting b.toNat [])
      else raiseLinkError .length (s.setFraming .hunting)
  | .collecting _ _, .delimiter => raiseLinkError .length (s.setFraming .started)
  | .collecting length got, .byte b =>
      if got.length + 1 < length + 2 then s.setFraming (.collecting length (got ++ [b]))
      else takeFrame length (got ++ [b]) (s.setFraming .hunting)

/-- The receiver takes symbols one after another; each is an event of its own, which ends with selection. -/
def takeSymbols : List LineSymbol → State → State
  | [], s => s
  | sym :: rest, s => takeSymbols rest (selectEvent (takeSymbol sym s))

/-! ### Taking a received message -/

/-- Whether the link interface takes received frames: the outbound list holds fewer than 16 messages (R156, R159). -/
def takesFrames (s : State) : Bool := decide (s.link.outbound.length < Config.takeBelow)

/-- A message is taken into the part (R156). The oldest frame of the receive buffer is taken if it is this message and the
outbound list allows it. With an empty buffer the message arrives now, and is taken at once or, while the list does not allow
it, waits in the buffer (assumption log entry 3). -/
def takeMessage (body : List Byte) (process : State → State) (s : State) : State :=
  match s.link.rx with
  | [] =>
      if s.link.signal then
        if takesFrames s then process s else s.setLink { s.link with rx := [body] }
      else s
  | front :: rest =>
      if front = body ∧ takesFrames s then process (s.setLink { s.link with rx := rest }) else s

/-- What a verdict does (R30, R32, R39, R139). -/
def carryVerdict (h : ReqHeader) (v : Verdict) (s : State) : State :=
  match v with
  | .refused a => answerKey h.initiator h.tag a none s
  | .skipped => refuseSkipped h s
  | .chainLong => refuseChainLong h s
  | .failed code => refuseFailed h code s
  | .accepted (.port w) => acceptWork h (.port w) s
  | .accepted (.bit w) => acceptWork h (.bit w) s
  | .accepted (.manage op) => acceptManage h op s
  | .abandon => abandonInitiator h.initiator h.tag s

/-- A request is handed to the slot table while UP, and discarded while DOWN (R156). -/
def handRequest (h : ReqHeader) (parsed : Option Parsed) (s : State) : State :=
  match s.link.state with
  | .down => s
  | .up => carryVerdict h (judge s h parsed) s

/-- A request of a kind is taken (R25, R156). -/
def takeRequest (kind : Byte) (h : ReqHeader) (rest : List Byte) (parsed : Option Parsed) (s : State) :
    Host.Outcome State Fault Refusal :=
  endEvent (takeMessage (requestBody kind h rest) (handRequest h parsed) s)

/-- A MANAGE request of an operation is taken (R139, R156). -/
def takeManage (code : Byte) (h : ReqHeader) (operands : List Byte) (op : Option ManageOp) (s : State) :
    Host.Outcome State Fault Refusal :=
  takeRequest 0x0A h (code :: operands) (op.map .manage) s

/-! ### SYNC, LINK-RESET and unknown messages -/

/-- A SYNC taken (R156, R157, R158): with signal present it brings a DOWN link UP, and in both states a LINK-NOTICE is handed
over. -/
def takeSync (s : State) : State :=
  match s.link.state with
  | .up => handNotice s
  | .down => if s.link.signal then handNotice (s.setLink { s.link with state := .up }) else s

/-- A LINK-RESET taken (R156, R161): it raises the link reset while UP and is discarded while DOWN. -/
def takeLinkReset (s : State) : State :=
  match s.link.state with
  | .up => linkResetByMessage s
  | .down => s

/-- The first body bytes that name a known message: SYNC, LINK-RESET, and requests 0x01 to 0x0B (R156). -/
def namesKnownMessage (first : Byte) : Bool :=
  decide (first = 0x70) || decide (first = 0x71) || (decide (1 ≤ first.toNat) && decide (first.toNat ≤ 11))

/-- A MANAGE body whose operation code names no known operation, or that has none (R26). -/
def namesNoOperation (first : Byte) (rest : List Byte) : Bool :=
  decide (first = 0x0A) &&
    match rest with
    | [] => true
    | op :: _ => !(decide (1 ≤ op.toNat) && decide (op.toNat ≤ 16))

/-- An unknown message is answered FAULT BADREQ while UP, with the key of its second byte, and discarded while DOWN (R156). It
takes no slot and touches no chain context. -/
def answerUnknown (h : ReqHeader) (s : State) : State :=
  match s.link.state with
  | .up => answerKey h.initiator h.tag (.fault .badReq) none s
  | .down => s

end Sys2Proof.Machine
end

