-- ==== Sys2Proof/Machine/LineEvents.lean ====
section
/-! DEFINITION. The meanings of the events of the bit line, the scan and the event unit: replies and line timeouts (R110 to R116),
the scan timer (R117), and the ack window (R130). -/

namespace Sys2Proof.Machine

/-- Whether a reply completes an operation (R110): intact, of its station and of its kind. -/
def replyCompletes (r : StationReply) (op : LineOp) : Bool :=
  r.intact && decide (r.station = op.station) &&
    match op.command with
    | .readStation => decide (r.kind = .readStation)
    | .writeStation _ _ _ => decide (r.kind = .writeStation)

/-- The line becomes free, a cycle may end, and the line arbiter is consulted (R111 step 4, R118). -/
def freeLine (s : State) : State := lineArbiter (checkCycleEnd (s.setLine { s.line with op := none }))

/-- The outcome of a request's operation at a reply (R112, R114, R115): NOSTATION at a station disabled meanwhile, DATA of a read,
DONE of a write. -/
def replyAnswer (st : Station) (op : LineOp) (w : BitWork) (pins : Positions) : Answer :=
  if st.presence = .disabled then .fault .noStation
  else
    match op.command with
    | .readStation => .data (bitReadValue w (inverted st.inversion pins))
    | .writeStation _ _ _ => .done

/-- The outcome of a request's operation at a line timeout (R112, R114, R115). -/
def timeoutAnswer (st : Station) : Answer :=
  if st.presence = .disabled then .fault .noStation else .fault .timeout

/-- A station's record after a reply to a request's operation (R107, R112, R114, R115): a write's formed image becomes the stored
image, with 0 outside the direction set as it stands. -/
def afterRequestReply (st : Station) (op : LineOp) : Station :=
  if st.presence = .disabled then st
  else
    match op.command with
    | .readStation => afterReply st
    | .writeStation _ _ formed => { afterReply st with image := formed &&& st.direction }

/-- A station's record after a reply to a poll (R107, R112, R118). -/
def afterPoll (st : Station) (pins : Positions) : Station :=
  if st.presence = .disabled then st else afterPollReply st (afterReply st) pins

/-- An operation completes with a reply (R111). -/
def completeWithReply (op : LineOp) (pins : Positions) (s : State) : State :=
  let st := row s.stations op.station
  match op.origin with
  | .request i =>
      let applied := s.setStation op.station (afterRequestReply st op)
      match bitWorkOf s i with
      | some w => freeLine (completeSlot i (replyAnswer st op w pins) applied)
      | none => freeLine applied
  | .poll => freeLine (s.setStation op.station (afterPoll st pins))

/-- STATION_REPLY (R110, R111): a reply that does not complete the operation in progress is ignored. -/
def execStationReply (r : StationReply) (s : State) : Host.Outcome State Fault Refusal :=
  endEvent (match s.line.op with
    | some op => if replyCompletes r op then completeWithReply op r.pins s else s
    | none => s)

/-- A line timeout applied to a station (R107, R112): the count rises, and a second consecutive timeout raises STATION-LOST. -/
def timeoutStation (n : StationId) (s : State) : State :=
  let st := row s.stations n
  let counted := s.setStation n (afterTimeout st)
  if losesStation st then raiseIncident .stationLost (some (.station n)) counted else counted

/-- An operation completes with a timeout (R111). -/
def completeWithTimeout (op : LineOp) (s : State) : State :=
  let counted := timeoutStation op.station s
  match op.origin with
  | .request i => freeLine (completeSlot i (timeoutAnswer (row s.stations op.station)) counted)
  | .poll => freeLine counted

/-- LINE_TIMER_EXPIRY (R110, R111): the line timer runs while an operation is in progress. -/
def execLineTimerExpiry (s : State) : Host.Outcome State Fault Refusal :=
  endEvent (match s.line.op with
    | some op => completeWithTimeout op s
    | none => s)

/-- A scan timer expiry (R117), after which the timer runs again with the period: it begins a cycle, or marks one due and raises
SCAN-OVERRUN while one runs. -/
def scanExpiry (s : State) : State :=
  let restarted := s.setLine { s.line with scanTimer := .running s.line.scanPeriod }
  match s.line.cycle with
  | none => lineArbiter (beginCycle restarted)
  | some cursor =>
      raiseIncident .scanOverrun ((overrunStation s cursor).map .station)
        (restarted.setLine { restarted.line with cycleDue := true })

/-- SCAN_TIMER_EXPIRY (R117, R118). -/
def execScanTimerExpiry (s : State) : Host.Outcome State Fault Refusal :=
  endEvent (if s.line.scanTimer = .stopped then s else scanExpiry s)

/-- An ack window expiry in AWAIT-ACK (R130): the message is resent, or after three resends the unit stalls. -/
def windowExpiry (m : EventMessage) (s : State) : State :=
  if s.events.resends < Config.maxResends then resendMessage m (s.events.resends + 1) s
  else s.setEvents { s.events with delivery := .stalled m, ackTimer := .stopped }

/-- ACK_WINDOW_EXPIRY (R130): the ack window timer runs only in AWAIT-ACK. -/
def execAckWindowExpiry (s : State) : Host.Outcome State Fault Refusal :=
  endEvent (match s.events.delivery, s.events.ackTimer with
    | .awaitAck m, .running _ => windowExpiry m s
    | .awaitAck _, .stopped => s
    | .idle, _ => s
    | .stalled _, _ => s)

end Sys2Proof.Machine
end

