-- ==== Sys2Proof/Machine/LinkEvents.lean ====
section
/-! DEFINITION. The meanings of the power-on and link commands (chapters 10 and 11). -/

namespace Sys2Proof.Machine

/-! ### Power-on reset -/

/-- A port samples its hold request line in its first event after power-on reset (R83): the level is kept, and an asserted line is
a raise. -/
def sampleHoldLine (holdLines : BitVec 4) (p : PortId) (s : State) : State :=
  let sampled := s.setPort p { row s.ports p with holdLine := holdLines.getLsbD p.val }
  if holdLines.getLsbD p.val then takeRaise p sampled else sampled

/-- Every block in its reset state with a strap value (R44, R165). The waiting commands and the model's own frame count are kept:
they are no state of the part. -/
def resetBlocks (strap : Initiator) (s : State) : State :=
  { State.powerOn strap with
    pending := s.pending
    link := { LinkUnit.powerOn strap with frameCount := s.link.frameCount } }

/-- POWER_ON_RESET (R44, R83, R165, and the power-on value of each piece of state). -/
def execPowerOnReset (strap : BitVec 3) (holdLines : BitVec 4) (s : State) : Host.Outcome State Fault Refusal :=
  endEvent (forEach (sampleHoldLine holdLines) (List.finRange 4) (resetBlocks (strapValue strap) s))

/-! ### The receiver and the transmitter -/

/-- FRAME_RECEIVED (R154, R155). Without signal no symbol is recovered. -/
def execFrameReceived (symbols : List LineSymbol) (s : State) : Host.Outcome State Fault Refusal :=
  .next (if s.link.signal then takeSymbols symbols s else s)

/-- FAR_END_PAUSE_MARK (R159): no new frame is begun until the mark is gone. A frame already begun is completed. -/
def execFarEndPauseMark (s : State) : Host.Outcome State Fault Refusal :=
  endEvent (s.setLink { s.link with farPause := true })

/-- FAR_END_PAUSE_MARK_GONE (R159): the part may begin the next frame of its list. -/
def execFarEndPauseMarkGone (s : State) : Host.Outcome State Fault Refusal :=
  endEvent (s.setLink (beginFrame { s.link with farPause := false }))

/-- The link interface when the frame on the line has left whole (R159). -/
def messageLeft (l : LinkUnit) : LinkUnit :=
  match l.sending with
  | some _ => beginFrame { l with outbound := l.outbound.tail, sending := none }
  | none => l

/-- MESSAGE_SENT (R159): the message at the head of the outbound list has left, and the next may begin. -/
def execMessageSent (s : State) : Host.Outcome State Fault Refusal := endEvent (s.setLink (messageLeft s.link))

/-- SIGNAL_FOUND (R157): signal becomes present; the link state stays. -/
def execSignalFound (s : State) : Host.Outcome State Fault Refusal :=
  endEvent (s.setLink { s.link with signal := true })

/-- SIGNAL_LOST (R157, R161). -/
def execSignalLost (s : State) : Host.Outcome State Fault Refusal := endEvent (loseSignal s)

/-! ### Link messages -/

/-- SYNC (R156, R157, R158). Bytes after the type byte are not examined. -/
def execSync (rest : List Byte) (s : State) : Host.Outcome State Fault Refusal :=
  endEvent (takeMessage (0x70 :: rest) takeSync s)

/-- LINK_RESET (R156, R161). Bytes after the type byte are not examined. -/
def execLinkReset (rest : List Byte) (s : State) : Host.Outcome State Fault Refusal :=
  endEvent (takeMessage (0x71 :: rest) takeLinkReset s)

/-- UNKNOWN_MESSAGE_TYPE (R156): answered FAULT BADREQ while UP. It also takes the MANAGE bodies that name no known operation,
which the slot table refuses (R26; assumption log entry 11). A known message is none of these, and nothing is taken. -/
def execUnknownMessageType (first : Byte) (h : ReqHeader) (rest : List Byte) (s : State) :
    Host.Outcome State Fault Refusal :=
  if namesNoOperation first rest then takeRequest first h rest none s
  else if namesKnownMessage first then .next s
  else endEvent (takeMessage (requestBody first h rest) (answerUnknown h) s)

end Sys2Proof.Machine
end

