-- ==== Sys2Proof/Machine/ManageRequests.lean ====
section
/-! DEFINITION. The meanings of the MANAGE requests, one for each operation: each reads its operands by R163, goes through the
acceptance order (R25, R139) and is carried out whole by `Sys2Proof.Machine.acceptManage`. -/

namespace Sys2Proof.Machine

/-- LOAD-REGION (R142). -/
def execLoadRegion (h : ReqHeader) (operands : List Byte) (s : State) : Host.Outcome State Fault Refusal :=
  takeManage 0x01 h operands (parseLoadRegion operands) s

/-- RETIRE-REGION (R143, R144). -/
def execRetireRegion (h : ReqHeader) (operands : List Byte) (s : State) : Host.Outcome State Fault Refusal :=
  takeManage 0x02 h operands (parseRetireRegion operands) s

/-- ALTER-RIGHTS (R145). -/
def execAlterRights (h : ReqHeader) (operands : List Byte) (s : State) : Host.Outcome State Fault Refusal :=
  takeManage 0x03 h operands (parseAlterRights operands) s

/-- READ-REGION (R146). -/
def execReadRegion (h : ReqHeader) (operands : List Byte) (s : State) : Host.Outcome State Fault Refusal :=
  takeManage 0x04 h operands (parseReadRegion operands) s

/-- SET-PORT (R46, R63, R65, R147). -/
def execSetPort (h : ReqHeader) (operands : List Byte) (s : State) : Host.Outcome State Fault Refusal :=
  takeManage 0x05 h operands (parseSetPort operands) s

/-- READ-PORT (R67, R147). -/
def execReadPort (h : ReqHeader) (operands : List Byte) (s : State) : Host.Outcome State Fault Refusal :=
  takeManage 0x06 h operands (parseReadPort operands) s

/-- SET-STATION (R108, R148). -/
def execSetStation (h : ReqHeader) (operands : List Byte) (s : State) : Host.Outcome State Fault Refusal :=
  takeManage 0x07 h operands (parseSetStation operands) s

/-- READ-STATION, the MANAGE operation (R148). -/
def execReadStation (h : ReqHeader) (operands : List Byte) (s : State) : Host.Outcome State Fault Refusal :=
  takeManage 0x08 h operands (parseReadStation operands) s

/-- SET-SCAN (R117, R149). -/
def execSetScan (h : ReqHeader) (operands : List Byte) (s : State) : Host.Outcome State Fault Refusal :=
  takeManage 0x09 h operands (parseSetScan operands) s

/-- SET-EVENT (R123, R150). -/
def execSetEvent (h : ReqHeader) (operands : List Byte) (s : State) : Host.Outcome State Fault Refusal :=
  takeManage 0x0A h operands (parseSetEvent operands) s

/-- SET-EVENT-TARGET (R133, R150). -/
def execSetEventTarget (h : ReqHeader) (operands : List Byte) (s : State) : Host.Outcome State Fault Refusal :=
  takeManage 0x0B h operands (parseSetEventTarget operands) s

/-- EVENT-ACK (R131, R151). -/
def execEventAck (h : ReqHeader) (operands : List Byte) (s : State) : Host.Outcome State Fault Refusal :=
  takeManage 0x0C h operands (parseEventAck operands) s

/-- EVENT-RESUME (R132, R151). -/
def execEventResume (h : ReqHeader) (operands : List Byte) (s : State) : Host.Outcome State Fault Refusal :=
  takeManage 0x0D h operands (parseEventResume operands) s

/-- READ-INCIDENT (R124, R152). -/
def execReadIncident (h : ReqHeader) (operands : List Byte) (s : State) : Host.Outcome State Fault Refusal :=
  takeManage 0x0E h operands (parseReadIncident operands) s

/-- SET-MANAGERS (R141). -/
def execSetManagers (h : ReqHeader) (operands : List Byte) (s : State) : Host.Outcome State Fault Refusal :=
  takeManage 0x0F h operands (parseSetManagers operands) s

/-- READ-OCCUPANCY (R153). -/
def execReadOccupancy (h : ReqHeader) (operands : List Byte) (s : State) : Host.Outcome State Fault Refusal :=
  takeManage 0x10 h operands (parseReadOccupancy operands) s

end Sys2Proof.Machine
end

