-- ==== Sys2Proof/Machine/PortEvents.lean ====
section
/-! DEFINITION. The meanings of the events at a target port: step timers and ready indications (R53 to R60), the lock lifetime
(R76), and the hold request line with its limit (R84, R87, R88). -/

namespace Sys2Proof.Machine

/-- What a FIXED delay expiry does at a port (R53): it takes effect while a FIXED step is presented. -/
def fixedExpiryAt (p : PortId) (bytes : SegmentBytes) (s : State) : State :=
  match (row s.ports p).state with
  | .issued cur =>
      match cur.timer with
      | .delay _ => stepSucceeds p cur bytes s
      | .ready _ => s
  | .idle => s
  | .held => s

/-- FIXED_DELAY_EXPIRY (R53, R58, R59). -/
def execFixedDelayExpiry (p : PortId) (bytes : SegmentBytes) (s : State) : Host.Outcome State Fault Refusal :=
  endEvent (fixedExpiryAt p bytes s)

/-- A STRAY-READY incident (R57). -/
def raiseStray (p : PortId) (s : State) : State := raiseIncident .strayReady (some (.port p)) s

/-- What a ready indication does at a port (R54, R57): it completes the READY step in progress, is not observed while HELD, and
is stray otherwise. -/
def readyAt (p : PortId) (bytes : SegmentBytes) (s : State) : State :=
  match (row s.ports p).state with
  | .issued cur =>
      match cur.timer with
      | .ready _ => stepSucceeds p cur bytes s
      | .delay _ => raiseStray p s
  | .idle => raiseStray p s
  | .held => s

/-- READY_INDICATION (R54, R57, R58, R59). -/
def execReadyIndication (p : PortId) (bytes : SegmentBytes) (s : State) : Host.Outcome State Fault Refusal :=
  endEvent (readyAt p bytes s)

/-- What a ready timer expiry does at a port (R55): it takes effect while a READY step is presented. -/
def readyExpiryAt (p : PortId) (s : State) : State :=
  match (row s.ports p).state with
  | .issued cur =>
      match cur.timer with
      | .ready _ => stepFails p cur s
      | .delay _ => s
  | .idle => s
  | .held => s

/-- READY_TIMER_EXPIRY (R55, R58, R60). -/
def execReadyTimerExpiry (p : PortId) (s : State) : Host.Outcome State Fault Refusal := endEvent (readyExpiryAt p s)

/-- Whether a port's lock lifetime timer is RUNNING (R76). -/
def lifetimeRuns (x : Port) : Bool := x.lock.any fun l => decide (l.timer ≠ .stopped)

/-- LOCK_LIFETIME_EXPIRY (R69, R76): a RUNNING timer's expiry breaks the lock. -/
def execLockLifetimeExpiry (p : PortId) (s : State) : Host.Outcome State Fault Refusal :=
  endEvent (if lifetimeRuns (row s.ports p) then removeLock p true s else s)

/-- HOLD_REQUEST_RAISE (R84): the line becomes asserted, and the port takes the raise by its gate and setting. A line already
asserted is not raised again. -/
def execHoldRequestRaise (p : PortId) (s : State) : Host.Outcome State Fault Refusal :=
  endEvent (if (row s.ports p).holdLine then s
    else takeRaise p (s.setPort p { row s.ports p with holdLine := true }))

/-- A withdrawal taken by a port, by its gate (R87). -/
def takeWithdrawal (p : PortId) (s : State) : State :=
  let port := { row s.ports p with holdLine := false }
  match port.gate with
  | .none => s.setPort p port
  | .pending => s.setPort p { port with gate := .none }
  | .granted => arbiter p (s.setPort p { port with gate := .none, state := .idle, holdTimer := .stopped })

/-- HOLD_REQUEST_WITHDRAWAL (R87). A line that is not asserted is not withdrawn. -/
def execHoldRequestWithdrawal (p : PortId) (s : State) : Host.Outcome State Fault Refusal :=
  endEvent (if (row s.ports p).holdLine then takeWithdrawal p s else s)

/-- Whether a port's hold-limit timer runs during a grant (R88). -/
def holdLimitRuns (x : Port) : Bool := decide (x.gate = .granted) && decide (x.holdTimer ≠ .stopped)

/-- A grant outlasts its limit (R88): HOLD-OVERRUN is raised, the timer is stopped, and the grant stays. -/
def overrunHold (p : PortId) (s : State) : State :=
  raiseIncident .holdOverrun (some (.port p)) (s.setPort p { row s.ports p with holdTimer := .stopped })

/-- HOLD_LIMIT_EXPIRY (R88). -/
def execHoldLimitExpiry (p : PortId) (s : State) : Host.Outcome State Fault Refusal :=
  endEvent (if holdLimitRuns (row s.ports p) then overrunHold p s else s)

end Sys2Proof.Machine
end

