-- ==== Sys2Proof/Machine/Requests.lean ====
section
/-! DEFINITION. The meanings of the port requests, the bit requests and ABANDON: each reads its body by R163 and goes through the
acceptance order (R25). -/

namespace Sys2Proof.Machine

/-- READ (R5, R25, R32). -/
def execRead (h : ReqHeader) (rest : List Byte) (s : State) : Host.Outcome State Fault Refusal :=
  takeRequest 0x01 h rest (parseAccessRead .read rest) s

/-- WRITE (R5, R25, R32, R34). -/
def execWrite (h : ReqHeader) (rest : List Byte) (s : State) : Host.Outcome State Fault Refusal :=
  takeRequest 0x02 h rest (parseAccessWrite .write rest) s

/-- LOCK-READ (R5, R25, R32, R70, R72). -/
def execLockRead (h : ReqHeader) (rest : List Byte) (s : State) : Host.Outcome State Fault Refusal :=
  takeRequest 0x03 h rest (parseAccessRead .lockRead rest) s

/-- UNLOCK-WRITE (R5, R25, R32, R71, R75). -/
def execUnlockWrite (h : ReqHeader) (rest : List Byte) (s : State) : Host.Outcome State Fault Refusal :=
  takeRequest 0x04 h rest (parseAccessWrite .unlockWrite rest) s

/-- BIT-SET (R25, R29, R113, R115). -/
def execBitSet (h : ReqHeader) (rest : List Byte) (s : State) : Host.Outcome State Fault Refusal :=
  takeRequest 0x05 h rest (parseSingleBit .set rest) s

/-- BIT-CLEAR (R25, R29, R113, R115). -/
def execBitClear (h : ReqHeader) (rest : List Byte) (s : State) : Host.Outcome State Fault Refusal :=
  takeRequest 0x06 h rest (parseSingleBit .clear rest) s

/-- BIT-TEST (R25, R29, R113, R114). -/
def execBitTest (h : ReqHeader) (rest : List Byte) (s : State) : Host.Outcome State Fault Refusal :=
  takeRequest 0x07 h rest (parseSingleBit .test rest) s

/-- FIELD-READ (R25, R29, R113, R114). -/
def execFieldRead (h : ReqHeader) (rest : List Byte) (s : State) : Host.Outcome State Fault Refusal :=
  takeRequest 0x08 h rest (parseFieldRead rest) s

/-- FIELD-WRITE (R25, R29, R113, R115). -/
def execFieldWrite (h : ReqHeader) (rest : List Byte) (s : State) : Host.Outcome State Fault Refusal :=
  takeRequest 0x09 h rest (parseFieldWrite rest) s

/-- ABANDON (R39 to R42). -/
def execAbandon (h : ReqHeader) (rest : List Byte) (s : State) : Host.Outcome State Fault Refusal :=
  takeRequest 0x0B h rest (parseAbandon rest) s

end Sys2Proof.Machine
end

