-- ==== Sys2Proof/Machine/Dispatch.lean ====
section
/-! DEFINITION. One arm for each command: its meaning. -/

namespace Sys2Proof.Machine

def exec (i : Instr) (s : State) : Host.Outcome State Fault Refusal :=
  match i with
  | .powerOnReset strap holdLines => Sys2Proof.Machine.execPowerOnReset strap holdLines s
  | .frameReceived symbols => Sys2Proof.Machine.execFrameReceived symbols s
  | .farEndPauseMark => Sys2Proof.Machine.execFarEndPauseMark s
  | .messageSent => Sys2Proof.Machine.execMessageSent s
  | .signalFound => Sys2Proof.Machine.execSignalFound s
  | .signalLost => Sys2Proof.Machine.execSignalLost s
  | .sync rest => Sys2Proof.Machine.execSync rest s
  | .linkReset rest => Sys2Proof.Machine.execLinkReset rest s
  | .unknownMessageType first h rest => Sys2Proof.Machine.execUnknownMessageType first h rest s
  | .read h rest => Sys2Proof.Machine.execRead h rest s
  | .write h rest => Sys2Proof.Machine.execWrite h rest s
  | .lockRead h rest => Sys2Proof.Machine.execLockRead h rest s
  | .unlockWrite h rest => Sys2Proof.Machine.execUnlockWrite h rest s
  | .bitSet h rest => Sys2Proof.Machine.execBitSet h rest s
  | .bitClear h rest => Sys2Proof.Machine.execBitClear h rest s
  | .bitTest h rest => Sys2Proof.Machine.execBitTest h rest s
  | .fieldRead h rest => Sys2Proof.Machine.execFieldRead h rest s
  | .fieldWrite h rest => Sys2Proof.Machine.execFieldWrite h rest s
  | .abandon h rest => Sys2Proof.Machine.execAbandon h rest s
  | .loadRegion h operands => Sys2Proof.Machine.execLoadRegion h operands s
  | .retireRegion h operands => Sys2Proof.Machine.execRetireRegion h operands s
  | .alterRights h operands => Sys2Proof.Machine.execAlterRights h operands s
  | .readRegion h operands => Sys2Proof.Machine.execReadRegion h operands s
  | .setPort h operands => Sys2Proof.Machine.execSetPort h operands s
  | .readPort h operands => Sys2Proof.Machine.execReadPort h operands s
  | .setStation h operands => Sys2Proof.Machine.execSetStation h operands s
  | .readStation h operands => Sys2Proof.Machine.execReadStation h operands s
  | .setScan h operands => Sys2Proof.Machine.execSetScan h operands s
  | .setEvent h operands => Sys2Proof.Machine.execSetEvent h operands s
  | .setEventTarget h operands => Sys2Proof.Machine.execSetEventTarget h operands s
  | .eventAck h operands => Sys2Proof.Machine.execEventAck h operands s
  | .eventResume h operands => Sys2Proof.Machine.execEventResume h operands s
  | .readIncident h operands => Sys2Proof.Machine.execReadIncident h operands s
  | .setManagers h operands => Sys2Proof.Machine.execSetManagers h operands s
  | .readOccupancy h operands => Sys2Proof.Machine.execReadOccupancy h operands s
  | .fixedDelayExpiry p bytes => Sys2Proof.Machine.execFixedDelayExpiry p bytes s
  | .readyIndication p bytes => Sys2Proof.Machine.execReadyIndication p bytes s
  | .readyTimerExpiry p => Sys2Proof.Machine.execReadyTimerExpiry p s
  | .lockLifetimeExpiry p => Sys2Proof.Machine.execLockLifetimeExpiry p s
  | .holdRequestRaise p => Sys2Proof.Machine.execHoldRequestRaise p s
  | .holdRequestWithdrawal p => Sys2Proof.Machine.execHoldRequestWithdrawal p s
  | .holdLimitExpiry p => Sys2Proof.Machine.execHoldLimitExpiry p s
  | .stationReply r => Sys2Proof.Machine.execStationReply r s
  | .lineTimerExpiry => Sys2Proof.Machine.execLineTimerExpiry s
  | .scanTimerExpiry => Sys2Proof.Machine.execScanTimerExpiry s
  | .ackWindowExpiry => Sys2Proof.Machine.execAckWindowExpiry s
  | .farEndPauseMarkGone => Sys2Proof.Machine.execFarEndPauseMarkGone s

end Sys2Proof.Machine
end

