-- ==== Sys2Proof/Safety.lean ====
section
/-! DEFINITION. The terms in which claims are stated: how a message arrives and what an event hands over, the bytes that a
frame carries, the commands of each kind with their bodies written by R163, the conditions under which a request is served, and
the invariants that hold between events. A safe run is one in which every state meets all of the invariants. -/

namespace Sys2Proof.Machine

/-! ### Messages in and out -/

/-- A message with this body is taken in `s`, which leaves `u` to process it in: the oldest frame of the receive buffer is this
message, or the buffer is empty and the message arrives while signal is present; in both cases the outbound list holds fewer
than 16 messages (R156, R159; the second case is assumption log entry 3). -/
def Arrives (body : List Byte) (s u : State) : Prop :=
  s.link.outbound.length < 16 ∧
    ((s.link.rx = [] ∧ s.link.signal = true ∧ u = s) ∨
      ∃ later, s.link.rx = body :: later ∧ u = s.setLink { s.link with rx := later })

/-- Every message that was in the outbound list stays in it, and this one is the first that joins it. -/
def HandsFirst (s t : State) (m : Message) : Prop := s.link.outbound ++ [m] <+: t.link.outbound

/-- Every message that was in the outbound list stays in it, and this one is among those that join it. -/
def Hands (s t : State) (m : Message) : Prop := ∃ joined, t.link.outbound = s.link.outbound ++ joined ∧ m ∈ joined

/-- The parts of the link interface that no handing over touches are the same. -/
def SameReceiver (s t : State) : Prop :=
  t.link.state = s.link.state ∧ t.link.signal = s.link.signal ∧ t.link.resetCount = s.link.resetCount ∧
    t.link.strap = s.link.strap ∧ t.link.framing = s.link.framing ∧ t.link.rx = s.link.rx ∧
    t.link.farPause = s.link.farPause

/-- The blocks besides the link interface, the slot table and its initiator records are the same. -/
def SameBlocks (s t : State) : Prop :=
  t.regions = s.regions ∧ t.chains = s.chains ∧ t.ports = s.ports ∧ t.stations = s.stations ∧ t.line = s.line ∧
    t.events = s.events ∧ t.management = s.management

/-- One message is handed over, and nothing else changes: what a refusal does (R30). -/
def OnlyHands (s t : State) (m : Message) : Prop :=
  t.link.outbound = s.link.outbound ++ [m] ∧ SameReceiver s t ∧ SameBlocks s t ∧ t.slots = s.slots ∧
    t.initiators = s.initiators ∧ t.acceptCounter = s.acceptCounter

/-- Nothing of the event unit or of the stations changes but by a selection, which can only build a message in IDLE (R128, R129):
the delivery state, its message, timer, resend count and number, and a delivered copy. -/
def OnlySelection (s t : State) : Prop :=
  t.events.priorities = s.events.priorities ∧ t.events.incidents = s.events.incidents ∧
    t.events.target = s.events.target ∧ t.events.ackWindow = s.events.ackWindow ∧
    (∀ n, row t.stations n = { row s.stations n with delivered := (row t.stations n).delivered }) ∧
    (s.events.delivery ≠ .idle → t.events = s.events ∧ t.stations = s.stations)

/-- A RESPONSE without a partial marker and without a summary. -/
def plainResponse (k : Initiator) (t : Tag) (a : Answer) : Message :=
  .response { initiator := k, tag := t, answer := a, partialMarker := false, summary := none }

/-- The RESPONSE of a chain's LAST, with the summary of a failed chain (R102). -/
def lastResponse (k : Initiator) (t : Tag) (a : Answer) (count : Nat) (f : ChainFailure) : Message :=
  .response { initiator := k, tag := t, answer := a, partialMarker := false,
              summary := some { count := count, failure := some f } }

/-- A slot has been answered SKIPPED and released (R99). -/
def SkippedIn (s t : State) (i : SlotId) : Prop :=
  row t.slots i = none ∧ ∀ x, row s.slots i = some x → Hands s t (plainResponse x.initiator x.tag .skipped)

/-! ### What a frame on the line carries (R154, R163)

Written out from the tables of R163 and not by `Sys2Proof.Machine.messageBody`, so that a statement about the frame that is sent
says what bytes it holds. A bit whose value R163 does not state is left to an existential. -/

/-- A number sent low byte first in two bytes. -/
def twoBytes (n : Nat) : List Byte := [BitVec.ofNat 8 n, BitVec.ofNat 8 (n / 256)]

/-- A three-byte address, sent high byte first. -/
def threeBytes (a : Addr) : List Byte :=
  [BitVec.ofNat 8 (a.toNat / 65536), BitVec.ofNat 8 (a.toNat / 256), BitVec.ofNat 8 a.toNat]

/-- A set of positions, sent low byte first in four bytes. -/
def fourBytes (p : Positions) : List Byte :=
  [BitVec.ofNat 8 p.toNat, BitVec.ofNat 8 (p.toNat / 256), BitVec.ofNat 8 (p.toNat / 65536),
    BitVec.ofNat 8 (p.toNat / 16777216)]

/-- The numbers of the fault codes. -/
def codeOfFault : FaultCode → Nat
  | .badReq => 1
  | .tagBusy => 2
  | .noMap => 3
  | .denied => 4
  | .align => 5
  | .portDown => 6
  | .noLock => 7
  | .lockNest => 8
  | .lockAddr => 9
  | .lockLost => 10
  | .timeout => 11
  | .noStation => 12
  | .direction => 13
  | .fieldSpan => 14
  | .chainLong => 15
  | .badAck => 16
  | .entryBusy => 17
  | .overlap => 18
  | .badValue => 19

/-- The outcome byte of a RESPONSE. -/
def codeOfAnswer : Answer → Nat
  | .done => 0x00
  | .data _ => 0x01
  | .defer => 0x02
  | .full => 0x03
  | .skipped => 0x04
  | .fault c => 0x10 + codeOfFault c

/-- The five detail bytes. -/
def detailCarried : Option Detail → List Byte
  | none => [0, 0, 0, 0, 0]
  | some (.port p) => [1, BitVec.ofNat 8 p.val, 0, 0, 0]
  | some (.portAddress p a) => 2 :: BitVec.ofNat 8 p.val :: threeBytes a
  | some (.station n) => [3, BitVec.ofNat 8 n.val, 0, 0, 0]
  | some (.cause .check) => [4, 0, 0, 0, 0]
  | some (.cause .length) => [4, 1, 0, 0, 0]

/-- The source number of an EVENT. -/
def numberOfSource : Source → Nat
  | .station n => n.val
  | .incident .lockExpired => 16
  | .incident .readyTimeout => 17
  | .incident .strayReady => 18
  | .incident .postedFail => 19
  | .incident .holdOverrun => 20
  | .incident .stationLost => 21
  | .incident .linkError => 22
  | .incident .scanOverrun => 23

/-- The record of a READ-REGION of a present entry: its state, the 17 field bytes, and the in-flight count. -/
def regionCarried (r : RegionRecord) : List Byte :=
  (match r.phase with
    | .active => [1]
    | .draining => [2] : List Byte)
    ++ threeBytes r.fields.base ++ threeBytes r.fields.limit ++ [BitVec.ofNat 8 r.fields.port.val]
    ++ (match r.fields.completion with
        | .fixed d => [0, BitVec.ofNat 8 d]
        | .ready t => [1, BitVec.ofNat 8 t] : List Byte)
    ++ [(if r.fields.posted then 1 else 0 : Byte)]
    ++ (match r.fields.lanes with
        | .straight => [0]
        | .crossed => [1]
        | .narrow => [2] : List Byte)
    ++ [(if r.fields.lockable then 1 else 0 : Byte), r.fields.readSet, r.fields.writeSet]
    ++ threeBytes r.fields.targetBase ++ [BitVec.ofNat 8 r.inFlight]

/-- The record of a READ-PORT. -/
def portCarried (r : PortReport) : List Byte :=
  (match r.setting with
    | .up => [0]
    | .down => [1] : List Byte)
    ++ (match r.state with
        | .idle => [0]
        | .issued _ => [1]
        | .held => [2] : List Byte)
    ++ [BitVec.ofNat 8 r.queueLength]
    ++ (match r.gate with
        | .none => [0]
        | .pending => [1]
        | .granted => [2] : List Byte)
    ++ [BitVec.ofNat 8 r.lockLifetime, BitVec.ofNat 8 r.holdLimit]
    ++ match r.lock with
      | none => [0, 0, 0, 0, 0, 0, 0, 0]
      | some l =>
          [1, BitVec.ofNat 8 l.owner.val] ++ threeBytes l.address
            ++ (match l.width with
                | .byte => [1]
                | .word => [2] : List Byte)
            ++ [BitVec.ofNat 8 l.entry.val]
            ++ match l.timer with
              | .running _ => [0]
              | .stopped => [1]

/-- The bytes of a last sample or delivered copy: a byte that says whether it is present, and its four bytes, whose values are not
stated while it is absent. -/
def OptionCarried (p : Option Positions) (bytes : List Byte) : Prop :=
  match p with
  | some v => bytes = 1 :: fourBytes v
  | none => ∃ a b c d : Byte, bytes = [0, a, b, c, d]

/-- The record of a READ-STATION. -/
def StationCarried (r : Station) (bytes : List Byte) : Prop :=
  ∃ sample copy : List Byte, OptionCarried r.lastSample sample ∧ OptionCarried r.delivered copy ∧
    bytes =
      (match r.presence with
        | .disabled => [0]
        | .unknown => [1]
        | .present => [2]
        | .absent => [3] : List Byte)
        ++ [BitVec.ofNat 8 r.timeouts] ++ fourBytes r.direction ++ fourBytes r.inversion ++ fourBytes r.rise
        ++ fourBytes r.fall ++ sample ++ fourBytes r.image ++ fourBytes r.latched ++ copy

/-- The record of a READ-OCCUPANCY: for each initiator a byte with the occupancy in bits 3–0 and the mode in bit 7, then the number of
FREE slots. -/
def OccupancyCarried (records : List (Nat × Mode)) (free : Nat) (bytes : List Byte) : Prop :=
  bytes.length = records.length + 1 ∧ bytes[records.length]? = some (BitVec.ofNat 8 free) ∧
    ∀ (k : Nat) (r : Nat × Mode), records[k]? = some r → ∃ b : Byte, bytes[k]? = some b ∧ b.toNat % 16 = r.1 % 16 ∧
      b.getLsbD 7 = decide (r.2 = .abandoning)

/-- The DATA value of a RESPONSE. -/
def DataCarried (v : DataValue) (bytes : List Byte) : Prop :=
  match v with
  | .byte b => bytes = [b]
  | .word w => bytes = twoBytes w.toNat
  | .record (.region none) => bytes = [0]
  | .record (.region (some r)) => bytes = regionCarried r
  | .record (.port r) => bytes = portCarried r
  | .record (.station r) => StationCarried r bytes
  | .record (.incident r) => bytes = twoBytes r.count ++ twoBytes r.acknowledged ++ detailCarried r.detail
  | .record (.occupancy records free) => OccupancyCarried records free bytes

/-- The body of a RESPONSE. -/
def ResponseCarried (r : Response) (body : List Byte) : Prop :=
  ∃ (flags : Byte) (data : List Byte), flags.getLsbD 0 = r.partialMarker ∧ flags.getLsbD 1 = r.summary.isSome ∧
    body =
      [0x81, BitVec.ofNat 8 (32 * r.initiator.val + 4 * r.tag.val), BitVec.ofNat 8 (codeOfAnswer r.answer), flags]
        ++ (match r.summary with
            | none => []
            | some c =>
                match c.failure with
                | none => [BitVec.ofNat 8 c.count, 0, 0, 0]
                | some f =>
                    [BitVec.ofNat 8 c.count] ++ twoBytes f.ordinal ++ [BitVec.ofNat 8 (codeOfFault f.code)])
        ++ data ∧
    match r.answer with
    | .data v => DataCarried v data
    | _ => data = []

/-- The body of a message that the part sends. -/
def BodyCarried (m : Message) (body : List Byte) : Prop :=
  match m with
  | .response r => ResponseCarried r body
  | .event target e =>
      ∃ b : Byte, b.toNat / 32 = target.val ∧
        body = [0x82, b, e.sequence, BitVec.ofNat 8 (numberOfSource e.source), BitVec.ofNat 8 e.priority.val]
          ++ match e.payload with
            | .latched set => fourBytes set
            | .incident count detail => twoBytes count ++ detailCarried detail
  | .linkNotice strap count =>
      ∃ b : Byte, b.toNat % 8 = strap.val ∧ body = [0x83, b] ++ twoBytes count.toNat

/-- The bits of a body in the order in which they are shifted: byte by byte, the most significant bit first (R154). -/
def bitsOf (body : List Byte) : List Bool :=
  body.flatMap fun b =>
    [b.getLsbD 7, b.getLsbD 6, b.getLsbD 5, b.getLsbD 4, b.getLsbD 3, b.getLsbD 2, b.getLsbD 1, b.getLsbD 0]

/-- The register of the check after some bits: each doubles it modulo 2^16, and x^12 + x^5 + 1 is added where the bit that leaves and
the bit that enters differ (R154). -/
def registerAfter : List Bool → Nat → Nat
  | [], r => r
  | bit :: later, r =>
      registerAfter later
        (if decide (32768 ≤ r) = bit then 2 * r % 65536 else (2 * r % 65536) ^^^ (2 ^ 12 + 2 ^ 5 + 1))

/-- A frame on the line carries a message (R154): start delimiter, length byte, body, and the check word of the body, from a register of
all ones, high byte first. -/
def FrameCarries (m : Message) (f : List LineSymbol) : Prop :=
  ∃ body : List Byte, BodyCarried m body ∧
    f = .delimiter :: .byte (BitVec.ofNat 8 body.length) ::
      (body ++ [BitVec.ofNat 8 (registerAfter (bitsOf body) 65535 / 256), BitVec.ofNat 8 (registerAfter (bitsOf body) 65535)]).map
        .byte

/-! ### Commands, written by their layouts -/

/-- The data bytes of a write: one, or two with the low byte first (R163). -/
def dataFor : Width → BitVec 16 → List Byte
  | .byte, d => [loByte d]
  | .word, d => [loByte d, hiByte d]

/-- Whether the write data fits the width: a BYTE write carries 8 bits. -/
def dataFits (width : Width) : PortKind → Prop
  | .read => True
  | .write d => width = .byte → d.toNat < 256
  | .lockRead => True
  | .unlockWrite d => width = .byte → d.toNat < 256

/-- The command of a port kind, with the body bytes of R163. -/
def portCommand (h : ReqHeader) (kind : PortKind) (addr : Addr) (width : Width) : Instr :=
  match kind with
  | .read => .read h (widthCode width :: addrBytes addr)
  | .write d => .write h (widthCode width :: addrBytes addr ++ dataFor width d)
  | .lockRead => .lockRead h (widthCode width :: addrBytes addr)
  | .unlockWrite d => .unlockWrite h (widthCode width :: addrBytes addr ++ dataFor width d)

/-- A bit kind within the ranges that R26 admits. -/
def bitKindFits : BitKind → Prop
  | .set => True
  | .clear => True
  | .test => True
  | .fieldRead w => 1 ≤ w ∧ w ≤ 16
  | .fieldWrite w v => 1 ≤ w ∧ w ≤ 16 ∧ v.toNat < 2 ^ w

/-- The command of a bit kind, with the body bytes of R163. -/
def bitCommand (h : ReqHeader) (kind : BitKind) (addr : Addr) : Instr :=
  match kind with
  | .set => .bitSet h (0 :: addrBytes addr)
  | .clear => .bitClear h (0 :: addrBytes addr)
  | .test => .bitTest h (0 :: addrBytes addr)
  | .fieldRead w => .fieldRead h (byteOf w :: addrBytes addr)
  | .fieldWrite w v => .fieldWrite h (byteOf w :: addrBytes addr ++ [loByte v, hiByte v])

/-- The operand bytes of LOAD-REGION (R163). -/
def loadBytes (o : LoadOperands) : List Byte :=
  [o.entry] ++ addrBytes o.base ++ addrBytes o.limit
    ++ [o.port, o.completionKind, o.completionTime, o.posted, o.lanes, o.lockable, o.readSet, o.writeSet]
    ++ addrBytes o.targetBase

/-- The byte that names a yes or no. -/
def yesNo (b : Bool) : Byte := if b then 1 else 0

/-- The operands of LOAD-REGION that name an entry and its fields by the codes of R163. -/
def loadOperandsFor (e : EntryId) (f : RegionFields) : LoadOperands where
  entry := BitVec.ofNat 8 e.val
  base := f.base
  limit := f.limit
  port := BitVec.ofNat 8 f.port.val
  completionKind := match f.completion with
    | .fixed _ => 0
    | .ready _ => 1
  completionTime := match f.completion with
    | .fixed d => BitVec.ofNat 8 d
    | .ready t => BitVec.ofNat 8 t
  posted := yesNo f.posted
  lanes := match f.lanes with
    | .straight => 0
    | .crossed => 1
    | .narrow => 2
  lockable := yesNo f.lockable
  readSet := f.readSet
  writeSet := f.writeSet
  targetBase := f.targetBase

/-- The operand bytes of SET-STATION (R163). -/
def stationBytes (o : StationOperands) : List Byte :=
  [o.station, o.enable] ++ positionsBytes o.direction ++ positionsBytes o.inversion ++ positionsBytes o.rise
    ++ positionsBytes o.fall

/-- The command of a MANAGE operation, with the operand bytes of R163. -/
def manageCommand (h : ReqHeader) : ManageOp → Instr
  | .loadRegion o => .loadRegion h (loadBytes o)
  | .retireRegion entry => .retireRegion h [entry]
  | .alterRights entry readSet writeSet => .alterRights h [entry, readSet, writeSet]
  | .readRegion entry => .readRegion h [entry]
  | .setPort port setting lifetime limit => .setPort h [port, setting, lifetime, limit]
  | .readPort port => .readPort h [port]
  | .setStation o => .setStation h (stationBytes o)
  | .readStation station => .readStation h [station]
  | .setScan period => .setScan h [period]
  | .setEvent source priority => .setEvent h [source, priority]
  | .setEventTarget initiator window => .setEventTarget h [initiator, window]
  | .eventAck source sequence => .eventAck h [source, sequence]
  | .eventResume => .eventResume h []
  | .readIncident kind clear => .readIncident h [kind, clear]
  | .setManagers set => .setManagers h [set]
  | .readOccupancy => .readOccupancy h []

/-! ### When a request is served -/

/-- No occupied slot has the key (R21). -/
def KeyFree (s : State) (h : ReqHeader) : Prop :=
  ∀ i x, row s.slots i = some x → ¬(x.initiator = h.initiator ∧ x.tag = h.tag)

/-- A request outside any chain passes steps 1 to 6 of the acceptance order (R25): the link is UP, its initiator is NORMAL, its
key is free, and a slot is FREE. -/
def Served (s : State) (h : ReqHeader) : Prop :=
  s.link.state = .up ∧ (row s.initiators h.initiator).mode = .normal ∧ h.mark = .none ∧ KeyFree s h
    ∧ ∃ i, row s.slots i = none

/-- The mark of a chain member. -/
abbrev MemberMark (m : ChainMark) : Prop := m = .member ∨ m = .last

/-- A member that no earlier member of its chain holds back passes steps 1 to 6 of the acceptance order (R25, R95, R96, R97): the
context is CLOSED or OPEN with room for a member and no LAST held, and its member list is empty. -/
def ServedAsHead (s : State) (h : ReqHeader) : Prop :=
  s.link.state = .up ∧ (row s.initiators h.initiator).mode = .normal ∧ MemberMark h.mark ∧ KeyFree s h ∧
    (∃ i, row s.slots i = none) ∧ (row s.chains h.initiator).state ≠ .failed ∧
    (row s.chains h.initiator).lastHeld = false ∧ (row s.chains h.initiator).count < 255 ∧
    (row s.chains h.initiator).members = []

/-- A request is admitted to the checks of step 7 and, if they pass, routed at once: it is outside any chain, or its chain's head. -/
def Admitted (s : State) (h : ReqHeader) : Prop := Served s h ∨ ServedAsHead s h

/-- The chain role of an admitted request's slot, with the ordinal due (R94, R97). -/
def roleDue (s : State) (h : ReqHeader) : ChainRole :=
  match h.mark with
  | .none => .none
  | .member => .member ((row s.chains h.initiator).count + 1)
  | .last => .last ((row s.chains h.initiator).count + 1)
  | .malformed => .none

/-- The chain contexts after an admitted request has taken a slot: a member opens a CLOSED context, is counted and is the list's one
entry, and a LAST is held (R94, R97). -/
def chainsWithHead (s : State) (h : ReqHeader) (i : SlotId) : Table 8 Chain :=
  if MemberMark h.mark then
    putRow s.chains h.initiator
      { row s.chains h.initiator with
        state := .opened, count := (row s.chains h.initiator).count + 1, members := [i], lastHeld := decide (h.mark = .last) }
  else s.chains

/-- The chain marks a port kind allows (R26). -/
def markFits (h : ReqHeader) : PortKind → Prop
  | .read => True
  | .write _ => True
  | .lockRead => h.mark = .none
  | .unlockWrite _ => h.mark = .none

/-- A MANAGE request is accepted: it is served, and its requester is a manager (R25, R29). -/
def ManageServed (s : State) (h : ReqHeader) : Prop := Served s h ∧ s.management.managers.has h.initiator = true

/-- What the lock checks ask of a port kind (R70, R71): a LOCK-READ finds no lock record of its initiator on the port and no
occupied LOCK-READ slot of its initiator for it; an UNLOCK-WRITE finds its initiator's lock record, of its address and width. -/
def LockAllows (s : State) (k : Initiator) (p : PortId) (addr : Addr) (width : Width) : PortKind → Prop
  | .read => True
  | .write _ => True
  | .lockRead =>
      (∀ l, (row s.ports p).lock = some l → l.owner ≠ k) ∧
        ∀ i x w, row s.slots i = some x → x.work = .port w → x.initiator = k → w.port = p → w.kind ≠ .lockRead
  | .unlockWrite _ => ∃ l, (row s.ports p).lock = some l ∧ l.owner = k ∧ l.address = addr ∧ l.width = width

/-- A port-kind access passes the region map's checks at an entry (R5, R6, R7): the entry is the lookup's, ACTIVE, its port UP,
the initiator in the sets its kind needs, a WORD even, and a LOCK-READ in a lockable window. -/
def RegionAllows (s : State) (k : Initiator) (kind : PortKind) (addr : Addr) (width : Width) (e : EntryId)
    (r : RegionRecord) : Prop :=
  lookup s addr = some e ∧ row s.regions e = some r ∧ r.phase = .active ∧
    (row s.ports r.fields.port).setting = .up ∧ hasRight r.fields k kind = true ∧
    (width = .word → addr.toNat % 2 = 0) ∧ (kind = .lockRead → r.fields.lockable = true) ∧
    LockAllows s k r.fields.port addr width kind

/-- A port-kind access is refused by the region map's checks, with the outcome of the first that fails (R5, R6, R7, R70, R71). -/
def RegionRefuses (s : State) (k : Initiator) (kind : PortKind) (addr : Addr) (width : Width) (a : Answer) : Prop :=
  (lookup s addr = none ∧ a = .fault .noMap) ∨
    ∃ e r, lookup s addr = some e ∧ row s.regions e = some r ∧
      ((r.phase = .draining ∧ a = .defer) ∨
        (r.phase = .active ∧ (row s.ports r.fields.port).setting = .down ∧ a = .fault .portDown) ∨
        (r.phase = .active ∧ (row s.ports r.fields.port).setting = .up ∧
          ((hasRight r.fields k kind = false ∧ a = .fault .denied) ∨
            (hasRight r.fields k kind = true ∧ width = .word ∧ addr.toNat % 2 = 1 ∧ a = .fault .align) ∨
            (hasRight r.fields k kind = true ∧ (width = .word → addr.toNat % 2 = 0) ∧
              ((kind = .lockRead ∧ r.fields.lockable = false ∧ a = .fault .noLock) ∨
                (kind = .lockRead ∧ r.fields.lockable = true ∧ ¬ LockAllows s k r.fields.port addr width kind ∧
                  a = .fault .lockNest) ∨
                (∃ d, kind = .unlockWrite d ∧ (∀ l, (row s.ports r.fields.port).lock = some l → l.owner ≠ k) ∧
                  a = .fault .lockLost) ∨
                ∃ d l, kind = .unlockWrite d ∧ (row s.ports r.fields.port).lock = some l ∧ l.owner = k ∧
                  ¬(l.address = addr ∧ l.width = width) ∧ a = .fault .lockAddr)))))

/-- A window holds an address (R4). -/
def Inside (f : RegionFields) (addr : Addr) : Prop := f.base.toNat ≤ addr.toNat ∧ addr.toNat ≤ f.limit.toNat

/-- The sets that a port kind needs its initiator in (R6), read bit by bit. -/
def Entitled (f : RegionFields) (k : Initiator) : PortKind → Prop
  | .read => f.readSet.getLsbD k.val = true
  | .write _ => f.writeSet.getLsbD k.val = true
  | .lockRead => f.readSet.getLsbD k.val = true ∧ f.writeSet.getLsbD k.val = true
  | .unlockWrite _ => f.writeSet.getLsbD k.val = true

/-- The slot record that R32 fills for a request outside any chain, in a state of service. -/
def filledSlot (s : State) (h : ReqHeader) (w : Work) (st : SlotState) (posted : Bool) : Slot where
  initiator := h.initiator
  tag := h.tag
  work := w
  role := .none
  state := st
  step := .one
  answered := posted
  suppressed := false
  outcome := if posted then some .done else none
  sequence := s.acceptCounter

/-- A MANAGE request has been carried out and answered (R139): the slot it took is FREE again, so that the table and the initiator
records read as before; the acceptance counter has risen by 1, no chain has changed, and the answer is handed over. -/
def ManageAnswered (s t : State) (h : ReqHeader) (a : Answer) : Prop :=
  t.slots = s.slots ∧ t.initiators = s.initiators ∧ t.acceptCounter = s.acceptCounter + 1 ∧ t.chains = s.chains ∧
    t.link.state = s.link.state ∧ t.link.resetCount = s.link.resetCount ∧
    Hands s t (plainResponse h.initiator h.tag a)

/-- The release of one of its slots ends an initiator's abandonment (R42): it is ABANDONING and holds no other slot. -/
abbrev EndsAbandonment (s : State) (k : Initiator) : Prop :=
  (row s.initiators k).mode = .abandoning ∧ (row s.initiators k).occupancy ≤ 1

/-- The answer to an ABANDON that the release of an initiator's last slot hands over while UP: DONE with the ABANDON tag, if it is
present (R42, R160). -/
def abandonAnswer (s : State) (k : Initiator) : List Message :=
  if EndsAbandonment s k ∧ s.link.state = .up then
    match (row s.initiators k).abandonTag with
    | some t => [plainResponse k t .done]
    | none => []
  else []

/-- The release of a slot outside any chain (R37, R42): it is FREE, and its RESPONSE was handed over unless it was answered or
suppressed, or the link is DOWN. Its initiator's occupancy has fallen by 1; where that ends an abandonment, the mode is NORMAL, the
ABANDON tag is absent, and the ABANDON has been answered. -/
def Released (s v : State) (i : SlotId) (x : Slot) (m : Message) : Prop :=
  v.slots = putRow s.slots i none ∧
    v.initiators = putRow s.initiators x.initiator
      (if EndsAbandonment s x.initiator then { occupancy := 0, mode := .normal, abandonTag := none }
      else { row s.initiators x.initiator with occupancy := (row s.initiators x.initiator).occupancy - 1 }) ∧
    v.acceptCounter = s.acceptCounter ∧ v.chains = s.chains ∧ SameReceiver s v ∧
    v.link.outbound =
      s.link.outbound ++ (if x.answered = true ∨ x.suppressed = true ∨ s.link.state = .down then [] else [m])
        ++ abandonAnswer s x.initiator

/-- The release of a slot does not end an abandonment (R42): its initiator is NORMAL or keeps other slots. -/
def NoAbandonmentEnds (s : State) (x : Slot) : Prop :=
  (row s.initiators x.initiator).mode = .normal ∨ 1 < (row s.initiators x.initiator).occupancy

/-- One more reference going does not end a drain (R18): the entry is ACTIVE or keeps another reference. -/
def NoDrainEnds (r : RegionRecord) (going : Nat) : Prop := r.phase = .active ∨ going < r.inFlight

/-- What the step that a port presents belongs to: its current slot's work and the entry the work references (R51). -/
def Presents (s : State) (p : PortId) (cur : Issued) (x : Slot) (w : PortWork) (r : RegionRecord) : Prop :=
  (row s.ports p).state = .issued cur ∧ row s.slots cur.slot = some x ∧ x.work = .port w ∧
    row s.regions w.entry = some r

/-- An event that completes the step a port presents: the delay timer's expiry for a FIXED step (R53), a ready indication for a
READY step (R54). -/
def CompletesStep (c : Instr) (p : PortId) (cur : Issued) (bytes : SegmentBytes) : Prop :=
  (c = .fixedDelayExpiry p bytes ∧ ∃ d, cur.timer = .delay d) ∨
    (c = .readyIndication p bytes ∧ ∃ t, cur.timer = .ready t)

/-- The operation on the line belongs to a bit slot outside any chain; no other slot waits and no cycle runs. -/
def LineServes (s : State) (op : LineOp) (i : SlotId) (x : Slot) (w : BitWork) : Prop :=
  s.line.op = some op ∧ op.origin = .request i ∧ row s.slots i = some x ∧ x.work = .bit w ∧ x.role = .none ∧
    x.step = .one ∧ s.line.queue = [] ∧ s.line.cycle = none

/-- The lowest-numbered enabled station at or above a cursor (R118). -/
def NextEnabled (s : State) (cursor : Nat) (n : StationId) : Prop :=
  cursor ≤ n.val ∧ (row s.stations n).presence ≠ .disabled ∧
    ∀ m : StationId, cursor ≤ m.val → m.val < n.val → (row s.stations m).presence = .disabled

/-- No station at or above a cursor is enabled. -/
def NoneEnabled (s : State) (cursor : Nat) : Prop :=
  ∀ m : StationId, cursor ≤ m.val → (row s.stations m).presence = .disabled

/-- The slot table after the allocation of a slot (R32): one FREE slot holds the new record, the acceptance counter and the
initiator's occupancy have risen by 1, and nothing else in the table has changed. -/
def Allocated (s v : State) (k : Initiator) (i : SlotId) (x : Slot) : Prop :=
  row s.slots i = none ∧ v.slots = putRow s.slots i (some x) ∧ v.acceptCounter = s.acceptCounter + 1 ∧
    v.initiators = putRow s.initiators k { row s.initiators k with occupancy := (row s.initiators k).occupancy + 1 }

/-- The target address of an access (R9, R11): the offset in the window added to the target base, with the lowest bit inverted
for a BYTE in a CROSSED window. -/
def targetAddress (f : RegionFields) (width : Width) (addr : Addr) : Addr :=
  if width = .byte ∧ f.lanes = .crossed then (addr - f.base + f.targetBase) ^^^ 1 else addr - f.base + f.targetBase

/-- Whether a request is answered when it is accepted: a WRITE in a posted window, outside any chain (R34). -/
def isPosted (f : RegionFields) : PortKind → Bool
  | .read => false
  | .write _ => f.posted
  | .lockRead => false
  | .unlockWrite _ => false

/-- A queue whose slots were all accepted within the last 65534 acceptances, so that a slot accepted now goes to its tail (R24). -/
def TailOpen (s : State) (queue : List SlotId) : Prop :=
  ∀ q ∈ queue, ∃ y, row s.slots q = some y ∧ y.sequence ≠ s.acceptCounter + 1

/-- A slot was accepted after every slot of `before` and before every slot of `after` (R24, R47): it lies less far behind the acceptance
counter than the ones, and further than the others. -/
def AcceptedBetween (s : State) (before : List SlotId) (y : Slot) (after : List SlotId) : Prop :=
  (∀ i, i ∈ before → ∃ x, row s.slots i = some x ∧
      (s.acceptCounter - y.sequence).toNat < (s.acceptCounter - x.sequence).toNat) ∧
    ∀ i, i ∈ after → ∃ x, row s.slots i = some x ∧
      (s.acceptCounter - x.sequence).toNat < (s.acceptCounter - y.sequence).toNat

/-- A slot that becomes QUEUED in the event that frees a port joins its destination's queue there, and at no IDLE port and no free line
but the port that is freed, which is UP, without a lock record, and has nothing else in its queue (R33, R47, R113). -/
def JoinsBetween (s : State) (p : PortId) (before : List SlotId) (y : Slot) (after : List SlotId) : Prop :=
  AcceptedBetween s before y after ∧
    match y.work with
    | .port z =>
        (row s.ports z.port).setting = .up ∧ (row s.ports z.port).queue = before ++ after ∧
          if z.port = p then
            (row s.ports p).lock = none ∧ (row s.regions z.entry).isSome = true ∧ (z.kind = .read ∨ ∃ d, z.kind = .write d)
          else (row s.ports z.port).state ≠ .idle
    | .bit _ => s.line.op ≠ none ∧ s.line.queue = before ++ after
    | .manage _ => False

/-- The target address of a slot that was answered before its completion, a posted write (R34, R61). -/
def postedTarget (s : State) (i : SlotId) : Option Addr :=
  match row s.slots i with
  | some x =>
      if x.answered then
        match x.work with
        | .port w => some w.target
        | .bit _ => none
        | .manage _ => none
      else none
  | none => none

/-- The range checks of a bit request pass (R29): a bit address of 0 to 511, and the last position in the first one's station. -/
def BitFits (kind : BitKind) (addr : Addr) : Prop :=
  addr.toNat ≤ 511 ∧ addr.toNat % 32 + (bitWidth kind - 1) < 32

/-- A request's checks of step 7 pass, with the work that its slot will hold (R5, R29, R32). -/
def Passes (s : State) (h : ReqHeader) (c : Instr) (w : Work) : Prop :=
  (∃ kind addr width e r, c = portCommand h kind addr width ∧ dataFits width kind ∧
      RegionAllows s h.initiator kind addr width e r ∧
      w = .port { kind := kind, addr := addr, width := width, entry := e, target := targetAddress r.fields width addr,
                  port := r.fields.port }) ∨
    ∃ kind addr, c = bitCommand h kind addr ∧ bitKindFits kind ∧ BitFits kind addr ∧
      w = .bit { kind := kind, addr := BitVec.ofNat 9 addr.toNat }

/-- The region map after the allocation of a slot: the entry that a port kind references counts one more (R14). -/
def CountsOneMore (s v : State) : Work → Prop
  | .port w => ∀ r, row s.regions w.entry = some r →
      v.regions = putRow s.regions w.entry (some { r with inFlight := r.inFlight + 1 })
  | .bit _ => v.regions = s.regions
  | .manage _ => v.regions = s.regions

/-- The header of a request, absent for the commands that are none. -/
def requestOf : Instr → Option ReqHeader
  | .powerOnReset _ _ => none
  | .frameReceived _ => none
  | .farEndPauseMark => none
  | .messageSent => none
  | .signalFound => none
  | .signalLost => none
  | .sync _ => none
  | .linkReset _ => none
  | .unknownMessageType _ _ _ => none
  | .read h _ => some h
  | .write h _ => some h
  | .lockRead h _ => some h
  | .unlockWrite h _ => some h
  | .bitSet h _ => some h
  | .bitClear h _ => some h
  | .bitTest h _ => some h
  | .fieldRead h _ => some h
  | .fieldWrite h _ => some h
  | .abandon h _ => some h
  | .loadRegion h _ => some h
  | .retireRegion h _ => some h
  | .alterRights h _ => some h
  | .readRegion h _ => some h
  | .setPort h _ => some h
  | .readPort h _ => some h
  | .setStation h _ => some h
  | .readStation h _ => some h
  | .setScan h _ => some h
  | .setEvent h _ => some h
  | .setEventTarget h _ => some h
  | .eventAck h _ => some h
  | .eventResume h _ => some h
  | .readIncident h _ => some h
  | .setManagers h _ => some h
  | .readOccupancy h _ => some h
  | .fixedDelayExpiry _ _ => none
  | .readyIndication _ _ => none
  | .readyTimerExpiry _ => none
  | .lockLifetimeExpiry _ => none
  | .holdRequestRaise _ => none
  | .holdRequestWithdrawal _ => none
  | .holdLimitExpiry _ => none
  | .stationReply _ => none
  | .lineTimerExpiry => none
  | .scanTimerExpiry => none
  | .ackWindowExpiry => none
  | .farEndPauseMarkGone => none

/-- A request whose body fits its kind, under a chain mark that its kind allows (R26): a READ, a WRITE or a bit kind under any mark
but 3, and every other kind under NONE. -/
def WellFormedRequest (h : ReqHeader) (c : Instr) : Prop :=
  (∃ kind addr width, c = portCommand h kind addr width ∧ dataFits width kind ∧
      match kind with
      | .read => h.mark ≠ .malformed
      | .write _ => h.mark ≠ .malformed
      | .lockRead => h.mark = .none
      | .unlockWrite _ => h.mark = .none) ∨
    (∃ kind addr, c = bitCommand h kind addr ∧ bitKindFits kind ∧ h.mark ≠ .malformed) ∨
    (∃ op, c = manageCommand h op ∧ h.mark = .none) ∨
    c = .abandon h [] ∧ h.mark = .none

/-- A source is eligible (R126): its priority is 1 or more, and it is pending, that is, a position is latched and not carried by
the delivered copy, or the count differs from the acknowledged count. -/
def Eligible (s : State) (src : Source) : Prop :=
  0 < (row s.events.priorities (sourceNumber src)).val ∧
    match src with
    | .station n =>
        ∃ k, (row s.stations n).latched.getLsbD k = true ∧ ((row s.stations n).delivered.getD 0).getLsbD k = false
    | .incident k =>
        (row s.events.incidents (incidentIndex k)).count ≠ (row s.events.incidents (incidentIndex k)).acknowledged

/-- Selection is carried out (R128). -/
def SelectionOpen (s : State) : Prop :=
  s.events.delivery = .idle ∧ s.link.state = .up ∧ (row s.initiators s.events.target).mode = .normal

/-! ### Invariants -/

/-- The manager set is never empty (R138, R141). -/
def ManagersOk (s : State) : Prop := ∃ k, s.management.managers.has k = true

/-- The ranges and relations of R2. -/
def FieldsOk (f : RegionFields) : Prop :=
  f.base.toNat % 256 = 0 ∧ (f.limit.toNat + 1) % 256 = 0 ∧ f.base.toNat + 255 ≤ f.limit.toNat ∧
    f.targetBase.toNat % 256 = 0 ∧ f.targetBase.toNat + (f.limit.toNat - f.base.toNat) ≤ 16777215 ∧
    match f.completion with
    | .fixed d => 1 ≤ d ∧ d ≤ 63
    | .ready t => 1 ≤ t ∧ t ≤ 255

/-- Every present entry meets R2, and no two windows share a byte (R3). -/
def RegionMapOk (s : State) : Prop :=
  (∀ e r, row s.regions e = some r → FieldsOk r.fields) ∧
    ∀ e f r q, row s.regions e = some r → row s.regions f = some q → e ≠ f →
      r.fields.limit.toNat < q.fields.base.toNat ∨ q.fields.limit.toNat < r.fields.base.toNat

/-- A station record that R107, R108 and R119 allow: rise and fall sets among the inputs, an image among the outputs, latched
positions among the watched ones, a delivered copy among the latched ones, ABSENT exactly at two timeouts, and a DISABLED
station with nothing of its last service. -/
def StationOk (st : Station) : Prop :=
  (st.rise ||| st.fall) &&& st.direction = 0 ∧ st.image &&& ~~~ st.direction = 0 ∧
    st.latched &&& ~~~ (st.rise ||| st.fall) = 0 ∧ (∀ copy, st.delivered = some copy → copy &&& ~~~ st.latched = 0) ∧
    st.timeouts ≤ 2 ∧ (st.presence = .absent ↔ st.timeouts = 2) ∧
    (st.presence = .disabled → st.lastSample = none ∧ st.timeouts = 0 ∧ st.latched = 0 ∧ st.delivered = none)

/-- Every station record is sound. -/
def StationsOk (s : State) : Prop := ∀ n, StationOk (row s.stations n)

/-- A port that R45, R49, R64 and R83 allow: HELD exactly while the hold is GRANTED, no lock record while HELD, the hold-limit
timer running only during a grant, and a DOWN port with an empty queue, no lock record and no PENDING hold. -/
def PortOk (x : Port) : Prop :=
  (x.state = .held ↔ x.gate = .granted) ∧ (x.state = .held → x.lock = none) ∧
    (x.holdTimer ≠ .stopped → x.gate = .granted) ∧
    (x.setting = .down → x.queue = [] ∧ x.lock = none ∧ x.gate ≠ .pending)

/-- Every port is sound. -/
def PortsOk (s : State) : Prop := ∀ p, PortOk (row s.ports p)

/-- A chain context that R92, R94 and R100 allow: a CLOSED context is clear, a context is FAILED exactly while it holds a first
failure, and its member count is at most 255. -/
def ChainOk (c : Chain) : Prop :=
  (c.state = .closed → c = Chain.closed) ∧ (c.state = .failed ↔ c.failure.isSome = true) ∧ c.count ≤ 255

/-- Every chain context is sound. -/
def ChainsOk (s : State) : Prop := ∀ k, ChainOk (row s.chains k)

/-- What a message in flight carries, against the records as they stand (R129, R131): an incident's count is not above its
record's, a station's payload is a set of positions, and the number is the sequence counter's. -/
def MessageOk (e : EventUnit) (m : EventMessage) : Prop :=
  m.sequence = e.sequence ∧
    match m.source, m.payload with
    | .incident k, .incident count _ => count ≤ (row e.incidents (incidentIndex k)).count
    | .station _, .latched _ => True
    | .incident _, .latched _ => False
    | .station _, .incident _ _ => False

/-- The delivery state with its message, timer and resend count (R127, R130). -/
def DeliveryOk (e : EventUnit) : Prop :=
  match e.delivery with
  | .idle => e.ackTimer = .stopped ∧ e.resends = 0
  | .awaitAck m => e.ackTimer ≠ .stopped ∧ e.resends ≤ 3 ∧ MessageOk e m
  | .stalled m => e.ackTimer = .stopped ∧ e.resends = 3 ∧ MessageOk e m

/-- The event unit is sound (R124, R127, R131): no acknowledged count above its count, no count above 65535, a sound delivery
state, and a delivered copy only of the station whose message is in flight. -/
def EventsOk (s : State) : Prop :=
  (∀ k, (row s.events.incidents k).acknowledged ≤ (row s.events.incidents k).count ∧
      (row s.events.incidents k).count ≤ 65535) ∧
    DeliveryOk s.events ∧
    ∀ n, (row s.stations n).delivered.isSome = true → ∃ m, inFlightMessage s = some m ∧ m.source = .station n

/-- The link interface is sound (R155, R157, R159): while DOWN nothing is held to send, without signal the link is DOWN with no
frame or partial frame, the receive buffer holds at most two frames, and a frame on the line is that of the list's head, with some
value of the bits that R163 leaves unstated. -/
def LinkOk (l : LinkUnit) : Prop :=
  (l.state = .down → l.outbound = [] ∧ l.sending = none) ∧
    (l.signal = false → l.state = .down ∧ l.rx = [] ∧ l.framing = .hunting) ∧
    l.rx.length ≤ 2 ∧
    ∀ f, l.sending = some f → ∃ m later free, l.outbound = m :: later ∧ f = frameOf (messageBody free m)

/-- The occupied slots of an initiator. -/
def slotsOf (s : State) (k : Initiator) : Nat :=
  (List.finRange 32).countP fun i => (row s.slots i).any fun x => decide (x.initiator = k)

/-- The slot table is sound (R21, R22, R23, R34): no two occupied slots share a key, each occupancy count is the number of its
initiator's occupied slots, no slot is found in state DONE, and only a WRITE is answered before its completion. -/
def SlotTableOk (s : State) : Prop :=
  (∀ i j x y, row s.slots i = some x → row s.slots j = some y → x.initiator = y.initiator → x.tag = y.tag → i = j) ∧
    (∀ k, (row s.initiators k).occupancy = slotsOf s k) ∧
    (∀ i x, row s.slots i = some x → x.state ≠ .done) ∧
    ∀ i x, row s.slots i = some x → x.answered = true → ∃ w d, x.work = .port w ∧ w.kind = .write d

/-- The slots and the blocks that serve them agree (R21, R33, R47, R51, R113, R138): keys are unique, a port's queue holds no slot
twice and only QUEUED slots of that port, the line queue no slot twice and only QUEUED bit slots, a port's current slot is an ACTIVE
slot of that port, a request's line operation belongs to an ACTIVE bit slot, and each pending retire to an ACTIVE MANAGE slot of its
own. -/
def QueuesOk (s : State) : Prop :=
  (∀ i j x y, row s.slots i = some x → row s.slots j = some y → x.initiator = y.initiator → x.tag = y.tag → i = j) ∧
    (∀ p, (row s.ports p).queue.Nodup) ∧
    (∀ p q, q ∈ (row s.ports p).queue →
      ∃ x w, row s.slots q = some x ∧ x.state = .queued ∧ x.work = .port w ∧ w.port = p) ∧
    s.line.queue.Nodup ∧
    (∀ q, q ∈ s.line.queue → ∃ x w, row s.slots q = some x ∧ x.state = .queued ∧ x.work = .bit w) ∧
    (∀ p cur, (row s.ports p).state = .issued cur →
      ∃ x w, row s.slots cur.slot = some x ∧ x.state = .active ∧ x.work = .port w ∧ w.port = p) ∧
    (∀ op i, s.line.op = some op → op.origin = .request i →
      ∃ x w, row s.slots i = some x ∧ x.state = .active ∧ x.work = .bit w) ∧
    (∀ r, r ∈ s.management.retires →
      ∃ i x op, row s.slots i = some x ∧ x.initiator = r.initiator ∧ x.tag = r.tag ∧ x.state = .active ∧
        x.work = .manage op) ∧
    ∀ r q, r ∈ s.management.retires → q ∈ s.management.retires → r.initiator = q.initiator → r.tag = q.tag → r = q

/-- Every occupied slot was accepted within the last 65534 acceptances: as far back as a distance behind the acceptance counter tells
the order of acceptance (R24). -/
def Recent (s : State) : Prop :=
  ∀ i x, row s.slots i = some x → 1 ≤ (s.acceptCounter - x.sequence).toNat ∧ (s.acceptCounter - x.sequence).toNat < 65535

/-- A queue stands in acceptance order (R24, R47): each slot lies further behind the acceptance counter than every slot after it. -/
def Ordered (s : State) (queue : List SlotId) : Prop :=
  queue.Pairwise fun i j => ∀ x y, row s.slots i = some x → row s.slots j = some y →
    (s.acceptCounter - y.sequence).toNat < (s.acceptCounter - x.sequence).toNat

/-- Acceptance order (R24, R47, R113): no two occupied slots have the same sequence number, and the queue of every port and that of
the line stand in acceptance order. -/
def OrderOk (s : State) : Prop :=
  (∀ i j x y, row s.slots i = some x → row s.slots j = some y → x.sequence = y.sequence → i = j) ∧
    (∀ p, Ordered s (row s.ports p).queue) ∧ Ordered s s.line.queue

/-- A member list is sound (R93, R98): it holds no slot twice, every entry is an occupied slot of its initiator with a chain role and
no MANAGE slot, and every entry after the head is WAITING, so that at most one member is QUEUED or ACTIVE. -/
def MembersOk (s : State) (k : Initiator) : Prop :=
  (row s.chains k).members.Nodup ∧
    (∀ i, i ∈ (row s.chains k).members →
      ∃ x, row s.slots i = some x ∧ x.initiator = k ∧ x.role ≠ .none ∧ ∀ op, x.work ≠ .manage op) ∧
    ∀ i, i ∈ (row s.chains k).members.tail → ∃ x, row s.slots i = some x ∧ x.state = .waiting

/-- Every member list is sound. -/
def MemberListsOk (s : State) : Prop := ∀ k, MembersOk s k

/-- The references to a region entry (R13): the occupied slots whose work names it and the lock records that name it. -/
def references (s : State) (e : EntryId) : Nat :=
  ((List.finRange 32).countP fun i => (row s.slots i).any fun x => decide (workEntry x.work = some e)) +
    (List.finRange 4).countP fun p => (row s.ports p).lock.any fun l => decide (l.entry = e)

/-- At most one LOCK-READ of an initiator holds a slot for a port, and while the initiator owns the port's lock record that slot, if
there is one, is ACTIVE: it made the record (R70, R72). -/
def LockReadsOk (s : State) : Prop :=
  (∀ i j x y v w, row s.slots i = some x → row s.slots j = some y → x.work = .port v → y.work = .port w →
      v.kind = .lockRead → w.kind = .lockRead → v.port = w.port → x.initiator = y.initiator → i = j) ∧
    ∀ p l i x w, (row s.ports p).lock = some l → row s.slots i = some x → x.work = .port w → w.kind = .lockRead →
      w.port = p → x.initiator = l.owner → x.state = .active

/-- The in-flight counts are sound (R13, R17, R18, R70, R138): a present entry's count is the number of its references and an ABSENT
entry has none, a DRAINING entry has a count above 0, an entry is DRAINING exactly while the pending retire list holds a pair for
it, and no LOCK-READ can replace a lock record. -/
def ReferencesOk (s : State) : Prop :=
  (∀ e, references s e = match row s.regions e with
      | some r => r.inFlight
      | none => 0) ∧
    (∀ e r, row s.regions e = some r → r.phase = .draining → 0 < r.inFlight) ∧
    (∀ e, (∃ r, row s.regions e = some r ∧ r.phase = .draining) ↔ ∃ q, q ∈ s.management.retires ∧ q.entry = e) ∧
    LockReadsOk s

/-- A state of a safe run. -/
structure SafeState (s : State) : Prop where
  managers : ManagersOk s
  regions : RegionMapOk s
  stations : StationsOk s
  ports : PortsOk s
  chains : ChainsOk s
  events : EventsOk s
  link : LinkOk s.link
  slots : SlotTableOk s
  queues : QueuesOk s
  order : OrderOk s
  members : MemberListsOk s
  references : ReferencesOk s

end Sys2Proof.Machine
end

