-- ==== Sys2Proof/Certificates/Slice0/Obligations.lean ====
section
/-! DEFINITION. The statements for the provers. Two of the model's choices stand in the form of many of them. Every event ends with
selection (assumption log entry 5): a statement whose effect can end in one says `exec c s = next (selectEvent v)` and what `v` holds,
and `Obligations.SelectionSendsTheChosenSource` says what a selection adds to it. And a message is taken when `Arrives` holds: it is
the oldest frame of the receive buffer, or it arrives at an empty buffer (entry 3). -/

section Statements
open Sys2Proof Sys2Proof.Machine

/-! ### The block as a whole -/

/-- A step carries out the command at the front of the queue, on the state with the queue's rest. -/
def Obligations.StepRunsFrontCommand : Prop :=
  ∀ (c : Instr) (rest : List Instr) (s : State), s.pending = c :: rest → step s = exec c { s with pending := rest }

/-- Every command completes, whatever the state, and leaves the queue of waiting commands alone. That it does so in states that the
spec never reaches is the model's choice (assumption log entry 18), and that no command stops the part is deduced (entry 19). -/
def Obligations.EveryCommandCompletes : Prop :=
  ∀ (c : Instr) (s : State), ∃ t, exec c s = .next t ∧ t.pending = s.pending

/-- Power-on reset leaves every block in its reset state, from any state (R1, R20, R22, R44, R83, R92, R107, R117, R120, R123, R124,
R127, R138, R157, R165): a segment whose hold request line is asserted is granted in the port's first event. That the command carries
the levels of the strap pins and of the hold lines is the model's choice (assumption log entry 2). -/
def Obligations.PowerOnResetLeavesResetValues : Prop :=
  ∀ (strap : BitVec 3) (lines : BitVec 4) (s : State), ∃ t, exec (.powerOnReset strap lines) s = .next t ∧
    (∀ e, row t.regions e = none) ∧ (∀ i, row t.slots i = none) ∧ t.acceptCounter = 0 ∧
    (∀ k, row t.initiators k = { occupancy := 0, mode := .normal, abandonTag := none }) ∧
    (∀ k, row t.chains k = { state := .closed, count := 0, failure := none, lastHeld := false, members := [] }) ∧
    (∀ p, row t.ports p =
      { setting := .up, state := if lines.getLsbD p.val then .held else .idle, queue := [], lock := none,
        gate := if lines.getLsbD p.val then .granted else .none, holdTimer := .stopped, lockLifetime := 64, holdLimit := 0,
        holdLine := lines.getLsbD p.val }) ∧
    (∀ n, row t.stations n =
      { presence := .disabled, timeouts := 0, direction := 0, inversion := 0, rise := 0, fall := 0, lastSample := none,
        image := 0, latched := 0, delivered := none }) ∧
    t.line = { op := none, queue := [], previous := .poll, scanPeriod := 0, scanTimer := .stopped, cycleDue := false,
               cycle := none } ∧
    (∀ n, row t.events.priorities n = 0) ∧
    (∀ k, row t.events.incidents k = { count := 0, acknowledged := 0, detail := none }) ∧
    t.events.delivery = .idle ∧ t.events.sequence = 0 ∧ t.events.resends = 0 ∧ t.events.ackTimer = .stopped ∧
    t.events.target.val = strap.toNat ∧ t.events.ackWindow = 10 ∧
    (∀ k, t.management.managers.has k = decide (k.val = strap.toNat)) ∧ t.management.retires = [] ∧
    t.management.queue = [] ∧
    t.link.state = .down ∧ t.link.signal = false ∧ t.link.resetCount = 0 ∧ t.link.strap.val = strap.toNat ∧
    t.link.framing = .hunting ∧ t.link.rx = [] ∧ t.link.outbound = [] ∧ t.link.sending = none

/-! ### The receiver and the transmitter -/

/-- A whole well-formed frame reaches the receive buffer, or is discarded when the buffer already holds two frames. A frame that
fails its check word is discarded with a LINK-ERROR of cause CHECK, a length byte outside 2 to 48 and a start delimiter inside a
frame with one of cause LENGTH; none of the three reaches the buffer. That one command carries a run of symbols is the model's choice
(assumption log entry 4) (R125, R154, R155). -/
def Obligations.FramesAreBufferedOrRaiseLinkError : Prop :=
  ∀ (s : State), s.link.signal = true →
    (∀ (body : List Byte) (hi lo : Byte), 2 ≤ body.length → body.length ≤ 48 → s.link.framing = .hunting → ∃ t,
      exec (.frameReceived (.delimiter :: .byte (BitVec.ofNat 8 body.length) :: (body ++ [hi, lo]).map .byte)) s
        = .next t ∧
      t.link.framing = .hunting ∧ t.link.state = s.link.state ∧ t.link.signal = true ∧
      t.link.resetCount = s.link.resetCount ∧ s.link.outbound <+: t.link.outbound ∧ t.regions = s.regions ∧
      t.slots = s.slots ∧ t.initiators = s.initiators ∧ t.acceptCounter = s.acceptCounter ∧ t.chains = s.chains ∧
      t.ports = s.ports ∧ t.line = s.line ∧ t.management = s.management ∧
      (hi = hiByte (checkWord body) ∧ lo = loByte (checkWord body) → OnlySelection s t ∧
        t.link.rx = (if s.link.rx.length < 2 then s.link.rx ++ [body] else s.link.rx)) ∧
      (¬(hi = hiByte (checkWord body) ∧ lo = loByte (checkWord body)) → t.link.rx = s.link.rx ∧
        t.events.incidents = putRow s.events.incidents 6 (raised (row s.events.incidents 6) (some (.cause .check))))) ∧
    (∀ n : Byte, (n.toNat < 2 ∨ 48 < n.toNat) → s.link.framing = .hunting → ∃ t,
      exec (.frameReceived [.delimiter, .byte n]) s = .next t ∧
      t.link.framing = .hunting ∧ t.link.rx = s.link.rx ∧ t.slots = s.slots ∧
      t.events.incidents = putRow s.events.incidents 6 (raised (row s.events.incidents 6) (some (.cause .length)))) ∧
    (s.link.framing ≠ .hunting → ∃ t,
      exec (.frameReceived [.delimiter]) s = .next t ∧
      t.link.framing = .started ∧ t.link.rx = s.link.rx ∧ t.slots = s.slots ∧
      t.events.incidents = putRow s.events.incidents 6 (raised (row s.events.incidents 6) (some (.cause .length))))

/-- The far end's pause mark leaves the frame on the line as it is; when a frame has left whole, its message leaves the outbound list,
and the next one begins unless the mark stands; when the mark is gone, a waiting frame begins. The frame that begins carries its
message by the layouts of 10.1 and 10.6. A found signal leaves the link state and the reset count as they were. That the next frame
begins in the very event of the message's leaving, or of the mark's going, and that a signal found while it is present changes nothing
else, is the model's choice (assumption log entries 15 and 17); codes that 10.6 does not give in so many words are deduced (entry
20) (R154, R157, R159, R163). -/
def Obligations.TransmitterFollowsPauseMark : Prop :=
  (∀ s : State, ∃ t, exec .farEndPauseMark s = .next t ∧ t.link.farPause = true ∧ t.link.sending = s.link.sending ∧
    s.link.outbound <+: t.link.outbound ∧ t.slots = s.slots ∧ OnlySelection s t) ∧
  (∀ s : State, ∃ t, exec .farEndPauseMarkGone s = .next t ∧ t.link.farPause = false ∧
    s.link.outbound <+: t.link.outbound ∧ t.slots = s.slots ∧ OnlySelection s t ∧
    (∀ f, s.link.sending = some f → t.link.sending = some f) ∧
    ∀ m later, s.link.sending = none → s.link.outbound = m :: later →
      ∃ f, t.link.sending = some f ∧ FrameCarries m f) ∧
  (∀ (s : State) (f : List LineSymbol) (m : Message) (later : List Message), s.link.sending = some f →
    s.link.outbound = m :: later → ∃ t, exec .messageSent s = .next t ∧ later <+: t.link.outbound ∧
      t.slots = s.slots ∧ OnlySelection s t ∧ (s.link.farPause = true → t.link.sending = none) ∧
      ∀ n rest, later = n :: rest → s.link.farPause = false →
        ∃ g, t.link.sending = some g ∧ FrameCarries n g) ∧
  ∀ s : State, ∃ t, exec .signalFound s = .next t ∧ t.link.signal = true ∧ t.link.state = s.link.state ∧
    t.link.resetCount = s.link.resetCount ∧ s.link.outbound <+: t.link.outbound ∧ t.slots = s.slots ∧
    OnlySelection s t

/-! ### The link -/

/-- SYNC brings a DOWN link UP while signal is present, and in both link states hands over a LINK-NOTICE with the strap value and
the link reset count, which it does not change. That a body longer or shorter than two bytes is taken in the same way is deduced
(assumption log entry 28) (R156, R157, R158). -/
def Obligations.SyncAnswersWithLinkNotice : Prop :=
  ∀ (rest : List Byte) (s u : State), Arrives (0x70 :: rest) s u → s.link.signal = true →
    ∃ v, exec (.sync rest) s = .next (selectEvent v) ∧ v.link.state = .up ∧
      v.link.outbound = s.link.outbound ++ [.linkNotice s.link.strap s.link.resetCount] ∧
      v.link.resetCount = s.link.resetCount ∧ v.link.strap = s.link.strap ∧ v.link.rx = u.link.rx ∧
      v.link.framing = s.link.framing ∧ v.link.signal = true ∧ SameBlocks s v ∧ v.slots = s.slots ∧
      v.initiators = s.initiators ∧ v.acceptCounter = s.acceptCounter

/-- A link reset, raised by LINK-RESET or by the loss of signal while UP, abandons all eight initiators in one event: every chain
context is CLOSED, no lock record stands, every slot left is answered or suppressed, no ABANDON tag is left, and an initiator is
ABANDONING exactly while it still holds slots. LINK-RESET keeps the link UP, and the first message it hands over is a LINK-NOTICE with
the raised count; the loss of signal brings the link DOWN with nothing received or to send. While DOWN neither resets anything: a
LINK-RESET is discarded, and the loss of signal discards what was received (R43, R133, R156, R157, R158, R161; the order of the steps
over the eight initiators is deduced, assumption log entry 7, and so is a LINK-RESET body of another length, entry 28). -/
def Obligations.LinkResetAbandonsEveryInitiator : Prop :=
  (∀ (rest : List Byte) (s u : State), Arrives (0x71 :: rest) s u → s.link.state = .down →
    exec (.linkReset rest) s = .next u) ∧
  (∀ s : State, LinkOk s.link → s.link.state = .down →
    exec .signalLost s = .next { s with link := { s.link with signal := false, framing := .hunting, rx := [] } }) ∧
  ∀ (c : Instr) (s u : State), s.link.state = .up → SlotTableOk s → QueuesOk s →
    ((∃ rest, c = .linkReset rest ∧ Arrives (0x71 :: rest) s u) ∨ c = .signalLost) →
    ∃ t, exec c s = .next t ∧ t.link.resetCount = s.link.resetCount + 1 ∧
      (∀ k, (row t.chains k).state = .closed ∧ (row t.chains k).members = [] ∧ (row t.chains k).failure = none) ∧
      (∀ p, (row t.ports p).lock = none) ∧
      (∀ i x, row t.slots i = some x → x.answered = true ∨ x.suppressed = true) ∧
      (∀ k, (row t.initiators k).abandonTag = none ∧
        ((row t.initiators k).mode = .abandoning ↔ 0 < (row t.initiators k).occupancy)) ∧
      t.acceptCounter = s.acceptCounter ∧
      ((∃ rest, c = .linkReset rest) → t.link.state = .up ∧
        HandsFirst s t (.linkNotice s.link.strap (s.link.resetCount + 1))) ∧
      (c = .signalLost → t.link.state = .down ∧ t.link.signal = false ∧ t.link.rx = [] ∧ t.link.framing = .hunting ∧
        t.link.outbound = [] ∧ t.link.sending = none ∧ t.events.delivery = .idle)

/-- A message of an unknown type is answered FAULT BADREQ with the key of its second byte while UP, whatever the initiator's mode,
and takes no slot; while DOWN it is discarded (R156; that the mode is not asked is deduced, assumption log entry 10). -/
def Obligations.UnknownMessageIsAnsweredBadReq : Prop :=
  ∀ (first : Byte) (h : ReqHeader) (rest : List Byte) (s u : State),
    ¬(1 ≤ first.toNat ∧ first.toNat ≤ 11) → first ≠ 0x70 → first ≠ 0x71 →
    Arrives (first :: headerByte h :: rest) s u →
    (s.link.state = .up → ∃ v, exec (.unknownMessageType first h rest) s = .next (selectEvent v) ∧
      OnlyHands u v (plainResponse h.initiator h.tag (.fault .badReq))) ∧
    (s.link.state = .down → exec (.unknownMessageType first h rest) s = .next u)

/-! ### Acceptance and refusal -/

/-- Every request of an initiator that is ABANDONING is refused DEFER, whatever its kind, content and chain mark, and nothing else
changes (R25 step 1, R26, R41). -/
def Obligations.AbandoningInitiatorIsDeferred : Prop :=
  ∀ (c : Instr) (h : ReqHeader) (body : List Byte) (s u : State), requestOf c = some h → bodyOf c = some body →
    Arrives body s u → s.link.state = .up → (row s.initiators h.initiator).mode = .abandoning →
    ∃ v, exec c s = .next (selectEvent v) ∧ OnlyHands u v (plainResponse h.initiator h.tag .defer)

/-- A request that fits no layout of its kind, or carries a chain mark that its kind does not allow, is refused BADREQ before any
other check but that of the mode, and nothing else changes; so is a MANAGE request whose operation code names no operation, or that
has none, which is a message of an unknown type here (assumption log entry 11). While DOWN a request is discarded, whatever it is. A
message that arrives while the outbound list holds 16 or more is held back: it waits in the empty receive buffer, and one that is
there already stays (R25 steps 1 and 2, R26, R156, R159; that one command brings a message into the buffer is the model's choice,
entry 3). -/
def Obligations.MalformedRequestIsRefusedBadReq : Prop :=
  (∀ (h : ReqHeader) (rest : List Byte) (s u : State),
    (rest = [] ∨ ∃ op operands, rest = op :: operands ∧ (op.toNat = 0 ∨ 16 < op.toNat)) →
    Arrives (0x0A :: headerByte h :: rest) s u →
    (s.link.state = .up → ∃ v, exec (.unknownMessageType 0x0A h rest) s = .next (selectEvent v) ∧
      OnlyHands u v (plainResponse h.initiator h.tag
        (if (row s.initiators h.initiator).mode = .abandoning then .defer else .fault .badReq))) ∧
    (s.link.state = .down → exec (.unknownMessageType 0x0A h rest) s = .next u)) ∧
  (∀ (c : Instr) (h : ReqHeader) (body : List Byte) (s u : State), requestOf c = some h → bodyOf c = some body →
    Arrives body s u → s.link.state = .down → exec c s = .next u) ∧
  (∀ (c : Instr) (body : List Byte) (s : State), bodyOf c = some body → c.wellFormed = true →
    16 ≤ s.link.outbound.length →
    (s.link.rx = [] → s.link.signal = true →
      exec c s = .next (selectEvent (s.setLink { s.link with rx := [body] }))) ∧
    (s.link.rx ≠ [] → exec c s = .next (selectEvent s))) ∧
  ∀ (c : Instr) (h : ReqHeader) (body : List Byte) (s u : State), requestOf c = some h → bodyOf c = some body →
    Arrives body s u → s.link.state = .up → (row s.initiators h.initiator).mode = .normal → ¬ WellFormedRequest h c →
    ∃ v, exec c s = .next (selectEvent v) ∧ OnlyHands u v (plainResponse h.initiator h.tag (.fault .badReq))

/-- A request whose key is in use is refused TAGBUSY, a chain member too and with all slots occupied too; a request outside any
chain that finds a free key but no FREE slot is refused FULL; ABANDON is left out here (R21, R25 steps 3 and 6, R27, R28). -/
def Obligations.KeyAndTableRefusals : Prop :=
  ∀ (c : Instr) (h : ReqHeader) (body : List Byte) (s u : State), requestOf c = some h → bodyOf c = some body →
    Arrives body s u → s.link.state = .up → (row s.initiators h.initiator).mode = .normal → WellFormedRequest h c →
    c ≠ .abandon h [] →
    (¬ KeyFree s h → ∃ v, exec c s = .next (selectEvent v) ∧
      OnlyHands u v (plainResponse h.initiator h.tag (.fault .tagBusy))) ∧
    (KeyFree s h → h.mark = .none → (∀ i, row s.slots i ≠ none) → ∃ v, exec c s = .next (selectEvent v) ∧
      OnlyHands u v (plainResponse h.initiator h.tag .full))

/-- A port-kind request outside any chain is refused with the outcome of the first check of the region map that fails, and nothing
else changes; so is a bit request out of range, and a MANAGE whose requester is no manager. An address is looked up in the present
entry whose window holds it; a READ needs the read set, a WRITE and an UNLOCK-WRITE the write set, a
LOCK-READ both (R4, R5, R6, R7, R29, R30, R70, R71). -/
def Obligations.FirstFailedCheckIsTheOutcome : Prop :=
  (∀ (s : State) (addr : Addr),
    (RegionMapOk s → ∀ e, lookup s addr = some e ↔ ∃ r, row s.regions e = some r ∧ Inside r.fields addr) ∧
    (lookup s addr = none ↔ ∀ e r, row s.regions e = some r → ¬ Inside r.fields addr)) ∧
  (∀ (f : RegionFields) (k : Initiator) (kind : PortKind), hasRight f k kind = true ↔ Entitled f k kind) ∧
  (∀ (set : InitiatorSet) (k : Initiator), set.has k = set.getLsbD k.val) ∧
  (∀ (h : ReqHeader) (kind : PortKind) (addr : Addr) (width : Width) (a : Answer) (body : List Byte) (s u : State),
    dataFits width kind → bodyOf (portCommand h kind addr width) = some body → Arrives body s u → Served s h →
    RegionRefuses s h.initiator kind addr width a →
    ∃ v, exec (portCommand h kind addr width) s = .next (selectEvent v) ∧
      OnlyHands u v (plainResponse h.initiator h.tag a)) ∧
  (∀ (h : ReqHeader) (kind : BitKind) (addr : Addr) (body : List Byte) (s u : State), bitKindFits kind →
    bodyOf (bitCommand h kind addr) = some body → Arrives body s u → Served s h → ¬ BitFits kind addr →
    ∃ v, exec (bitCommand h kind addr) s = .next (selectEvent v) ∧
      OnlyHands u v (plainResponse h.initiator h.tag (.fault (if 511 < addr.toNat then .badReq else .fieldSpan)))) ∧
  ∀ (h : ReqHeader) (op : ManageOp) (body : List Byte) (s u : State), bodyOf (manageCommand h op) = some body →
    Arrives body s u → Served s h → s.management.managers.has h.initiator = false →
    ∃ v, exec (manageCommand h op) s = .next (selectEvent v) ∧
      OnlyHands u v (plainResponse h.initiator h.tag (.fault .denied))

/-- A READ, WRITE, LOCK-READ or UNLOCK-WRITE that passes every check while its port is ISSUED or HELD takes a FREE slot, which goes
to the tail of the port's queue; its entry counts one more, and a WRITE in a posted window is answered DONE at once. A READ or a WRITE
may be a member of a chain that holds no slot: it is QUEUED likewise, opens a CLOSED context, is counted with its ordinal and heads
the member list, and is not answered before its completion. Nothing else changes (R9, R14, R24, R32, R33, R34, R94, R97). -/
def Obligations.PortRequestWaitsForBusyPort : Prop :=
  ∀ (h : ReqHeader) (kind : PortKind) (addr : Addr) (width : Width) (e : EntryId) (r : RegionRecord) (body : List Byte)
    (s u : State), dataFits width kind → bodyOf (portCommand h kind addr width) = some body → Arrives body s u →
    Admitted s h → markFits h kind → RegionAllows s h.initiator kind addr width e r →
    (row s.ports r.fields.port).state ≠ .idle →
    TailOpen s (row s.ports r.fields.port).queue →
    ∃ v i, exec (portCommand h kind addr width) s = .next (selectEvent v) ∧
      Allocated s v h.initiator i
        { filledSlot s h
            (.port { kind := kind, addr := addr, width := width, entry := e, target := targetAddress r.fields width addr,
                     port := r.fields.port }) .queued (isPosted r.fields kind && decide (h.mark = .none)) with
          role := roleDue s h } ∧
      v.regions = putRow s.regions e (some { r with inFlight := r.inFlight + 1 }) ∧
      v.ports = putRow s.ports r.fields.port
        { row s.ports r.fields.port with queue := (row s.ports r.fields.port).queue ++ [i] } ∧
      v.link.outbound = s.link.outbound ++
        (if isPosted r.fields kind && decide (h.mark = .none) then [plainResponse h.initiator h.tag .done] else []) ∧
      SameReceiver u v ∧ v.chains = chainsWithHead s h i ∧ v.stations = s.stations ∧ v.line = s.line ∧ v.events = s.events ∧
      v.management = s.management

/-- The same request is issued in the event that accepts it when its port is IDLE with an empty queue and nothing before it (no lock
record and no PENDING hold, or a lock record of its own initiator): the slot is ACTIVE, the port ISSUED with step 1 presented and
the entry's timer running, a LOCK-READ's issue creates the lock record and counts its entry once more, and an UNLOCK-WRITE's
issue stops the lifetime timer. The same holds of a chain member that heads its member list (R14, R16, R32, R49, R51, R52, R72, R75,
R94, R97). -/
def Obligations.PortRequestIsIssuedAtIdlePort : Prop :=
  ∀ (h : ReqHeader) (kind : PortKind) (addr : Addr) (width : Width) (e : EntryId) (r : RegionRecord) (x : Port)
    (body : List Byte) (s u : State), dataFits width kind → bodyOf (portCommand h kind addr width) = some body →
    Arrives body s u → Admitted s h → markFits h kind → RegionAllows s h.initiator kind addr width e r →
    row s.ports r.fields.port = x → x.state = .idle → x.queue = [] →
    ((x.lock = none ∧ x.gate ≠ .pending) ∨ ∃ l, x.lock = some l ∧ l.owner = h.initiator) →
    ∃ v i w, exec (portCommand h kind addr width) s = .next (selectEvent v) ∧
      w = { kind := kind, addr := addr, width := width, entry := e, target := targetAddress r.fields width addr,
            port := r.fields.port : PortWork } ∧
      Allocated s v h.initiator i
        { filledSlot s h (.port w) .active (isPosted r.fields kind && decide (h.mark = .none)) with role := roleDue s h } ∧
      v.regions = putRow s.regions e (some { r with inFlight := r.inFlight + (if kind = .lockRead then 2 else 1) }) ∧
      v.ports = putRow s.ports r.fields.port
        { x with
          state := .issued
            { slot := i, step := .one, lowByte := none,
              timer := match r.fields.completion with
                | .fixed d => .delay d
                | .ready t => .ready t
              presented := segmentStep w r.fields.lanes .one }
          lock := match kind with
            | .read => x.lock
            | .write _ => x.lock
            | .lockRead =>
                some { owner := h.initiator, address := addr, width := width, entry := e,
                       timer := .running x.lockLifetime }
            | .unlockWrite _ => x.lock.map fun l => { l with timer := .stopped } } ∧
      v.link.outbound = s.link.outbound ++
        (if isPosted r.fields kind && decide (h.mark = .none) then [plainResponse h.initiator h.tag .done] else []) ∧
      SameReceiver u v ∧ v.chains = chainsWithHead s h i ∧ v.stations = s.stations ∧ v.line = s.line ∧ v.events = s.events ∧
      v.management = s.management

/-- What a step presents under each lane rule: its address and its width, the bytes of a WRITE or an UNLOCK-WRITE, and no write data for
a READ or a LOCK-READ. And the value a read gets from the two bytes of its segment; that a BYTE step takes the byte of its own
address's lane is deduced (assumption log entry 13) (R11, R12, R52). -/
def Obligations.LaneRulesPlaceTheBytes : Prop :=
  ∀ (w : PortWork) (d : BitVec 16) (b : SegmentBytes) (low : Byte),
    ((w.kind = .write d ∨ w.kind = .unlockWrite d) → w.width = .word →
      segmentStep w .straight .one = { address := w.target, width := .word, write := some (.word (loByte d) (hiByte d)) } ∧
      segmentStep w .crossed .one = { address := w.target, width := .word, write := some (.word (hiByte d) (loByte d)) } ∧
      segmentStep w .narrow .one = { address := w.target, width := .byte, write := some (.byte (loByte d)) } ∧
      segmentStep w .narrow .two = { address := w.target + 1, width := .byte, write := some (.byte (hiByte d)) }) ∧
    ((w.kind = .write d ∨ w.kind = .unlockWrite d) → w.width = .byte → ∀ lanes,
      segmentStep w lanes .one = { address := w.target, width := .byte, write := some (.byte (loByte d)) }) ∧
    ((w.kind = .read ∨ w.kind = .lockRead) → w.width = .word →
      segmentStep w .straight .one = { address := w.target, width := .word, write := none } ∧
      segmentStep w .crossed .one = { address := w.target, width := .word, write := none } ∧
      segmentStep w .narrow .one = { address := w.target, width := .byte, write := none } ∧
      segmentStep w .narrow .two = { address := w.target + 1, width := .byte, write := none }) ∧
    ((w.kind = .read ∨ w.kind = .lockRead) → w.width = .byte → ∀ lanes,
      segmentStep w lanes .one = { address := w.target, width := .byte, write := none }) ∧
    (w.width = .word → w.target.toNat % 2 = 0 →
      readValue w .straight low b = .word (wordOf b.odd b.even) ∧ readValue w .crossed low b = .word (wordOf b.even b.odd) ∧
      readValue w .narrow low b = .word (wordOf b.odd low)) ∧
    (w.width = .byte → ∀ lanes,
      readValue w lanes low b = .byte (if w.target.toNat % 2 = 1 then b.odd else b.even))

/-- A bit request that passes its checks while an operation is on the line takes a FREE slot, which goes to the tail of the line
queue; nothing else changes but the chain context of a member that heads its chain (R29, R32, R33, R94, R97, R113). -/
def Obligations.BitRequestWaitsForBusyLine : Prop :=
  ∀ (h : ReqHeader) (kind : BitKind) (addr : Addr) (body : List Byte) (s u : State), bitKindFits kind →
    bodyOf (bitCommand h kind addr) = some body → Arrives body s u → Admitted s h → BitFits kind addr →
    s.line.op ≠ none → TailOpen s s.line.queue →
    ∃ v i, exec (bitCommand h kind addr) s = .next (selectEvent v) ∧
      Allocated s v h.initiator i
        { filledSlot s h (.bit { kind := kind, addr := BitVec.ofNat 9 addr.toNat }) .queued false with
          role := roleDue s h } ∧
      v.line = { s.line with queue := s.line.queue ++ [i] } ∧ v.link.outbound = s.link.outbound ∧ SameReceiver u v ∧
      v.regions = s.regions ∧ v.chains = chainsWithHead s h i ∧ v.ports = s.ports ∧ v.stations = s.stations ∧ v.events = s.events ∧
      v.management = s.management

/-- A bit request taken by a free line is checked at issue: a station that is DISABLED or ABSENT gives NOSTATION, a write of a
position that is no output gives DIRECTION, and each leaves the line free; otherwise its operation starts. A read is a
READ-STATION; a write is a WRITE-STATION formed from the stored image, with pin values inverted as set and 0 at inputs. A chain
member that heads its chain starts its operation likewise; the refusals are stated of a request outside any chain (R94, R97, R106,
R109, R113, R114, R115). -/
def Obligations.BitRequestIsCheckedAtIssue : Prop :=
  ∀ (h : ReqHeader) (kind : BitKind) (addr : Addr) (n : StationId) (st : Station) (body : List Byte) (s u : State),
    bitKindFits kind → bodyOf (bitCommand h kind addr) = some body → Arrives body s u → Admitted s h → BitFits kind addr →
    s.line.op = none → s.line.queue = [] → s.line.cycle = none → n.val = addr.toNat / 32 → row s.stations n = st →
    (h.mark = .none → (st.presence = .disabled ∨ st.presence = .absent) →
      ∃ v, exec (bitCommand h kind addr) s = .next (selectEvent v) ∧ v.acceptCounter = s.acceptCounter + 1 ∧
        OnlyHands u { v with acceptCounter := s.acceptCounter }
          (plainResponse h.initiator h.tag (.fault .noStation))) ∧
    (h.mark = .none → (st.presence = .unknown ∨ st.presence = .present) → isBitWrite kind = true →
      (∃ j, j < bitWidth kind ∧ st.direction.getLsbD (addr.toNat % 32 + j) = false) →
      ∃ v, exec (bitCommand h kind addr) s = .next (selectEvent v) ∧ v.acceptCounter = s.acceptCounter + 1 ∧
        OnlyHands u { v with acceptCounter := s.acceptCounter }
          (plainResponse h.initiator h.tag (.fault .direction))) ∧
    ((st.presence = .unknown ∨ st.presence = .present) →
      (isBitWrite kind = true → ∀ j, j < bitWidth kind → st.direction.getLsbD (addr.toNat % 32 + j) = true) →
      ∃ v i command, exec (bitCommand h kind addr) s = .next (selectEvent v) ∧
        Allocated s v h.initiator i
          { filledSlot s h (.bit { kind := kind, addr := BitVec.ofNat 9 addr.toNat }) .active false with
            role := roleDue s h } ∧
        v.line = { s.line with op := some { station := n, command := command, origin := .request i },
                               previous := .request } ∧
        v.link.outbound = s.link.outbound ∧ SameReceiver u v ∧ v.regions = s.regions ∧
        v.chains = chainsWithHead s h i ∧ v.ports = s.ports ∧ v.stations = s.stations ∧ v.events = s.events ∧ v.management = s.management ∧
        (isBitWrite kind = false → command = .readStation) ∧
        (isBitWrite kind = true → ∃ pins formed, command = .writeStation st.direction pins formed ∧
          (∀ j, j < 32 → formed.getLsbD j =
            (if addr.toNat % 32 ≤ j ∧ j < addr.toNat % 32 + bitWidth kind then
              (match kind with
                | .set => true
                | .fieldWrite _ value => value.getLsbD (j - addr.toNat % 32)
                | .clear => false
                | .test => false
                | .fieldRead _ => false)
            else st.image.getLsbD j)) ∧
          ∀ j, j < 32 → pins.getLsbD j =
            (st.direction.getLsbD j && (formed.getLsbD j != st.inversion.getLsbD j))))

/-- A chain member that passes every check while an earlier member of its chain still occupies a slot is WAITING: it takes a FREE
slot with the next ordinal and joins the member list, no queue and no port sees it, and it is not answered even in a posted
window (R34, R94, R97). -/
def Obligations.ChainMemberWaitsForPredecessor : Prop :=
  ∀ (h : ReqHeader) (c : Instr) (w : Work) (body : List Byte) (s u : State), Passes s h c w → WellFormedRequest h c →
    bodyOf c = some body → Arrives body s u → s.link.state = .up → (row s.initiators h.initiator).mode = .normal →
    (h.mark = .member ∨ h.mark = .last) → KeyFree s h → (∃ i, row s.slots i = none) →
    (row s.chains h.initiator).state = .opened → (row s.chains h.initiator).lastHeld = false →
    (row s.chains h.initiator).count < 255 → (row s.chains h.initiator).members ≠ [] →
    ∃ v i, exec c s = .next (selectEvent v) ∧
      Allocated s v h.initiator i
        { filledSlot s h w .waiting false with
          role := if h.mark = .last then .last ((row s.chains h.initiator).count + 1)
            else .member ((row s.chains h.initiator).count + 1) } ∧
      v.chains = putRow s.chains h.initiator
        { row s.chains h.initiator with
          count := (row s.chains h.initiator).count + 1
          members := (row s.chains h.initiator).members ++ [i]
          lastHeld := decide (h.mark = .last) } ∧
      CountsOneMore s v w ∧ v.link.outbound = s.link.outbound ∧ SameReceiver u v ∧ v.ports = s.ports ∧
      v.stations = s.stations ∧ v.line = s.line ∧ v.events = s.events ∧ v.management = s.management

/-- A member that its chain does not take. DEFER while the LAST is held, and at step 7 DEFER and BADREQ, leave the chain alone.
SKIPPED while FAILED counts the member; CHAINLONG at 255 members is the chain's failure with ordinal 256; a fault of the region map
or FIELDSPAN counts the member and is the chain's failure with its ordinal. A first failure already recorded stays. A LAST so
refused carries the summary and closes the chain, here one with no WAITING member (R30, R94, R95, R96, R100, R102, R103). -/
def Obligations.ChainRefusalsAreRecorded : Prop :=
  ∀ (h : ReqHeader) (x : Instr) (c : Chain) (body : List Byte) (s u : State), WellFormedRequest h x →
    requestOf x = some h → bodyOf x = some body → Arrives body s u → s.link.state = .up →
    (row s.initiators h.initiator).mode = .normal → (h.mark = .member ∨ h.mark = .last) → KeyFree s h →
    row s.chains h.initiator = c → (∀ i, i ∈ c.members → isWaiting s i = false) →
    (∀ a, (c.lastHeld = true ∧ a = .defer ∨
        c.lastHeld = false ∧ c.state ≠ .failed ∧ c.count < 255 ∧ (∃ i, row s.slots i = none) ∧
          ((∃ kind addr width, x = portCommand h kind addr width ∧ dataFits width kind ∧ a = .defer ∧
              RegionRefuses s h.initiator kind addr width a) ∨
            ∃ kind addr, x = bitCommand h kind addr ∧ bitKindFits kind ∧ 511 < addr.toNat ∧ a = .fault .badReq)) →
      ∃ v, exec x s = .next (selectEvent v) ∧ OnlyHands u v (plainResponse h.initiator h.tag a)) ∧
    ∀ a d, (c.lastHeld = false ∧ c.state = .failed ∧ a = .skipped ∧
          d = { c with count := if c.count < 255 then c.count + 1 else c.count } ∨
        c.lastHeld = false ∧ c.state = .opened ∧ c.count = 255 ∧ a = .fault .chainLong ∧
          d = { c with state := .failed, failure := some (c.failure.getD { ordinal := 256, code := .chainLong }) } ∨
        c.lastHeld = false ∧ c.state ≠ .failed ∧ c.count < 255 ∧ (∃ i, row s.slots i = none) ∧
          ∃ code, a = .fault code ∧
            d = { c with state := .failed, count := c.count + 1,
                         failure := some (c.failure.getD { ordinal := c.count + 1, code := code }) } ∧
            ((∃ kind addr width, x = portCommand h kind addr width ∧ dataFits width kind ∧
                RegionRefuses s h.initiator kind addr width a) ∨
              ∃ kind addr, x = bitCommand h kind addr ∧ bitKindFits kind ∧ addr.toNat ≤ 511 ∧
                32 ≤ addr.toNat % 32 + (bitWidth kind - 1) ∧ code = .fieldSpan)) →
      ∃ v, exec x s = .next (selectEvent v) ∧
        (h.mark = .member → OnlyHands u { v with chains := s.chains } (plainResponse h.initiator h.tag a) ∧
          v.chains = putRow s.chains h.initiator d) ∧
        (h.mark = .last →
          OnlyHands u { v with chains := s.chains }
            (.response { initiator := h.initiator, tag := h.tag, answer := a, partialMarker := false,
                         summary := some { count := d.count, failure := d.failure } }) ∧
          v.chains = putRow s.chains h.initiator Chain.closed)

/-- ABANDON withdraws all of an initiator's work: its chain is CLOSED, no lock record is its own, its slots that are left are answered
posted writes or suppressed, and either none is left, the mode is NORMAL and the ABANDON is answered DONE, or it is ABANDONING
with the request's tag. While slots are left and it is the event target, no message is in flight (R39, R40, R42, R79, R104, R133; the
order of the steps is deduced, assumption log entry 7). -/
def Obligations.AbandonWithdrawsTheInitiatorsWork : Prop :=
  ∀ (h : ReqHeader) (body : List Byte) (s u : State), bodyOf (.abandon h []) = some body → Arrives body s u →
    s.link.state = .up → (row s.initiators h.initiator).mode = .normal → h.mark = .none → SlotTableOk s → QueuesOk s →
    ∃ t, exec (.abandon h []) s = .next t ∧
      row t.chains h.initiator = Chain.closed ∧
      (∀ p l, (row t.ports p).lock = some l → l.owner ≠ h.initiator) ∧
      (∀ i x, row t.slots i = some x → x.initiator = h.initiator → x.answered = true ∨ x.suppressed = true) ∧
      t.acceptCounter = s.acceptCounter ∧
      ((slotsOf t h.initiator = 0 ∧
          row t.initiators h.initiator = { occupancy := 0, mode := .normal, abandonTag := none } ∧
          Hands s t (plainResponse h.initiator h.tag .done)) ∨
        (0 < slotsOf t h.initiator ∧
          row t.initiators h.initiator =
            { occupancy := slotsOf t h.initiator, mode := .abandoning, abandonTag := some h.tag } ∧
          (s.events.target = h.initiator → t.events.delivery = .idle)))

/-! ### Management -/

/-- LOAD-REGION makes an ABSENT entry ACTIVE with the fields it carries and in-flight count 0, and is answered DONE. A present entry
is refused ENTRYBUSY, a window that shares a byte with a present entry's OVERLAP, and operands that name no entry, or break a code,
a range or a relation of R2, BADVALUE; a refusal leaves the map as it was (R2, R3, R139, R140, R142). -/
def Obligations.LoadRegionMakesTheEntryActive : Prop :=
  ∀ (h : ReqHeader) (body : List Byte) (s u : State), ManageServed s h →
    (∀ (e : EntryId) (f : RegionFields),
      bodyOf (manageCommand h (.loadRegion (loadOperandsFor e f))) = some body → Arrives body s u → FieldsOk f →
      ∃ t a, exec (manageCommand h (.loadRegion (loadOperandsFor e f))) s = .next t ∧ ManageAnswered s t h a ∧
        OnlySelection s t ∧ t.ports = s.ports ∧ t.line = s.line ∧ t.management.managers = s.management.managers ∧
        t.management.retires = s.management.retires ∧
        (row s.regions e ≠ none → a = .fault .entryBusy ∧ t.regions = s.regions) ∧
        (row s.regions e = none →
          ((∃ g q, row s.regions g = some q ∧ f.base.toNat ≤ q.fields.limit.toNat ∧ q.fields.base.toNat ≤ f.limit.toNat) →
            a = .fault .overlap ∧ t.regions = s.regions) ∧
          ((∀ g q, row s.regions g = some q → q.fields.limit.toNat < f.base.toNat ∨ f.limit.toNat < q.fields.base.toNat) →
            a = .done ∧ t.regions = putRow s.regions e (some { phase := .active, fields := f, inFlight := 0 })))) ∧
    ∀ (o : LoadOperands), bodyOf (manageCommand h (.loadRegion o)) = some body → Arrives body s u →
      (∀ e f, FieldsOk f → o ≠ loadOperandsFor e f) →
      ∃ t, exec (manageCommand h (.loadRegion o)) s = .next t ∧ ManageAnswered s t h (.fault .badValue) ∧
        OnlySelection s t ∧ t.regions = s.regions ∧ t.ports = s.ports ∧ t.line = s.line ∧
        t.management.managers = s.management.managers ∧ t.management.retires = s.management.retires

/-- RETIRE-REGION. An ACTIVE entry without references becomes ABSENT and the answer is DONE; with references it becomes DRAINING, its
key joins the pending retire list, and its slot stays ACTIVE without an answer. A DRAINING entry gives DEFER, an ABSENT one or a
number above 47 BADVALUE (R17, R138, R143). -/
def Obligations.RetireRegionDrainsOrRemoves : Prop :=
  ∀ (h : ReqHeader) (entry : Byte) (body : List Byte) (s u : State),
    bodyOf (manageCommand h (.retireRegion entry)) = some body → Arrives body s u → ManageServed s h →
    ((47 < entry.toNat ∨ (∃ e : EntryId, e.val = entry.toNat ∧ row s.regions e = none)) →
      ∃ t, exec (manageCommand h (.retireRegion entry)) s = .next t ∧ ManageAnswered s t h (.fault .badValue) ∧
        t.regions = s.regions ∧ t.management.retires = s.management.retires ∧ OnlySelection s t ∧ t.ports = s.ports ∧
        t.line = s.line) ∧
    ∀ (e : EntryId) (r : RegionRecord), e.val = entry.toNat → row s.regions e = some r →
      (r.phase = .draining →
        ∃ t, exec (manageCommand h (.retireRegion entry)) s = .next t ∧ ManageAnswered s t h .defer ∧
          t.regions = s.regions ∧ t.management.retires = s.management.retires ∧ OnlySelection s t ∧ t.ports = s.ports ∧
          t.line = s.line) ∧
      (r.phase = .active → r.inFlight = 0 →
        ∃ t, exec (manageCommand h (.retireRegion entry)) s = .next t ∧ ManageAnswered s t h .done ∧
          t.regions = putRow s.regions e none ∧ t.management.retires = s.management.retires ∧ OnlySelection s t ∧
          t.ports = s.ports ∧ t.line = s.line) ∧
      (r.phase = .active → 0 < r.inFlight →
        ∃ v i, exec (manageCommand h (.retireRegion entry)) s = .next (selectEvent v) ∧
          Allocated s v h.initiator i (filledSlot s h (.manage (.retireRegion entry)) .active false) ∧
          v.regions = putRow s.regions e (some { r with phase := .draining }) ∧
          v.management.retires.Perm ({ entry := e, initiator := h.initiator, tag := h.tag } :: s.management.retires) ∧
          v.management.managers = s.management.managers ∧ OnlySelection s v ∧ s.link.outbound <+: v.link.outbound ∧
          (s.events.delivery ≠ .idle → v.link.outbound = s.link.outbound) ∧ v.chains = s.chains ∧ v.ports = s.ports ∧
          v.line = s.line)

/-- ALTER-RIGHTS replaces the read set and the write set of a present entry, ACTIVE or DRAINING, and is answered DONE; the entry keeps
its state, its other fields and its in-flight count, and every slot and lock record stays. An ABSENT entry or a number above 47
gives BADVALUE and changes nothing (R145). -/
def Obligations.AlterRightsReplacesBothSets : Prop :=
  ∀ (h : ReqHeader) (entry : Byte) (rs ws : InitiatorSet) (body : List Byte) (s u : State),
    bodyOf (manageCommand h (.alterRights entry rs ws)) = some body → Arrives body s u → ManageServed s h →
    ∃ t a, exec (manageCommand h (.alterRights entry rs ws)) s = .next t ∧ ManageAnswered s t h a ∧ OnlySelection s t ∧
      t.ports = s.ports ∧ t.line = s.line ∧ t.management.managers = s.management.managers ∧
      t.management.retires = s.management.retires ∧
      (∀ e r, e.val = entry.toNat → row s.regions e = some r →
        a = .done ∧
        t.regions = putRow s.regions e (some { r with fields := { r.fields with readSet := rs, writeSet := ws } })) ∧
      ((47 < entry.toNat ∨ ∃ e : EntryId, e.val = entry.toNat ∧ row s.regions e = none) →
        a = .fault .badValue ∧ t.regions = s.regions)

/-- The read operations return the named record as it stands, and change nothing: READ-REGION the entry or its absence, READ-PORT the
items of R67, READ-STATION the record of 7.1; a number out of range gives BADVALUE (R67, R139, R140, R146, R147, R148). -/
def Obligations.ReadOperationsReturnTheRecord : Prop :=
  ∀ (h : ReqHeader) (number : Byte) (op : ManageOp) (body : List Byte) (s u : State),
    bodyOf (manageCommand h op) = some body → Arrives body s u → ManageServed s h →
    (op = .readRegion number ∨ op = .readPort number ∨ op = .readStation number) →
    ∃ t a, exec (manageCommand h op) s = .next t ∧ ManageAnswered s t h a ∧ OnlySelection s t ∧ t.regions = s.regions ∧
      t.ports = s.ports ∧ t.line = s.line ∧ t.management.managers = s.management.managers ∧
      t.management.retires = s.management.retires ∧
      (op = .readRegion number → ∀ e : EntryId, e.val = number.toNat → a = .data (.record (.region (row s.regions e)))) ∧
      (op = .readPort number → ∀ p : PortId, p.val = number.toNat →
        a = .data (.record (.port
          { setting := (row s.ports p).setting, state := (row s.ports p).state,
            queueLength := (row s.ports p).queue.length, gate := (row s.ports p).gate,
            lockLifetime := (row s.ports p).lockLifetime, holdLimit := (row s.ports p).holdLimit,
            lock := (row s.ports p).lock }))) ∧
      (op = .readStation number → ∀ n : StationId, n.val = number.toNat →
        a = .data (.record (.station (row s.stations n)))) ∧
      ((op = .readRegion number ∧ 47 < number.toNat ∨ op = .readPort number ∧ 3 < number.toNat ∨
          op = .readStation number ∧ 15 < number.toNat) → a = .fault .badValue)

/-- SET-PORT gives the port its lock lifetime and its hold limit with its setting. Naming the setting the port has changes nothing
else. From DOWN to UP, an asserted hold request line with gate NONE is taken as raised: granted at once at an IDLE port without a
lock record, else PENDING; that the grant starts the limit timer with the new limit is deduced (assumption log entry 9). A lifetime of
0, a port above P3 or a setting code above 1 gives BADVALUE and changes nothing (R46, R65, R83, R85, R140, R147). -/
def Obligations.SetPortGivesSettingLifetimeAndLimit : Prop :=
  ∀ (h : ReqHeader) (port setting lifetime limit : Byte) (body : List Byte) (s u : State),
    bodyOf (manageCommand h (.setPort port setting lifetime limit)) = some body → Arrives body s u → ManageServed s h →
    ((3 < port.toNat ∨ 1 < setting.toNat ∨ lifetime.toNat = 0) →
      ∃ t, exec (manageCommand h (.setPort port setting lifetime limit)) s = .next t ∧
        ManageAnswered s t h (.fault .badValue) ∧ t.ports = s.ports ∧ t.regions = s.regions ∧ t.line = s.line ∧
        OnlySelection s t) ∧
    ∀ (p : PortId) (x : Port), p.val = port.toNat → 0 < lifetime.toNat → row s.ports p = x →
      (setting = (match x.setting with | .up => 0 | .down => 1) →
        ∃ t, exec (manageCommand h (.setPort port setting lifetime limit)) s = .next t ∧ ManageAnswered s t h .done ∧
          t.ports = putRow s.ports p { x with lockLifetime := lifetime.toNat, holdLimit := limit.toNat } ∧
          t.regions = s.regions ∧ t.line = s.line ∧ OnlySelection s t) ∧
      (setting = 0 → x.setting = .down → x.queue = [] →
        ∃ t, exec (manageCommand h (.setPort port setting lifetime limit)) s = .next t ∧ ManageAnswered s t h .done ∧
          t.regions = s.regions ∧ t.line = s.line ∧ OnlySelection s t ∧
          t.ports = putRow s.ports p
            (if x.holdLine = true ∧ x.gate = .none then
              (if x.state = .idle ∧ x.lock = none then
                { x with setting := .up, lockLifetime := lifetime.toNat, holdLimit := limit.toNat, gate := .granted,
                         state := .held,
                         holdTimer := if limit.toNat = 0 then .stopped else .running limit.toNat }
              else { x with setting := .up, lockLifetime := lifetime.toNat, holdLimit := limit.toNat, gate := .pending })
            else { x with setting := .up, lockLifetime := lifetime.toNat, holdLimit := limit.toNat }))

/-- SET-PORT from UP to DOWN empties the port's queue, removes its lock record and drops a PENDING hold; a GRANTED hold and a step in
progress stay. Every slot that was queued is released, an unanswered one outside any chain with a RESPONSE of FAULT PORTDOWN, and
the operation is answered DONE; that the removal of the lock record grants no PENDING hold is deduced (assumption log entry 8). Every
answered posted write among them raises POSTED-FAIL with its target address, in the queue's order. A chain member among them, which
heads its chain, is answered PORTDOWN and is its chain's first failure unless one stands; its WAITING members are answered SKIPPED,
and a LAST, its own or theirs, carries the summary and closes the context (R46, R61, R63, R69, R89, R99, R100, R102, R147). -/
def Obligations.SetPortDownEmptiesThePort : Prop :=
  ∀ (h : ReqHeader) (port lifetime limit : Byte) (p : PortId) (x : Port) (body : List Byte) (s u : State),
    bodyOf (manageCommand h (.setPort port 1 lifetime limit)) = some body → Arrives body s u → ManageServed s h →
    QueuesOk s → p.val = port.toNat → 0 < lifetime.toNat → row s.ports p = x → x.setting = .up →
    ∃ t, exec (manageCommand h (.setPort port 1 lifetime limit)) s = .next t ∧
      Hands s t (plainResponse h.initiator h.tag .done) ∧
      t.ports = putRow s.ports p
        { x with setting := .down, queue := [], lock := none,
                 gate := match x.gate with
                   | .none => .none
                   | .pending => .none
                   | .granted => .granted
                 lockLifetime := lifetime.toNat, holdLimit := limit.toNat } ∧
      (∀ i, i ∈ x.queue → row t.slots i = none) ∧
      (∀ i y, i ∈ x.queue → row s.slots i = some y → y.answered = false → y.suppressed = false → y.role = .none →
        Hands s t (plainResponse y.initiator y.tag (.fault .portDown))) ∧
      t.events.incidents = putRow s.events.incidents 3
        ((x.queue.filterMap (postedTarget s)).foldl (fun r a => raised r (some (.portAddress p a)))
          (row s.events.incidents 3)) ∧
      (∀ (i : SlotId) (y : Slot) (n : Nat) (mids : List SlotId) (c : Chain) (f : ChainFailure), MemberListsOk s →
        i ∈ x.queue → row s.slots i = some y → y.answered = false → y.suppressed = false →
        row s.chains y.initiator = c → f = c.failure.getD { ordinal := n, code := .portDown } →
        (∀ j, j ∈ mids → ∃ z m, row s.slots j = some z ∧ z.role = .member m ∧ z.answered = false ∧ z.suppressed = false) →
        (y.role = .member n → c.members = i :: mids →
          Hands s t (plainResponse y.initiator y.tag (.fault .portDown)) ∧ (∀ j, j ∈ mids → SkippedIn s t j) ∧
          row t.chains y.initiator = { c with state := .failed, failure := some f, members := [] }) ∧
        (∀ l z m, y.role = .member n → c.members = i :: (mids ++ [l]) → row s.slots l = some z → z.role = .last m →
          z.answered = false → z.suppressed = false →
          Hands s t (plainResponse y.initiator y.tag (.fault .portDown)) ∧ (∀ j, j ∈ mids → SkippedIn s t j) ∧
          row t.slots l = none ∧ Hands s t (lastResponse z.initiator z.tag .skipped c.count f) ∧
          row t.chains y.initiator = Chain.closed) ∧
        (y.role = .last n → c.members = [i] →
          Hands s t (lastResponse y.initiator y.tag (.fault .portDown) c.count f) ∧
          row t.chains y.initiator = Chain.closed)) ∧
      t.line = s.line ∧ t.management.managers = s.management.managers ∧ t.acceptCounter = s.acceptCounter + 1

/-- SET-STATION replaces the four sets of a station and enables or disables it: image positions whose direction changes become 0, the
last sample follows the inversion, latched positions outside the new rise and fall sets go, a DISABLED station that is enabled
becomes UNKNOWN with count 0 and no sample, and a disabled one keeps only its sets and image. A watched position that is an output,
a station above 15 or an enable byte above 1 gives BADVALUE and changes nothing (R108, R140, R148). -/
def Obligations.SetStationReplacesTheSets : Prop :=
  ∀ (h : ReqHeader) (o : StationOperands) (body : List Byte) (s u : State),
    bodyOf (manageCommand h (.setStation o)) = some body → Arrives body s u → ManageServed s h →
    (s.line.op ≠ none ∨ s.line.queue = []) →
    ((15 < o.station.toNat ∨ 1 < o.enable.toNat ∨ (o.rise ||| o.fall) &&& o.direction ≠ 0) →
      ∃ t, exec (manageCommand h (.setStation o)) s = .next t ∧ ManageAnswered s t h (.fault .badValue) ∧
        OnlySelection s t ∧ t.line = s.line ∧ t.regions = s.regions ∧ t.ports = s.ports) ∧
    ∀ (n : StationId) (st new : Station), n.val = o.station.toNat → row s.stations n = st →
      (o.rise ||| o.fall) &&& o.direction = 0 →
      (o.enable = 1 ∧ new =
          { presence := if st.presence = .disabled then .unknown else st.presence
            timeouts := if st.presence = .disabled then 0 else st.timeouts
            direction := o.direction, inversion := o.inversion, rise := o.rise, fall := o.fall
            lastSample := if st.presence = .disabled then none
              else st.lastSample.map fun v => v ^^^ (st.inversion ^^^ o.inversion)
            image := st.image &&& ~~~(st.direction ^^^ o.direction)
            latched := st.latched &&& (o.rise ||| o.fall)
            delivered := st.delivered.map fun v => v &&& (o.rise ||| o.fall) } ∨
        o.enable = 0 ∧ new =
          { presence := .disabled, timeouts := 0, direction := o.direction, inversion := o.inversion, rise := o.rise,
            fall := o.fall, lastSample := none, image := st.image &&& ~~~(st.direction ^^^ o.direction), latched := 0,
            delivered := none }) →
      ∃ t, exec (manageCommand h (.setStation o)) s = .next t ∧ ManageAnswered s t h .done ∧
        OnlySelection (s.setStation n new) t ∧ t.regions = s.regions ∧ t.ports = s.ports ∧
        (s.line.cycle = none → t.line = s.line)

/-- SET-SCAN gives a new scan period and is answered DONE, for every period of 0 to 255: above 0 it starts the scan timer afresh, and
0 stops it and cancels a due cycle; a running cycle and the line go on (R149). -/
def Obligations.SetScanRestartsTheTimer : Prop :=
  ∀ (h : ReqHeader) (period : Byte) (body : List Byte) (s u : State),
    bodyOf (manageCommand h (.setScan period)) = some body → Arrives body s u → ManageServed s h →
    ∃ t, exec (manageCommand h (.setScan period)) s = .next t ∧ ManageAnswered s t h .done ∧ OnlySelection s t ∧
      t.regions = s.regions ∧ t.ports = s.ports ∧ t.management.managers = s.management.managers ∧
      t.management.retires = s.management.retires ∧
      t.line = { s.line with
        scanPeriod := period.toNat
        scanTimer := if period.toNat = 0 then .stopped else .running period.toNat
        cycleDue := if period.toNat = 0 then false else s.line.cycleDue }

/-- SET-EVENT gives one source of 0 to 23 a priority of 0 to 15 and is answered DONE; a source or a priority above gives BADVALUE and
changes nothing (R123, R140, R150). -/
def Obligations.SetEventGivesThePriority : Prop :=
  ∀ (h : ReqHeader) (source priority : Byte) (body : List Byte) (s u : State),
    bodyOf (manageCommand h (.setEvent source priority)) = some body → Arrives body s u → ManageServed s h →
    ∃ t a, exec (manageCommand h (.setEvent source priority)) s = .next t ∧ ManageAnswered s t h a ∧
      t.regions = s.regions ∧ t.ports = s.ports ∧ t.line = s.line ∧
      ((23 < source.toNat ∨ 15 < priority.toNat) → a = .fault .badValue ∧ OnlySelection s t) ∧
      ∀ (n : Fin 24) (p : Fin 16), n.val = source.toNat → p.val = priority.toNat →
        a = .done ∧ OnlySelection (s.setEvents { s.events with priorities := putRow s.events.priorities n p }) t

/-- SET-EVENT-TARGET withdraws the message in flight, then sets the target and the ack window, and is answered DONE: what is in
flight afterwards is a new message with the next sequence number, and nothing while the named initiator is ABANDONING. An initiator
above 7 or a window of 0 gives BADVALUE and changes nothing (R133, R140, R150). -/
def Obligations.SetEventTargetWithdrawsAndMoves : Prop :=
  ∀ (h : ReqHeader) (initiator window : Byte) (body : List Byte) (s u : State),
    bodyOf (manageCommand h (.setEventTarget initiator window)) = some body → Arrives body s u → ManageServed s h →
    EventsOk s →
    ∃ t a, exec (manageCommand h (.setEventTarget initiator window)) s = .next t ∧ ManageAnswered s t h a ∧
      t.regions = s.regions ∧ t.ports = s.ports ∧ t.line = s.line ∧
      ((7 < initiator.toNat ∨ window.toNat = 0) → a = .fault .badValue ∧ OnlySelection s t) ∧
      ∀ k : Initiator, k.val = initiator.toNat → 0 < window.toNat →
        a = .done ∧ t.events.target = k ∧ t.events.ackWindow = window.toNat ∧
        t.events.priorities = s.events.priorities ∧ t.events.incidents = s.events.incidents ∧
        (∀ n, row t.stations n = { row s.stations n with delivered := (row t.stations n).delivered }) ∧
        (∀ m, inFlightMessage t = some m → m.sequence = s.events.sequence + 1) ∧
        ((row s.initiators k).mode = .abandoning → t.events.delivery = .idle ∧ t.events.ackTimer = .stopped ∧
          ∀ m n, inFlightMessage s = some m → m.source = .station n → (row t.stations n).delivered = none)

/-- An EVENT-ACK from the event target that names the source and the sequence number of the message in flight acknowledges it: the
delivered positions leave the station's latched set, or the acknowledged count becomes the count the message carried, the message
leaves flight, and the answer is DONE. Any other EVENT-ACK gives BADACK, a source above 23 BADVALUE, and neither changes anything
(R131, R140, R151). -/
def Obligations.EventAckClearsWhatWasDelivered : Prop :=
  ∀ (h : ReqHeader) (source sequence : Byte) (body : List Byte) (s u : State),
    bodyOf (manageCommand h (.eventAck source sequence)) = some body → Arrives body s u → ManageServed s h →
    ∃ t a, exec (manageCommand h (.eventAck source sequence)) s = .next t ∧ ManageAnswered s t h a ∧
      t.regions = s.regions ∧ t.ports = s.ports ∧ t.line = s.line ∧
      (23 < source.toNat → a = .fault .badValue ∧ OnlySelection s t) ∧
      (source.toNat ≤ 23 →
        (∀ m, inFlightMessage s = some m →
          ¬(h.initiator = s.events.target ∧ (sourceNumber m.source).val = source.toNat ∧ m.sequence = sequence)) →
        a = .fault .badAck ∧ OnlySelection s t) ∧
      ∀ m, inFlightMessage s = some m → h.initiator = s.events.target → (sourceNumber m.source).val = source.toNat →
        m.sequence = sequence →
        a = .done ∧ t.events.priorities = s.events.priorities ∧ t.events.target = s.events.target ∧
        (∀ m', inFlightMessage t = some m' → m'.sequence = s.events.sequence + 1) ∧
        (∀ n, m.source = .station n →
          (row t.stations n).latched = (row s.stations n).latched &&& ~~~(row s.stations n).delivered.getD 0 ∧
          t.events.incidents = s.events.incidents ∧
          ∀ n', n' ≠ n → (row t.stations n').latched = (row s.stations n').latched) ∧
        ∀ k count detail, m.source = .incident k → m.payload = .incident count detail →
          t.events.incidents = putRow s.events.incidents (incidentIndex k)
            { row s.events.incidents (incidentIndex k) with acknowledged := count } ∧
          ∀ n, (row t.stations n).latched = (row s.stations n).latched

/-- EVENT-RESUME. From an initiator other than the event target it is refused BADVALUE and changes nothing. From the target it is
answered DONE: in STALLED the message in flight is handed over again unchanged before the answer, the resend count becomes 0, the
timer starts with the ack window and the state becomes AWAIT-ACK; in AWAIT-ACK and IDLE nothing changes but by a selection. That
selection is carried out in the event of an EVENT-RESUME taken in IDLE too is deduced (assumption log entry 5) (R132, R151). -/
def Obligations.EventResumeSendsTheStalledMessageAgain : Prop :=
  ∀ (h : ReqHeader) (body : List Byte) (s u : State), bodyOf (manageCommand h .eventResume) = some body →
    Arrives body s u → ManageServed s h →
    ∃ t a, exec (manageCommand h .eventResume) s = .next t ∧ ManageAnswered s t h a ∧ t.regions = s.regions ∧
      t.ports = s.ports ∧ t.line = s.line ∧
      (h.initiator ≠ s.events.target → a = .fault .badValue ∧ OnlySelection s t) ∧
      (h.initiator = s.events.target → a = .done ∧
        (∀ m, s.events.delivery = .stalled m →
          t.events = { s.events with delivery := .awaitAck m, resends := 0, ackTimer := .running s.events.ackWindow } ∧
          t.stations = s.stations ∧
          t.link.outbound = s.link.outbound ++
            [.event s.events.target m, plainResponse h.initiator h.tag .done]) ∧
        ((∀ m, s.events.delivery ≠ .stalled m) → OnlySelection s t))

/-- READ-INCIDENT returns the record of one internal source as it stood; with clear yes both counts then become 0 and the last detail
stays, and the source's message, if it is the one in flight, is withdrawn. A kind outside 16 to 23 or a clear byte above 1 gives
BADVALUE and changes nothing (R124, R133, R140, R152). -/
def Obligations.ReadIncidentReturnsAndClears : Prop :=
  ∀ (h : ReqHeader) (kind clear : Byte) (body : List Byte) (s u : State),
    bodyOf (manageCommand h (.readIncident kind clear)) = some body → Arrives body s u → ManageServed s h →
    ∃ t a, exec (manageCommand h (.readIncident kind clear)) s = .next t ∧ ManageAnswered s t h a ∧
      t.regions = s.regions ∧ t.ports = s.ports ∧ t.line = s.line ∧
      ((kind.toNat < 16 ∨ 23 < kind.toNat ∨ 1 < clear.toNat) → a = .fault .badValue ∧ OnlySelection s t) ∧
      ∀ k : Fin 8, 16 + k.val = kind.toNat → clear.toNat ≤ 1 →
        a = .data (.record (.incident (row s.events.incidents k))) ∧
        (clear = 0 → OnlySelection s t) ∧
        (clear = 1 →
          t.events.incidents = putRow s.events.incidents k
            { row s.events.incidents k with count := 0, acknowledged := 0 } ∧
          t.events.priorities = s.events.priorities ∧ t.events.target = s.events.target ∧
          (∀ n, (row t.stations n).latched = (row s.stations n).latched) ∧
          ∀ m, inFlightMessage s = some m → (sourceNumber m.source).val = kind.toNat →
            ∀ m', inFlightMessage t = some m' → m'.sequence = s.events.sequence + 1)

/-- SET-MANAGERS replaces the manager set by a set that holds its requester and is answered DONE; any other set gives BADVALUE and
leaves the set as it was. MANAGE slots already occupied and pending retires are left as they are (R141). -/
def Obligations.SetManagersNeedsItsRequester : Prop :=
  ∀ (h : ReqHeader) (set : InitiatorSet) (body : List Byte) (s u : State),
    bodyOf (manageCommand h (.setManagers set)) = some body → Arrives body s u → ManageServed s h →
    ∃ t, exec (manageCommand h (.setManagers set)) s = .next t ∧
      ManageAnswered s t h (if set.has h.initiator then .done else .fault .badValue) ∧ OnlySelection s t ∧
      t.management.managers = (if set.has h.initiator then set else s.management.managers) ∧
      t.management.retires = s.management.retires ∧ t.regions = s.regions ∧ t.ports = s.ports ∧ t.line = s.line

/-- READ-OCCUPANCY returns the eight occupancy counts with the modes and the number of FREE slots as they stand in its event, its own
slot counted as occupied, and changes nothing (R22, R153). -/
def Obligations.ReadOccupancyCountsItsOwnSlot : Prop :=
  ∀ (h : ReqHeader) (body : List Byte) (s u : State), bodyOf (manageCommand h .readOccupancy) = some body →
    Arrives body s u → ManageServed s h →
    ∃ t, exec (manageCommand h .readOccupancy) s = .next t ∧ OnlySelection s t ∧ t.regions = s.regions ∧
      t.ports = s.ports ∧ t.line = s.line ∧ t.management.managers = s.management.managers ∧
      t.management.retires = s.management.retires ∧
      ManageAnswered s t h (.data (.record (.occupancy
        ((List.finRange 8).map fun k =>
          ((row s.initiators k).occupancy + (if k = h.initiator then 1 else 0), (row s.initiators k).mode))
        (((List.finRange 32).countP fun i => (row s.slots i).isNone) - 1))))

/-! ### Target ports -/

/-- The last step of a READ, WRITE or LOCK-READ completes successfully: the slot is answered with its data or DONE and released, its
entry counts one less, the port becomes IDLE, and a LOCK-READ's lock record stands. Where it was the last slot of an initiator that is
ABANDONING, the abandonment ends and the ABANDON is answered DONE. Here the slot is outside any chain, no drain ends with it, and
nothing waits at the port (R15, R35, R36, R37, R38, R42, R53, R54, R58). -/
def Obligations.LastStepAnswersAndReleasesTheSlot : Prop :=
  ∀ (c : Instr) (p : PortId) (cur : Issued) (x : Slot) (w : PortWork) (r : RegionRecord) (bytes : SegmentBytes)
    (s : State), CompletesStep c p cur bytes → Presents s p cur x w r →
    ¬(w.width = .word ∧ r.fields.lanes = .narrow ∧ cur.step = .one) → (∀ d, w.kind ≠ .unlockWrite d) →
    x.role = .none → NoDrainEnds r 1 → (row s.ports p).queue = [] →
    (row s.ports p).gate ≠ .pending →
    ∃ v, exec c s = .next (selectEvent v) ∧
      Released s v cur.slot x (plainResponse x.initiator x.tag
        (match w.kind with
          | .read => .data (readValue w r.fields.lanes (cur.lowByte.getD 0) bytes)
          | .lockRead => .data (readValue w r.fields.lanes (cur.lowByte.getD 0) bytes)
          | .write _ => .done
          | .unlockWrite _ => .done)) ∧
      v.regions = putRow s.regions w.entry (some { r with inFlight := r.inFlight - 1 }) ∧
      v.ports = putRow s.ports p { row s.ports p with state := .idle } ∧ v.stations = s.stations ∧ v.line = s.line ∧
      v.events = s.events ∧ v.management = s.management

/-- An UNLOCK-WRITE that succeeds ends with its lock record removed, and is answered DONE and released; its entry loses the record's
reference and the slot's. Here the slot is outside any chain, no drain ends with it, and nothing waits at the port (R16, R42, R58,
R69, R75). -/
def Obligations.UnlockWriteRemovesTheLockRecord : Prop :=
  ∀ (c : Instr) (p : PortId) (cur : Issued) (x : Slot) (w : PortWork) (r : RegionRecord) (l : LockRecord)
    (d : BitVec 16) (bytes : SegmentBytes) (s : State), CompletesStep c p cur bytes → Presents s p cur x w r →
    ¬(w.width = .word ∧ r.fields.lanes = .narrow ∧ cur.step = .one) → w.kind = .unlockWrite d →
    (row s.ports p).lock = some l → l.entry = w.entry → x.role = .none → NoDrainEnds r 2 →
    (row s.ports p).queue = [] → (row s.ports p).gate ≠ .pending →
    ∃ v, exec c s = .next (selectEvent v) ∧
      Released s v cur.slot x (plainResponse x.initiator x.tag .done) ∧
      v.regions = putRow s.regions w.entry (some { r with inFlight := r.inFlight - 1 - 1 }) ∧
      v.ports = putRow s.ports p { row s.ports p with state := .idle, lock := none } ∧ v.stations = s.stations ∧
      v.line = s.line ∧ v.events = s.events ∧ v.management = s.management

/-- The ready timer of a READY step expires: READY-TIMEOUT is raised with the address of the failed step, and the slot is answered
FAULT TIMEOUT, with the partial marker if its first step was done, and released. A posted write is not answered again: it raises
POSTED-FAIL with its target address. A failed LOCK-READ or UNLOCK-WRITE takes the lock record with it. Here the slot is outside any
chain, no drain ends with it, and nothing waits at the port (R36, R42, R55, R58, R60, R61, R69, R74, R75). -/
def Obligations.ReadyTimeoutFailsTheSlot : Prop :=
  ∀ (p : PortId) (cur : Issued) (x : Slot) (w : PortWork) (r : RegionRecord) (t : Nat) (s : State),
    Presents s p cur x w r → cur.timer = .ready t → x.role = .none →
    (row s.ports p).queue = [] → (row s.ports p).gate ≠ .pending →
    (∀ l, (row s.ports p).lock = some l → l.entry = w.entry) →
    ∃ v, exec (.readyTimerExpiry p) s = .next (selectEvent v) ∧
      (NoDrainEnds r 2 →
        Released s v cur.slot x
          (.response { initiator := x.initiator, tag := x.tag, answer := .fault .timeout,
                       partialMarker := decide (x.step = .two), summary := none }) ∧
        v.events = { s.events with
          incidents := (if x.answered = true then
              putRow (putRow s.events.incidents 1
                (raised (row s.events.incidents 1) (some (.portAddress p cur.presented.address)))) 3
                (raised (row s.events.incidents 3) (some (.portAddress p w.target)))
            else putRow s.events.incidents 1
              (raised (row s.events.incidents 1) (some (.portAddress p cur.presented.address)))) } ∧
        (((w.kind = .read ∨ ∃ d, w.kind = .write d) ∨ (row s.ports p).lock = none) →
          v.regions = putRow s.regions w.entry (some { r with inFlight := r.inFlight - 1 }) ∧
          v.ports = putRow s.ports p { row s.ports p with state := .idle }) ∧
        ((w.kind = .lockRead ∨ ∃ d, w.kind = .unlockWrite d) → (row s.ports p).lock ≠ none →
          v.regions = putRow s.regions w.entry (some { r with inFlight := r.inFlight - 1 - 1 }) ∧
          v.ports = putRow s.ports p { row s.ports p with state := .idle, lock := none }) ∧
        v.stations = s.stations ∧ v.line = s.line ∧ v.management = s.management)

/-- The first step of a NARROW word completes: step 2 is presented in the same event at the next address, with its timer started
afresh; a read keeps the low byte, nothing is answered, and the slot stays as it was but for its step. The byte taken is that of the
address's lane, which is deduced (assumption log entry 13) (R12, R54, R59). -/
def Obligations.NarrowWordPresentsStepTwo : Prop :=
  ∀ (c : Instr) (p : PortId) (cur : Issued) (x : Slot) (w : PortWork) (r : RegionRecord) (bytes : SegmentBytes)
    (s : State), CompletesStep c p cur bytes → Presents s p cur x w r → w.width = .word → r.fields.lanes = .narrow →
    cur.step = .one →
    ∃ v, exec c s = .next (selectEvent v) ∧ v.slots = putRow s.slots cur.slot (some { x with step := .two }) ∧
      v.ports = putRow s.ports p { row s.ports p with
        state := .issued
          { slot := cur.slot, step := .two,
            lowByte := match w.kind with
              | .read => some (if w.target.toNat % 2 = 1 then bytes.odd else bytes.even)
              | .lockRead => some (if w.target.toNat % 2 = 1 then bytes.odd else bytes.even)
              | .write _ => none
              | .unlockWrite _ => none
            timer := match r.fields.completion with
              | .fixed d => .delay d
              | .ready m => .ready m
            presented :=
              { address := w.target + 1, width := .byte,
                write := match w.kind with
                  | .read => none
                  | .lockRead => none
                  | .write d => some (.byte (hiByte d))
                  | .unlockWrite d => some (.byte (hiByte d)) } } } ∧
      v.link = s.link ∧ v.regions = s.regions ∧ v.initiators = s.initiators ∧ v.acceptCounter = s.acceptCounter ∧
      v.chains = s.chains ∧ v.stations = s.stations ∧ v.line = s.line ∧ v.events = s.events ∧
      v.management = s.management

/-- The release of the last reference of a DRAINING entry makes it ABSENT in the same event: its pair leaves the pending retire list,
and its RETIRE-REGION slot is released, with DONE after the response of the slot that was released first. Here that slot is a READ of
another initiator, outside any chain, and nothing waits at its port (R18, R37, R144). -/
def Obligations.LastReferenceEndsTheDrain : Prop :=
  ∀ (c : Instr) (p : PortId) (cur : Issued) (x y : Slot) (w : PortWork) (r : RegionRecord) (j : SlotId)
    (q : PendingRetire) (bytes : SegmentBytes) (s : State), QueuesOk s → CompletesStep c p cur bytes →
    Presents s p cur x w r → ¬(w.width = .word ∧ r.fields.lanes = .narrow ∧ cur.step = .one) → w.kind = .read →
    x.role = .none → NoAbandonmentEnds s x → r.phase = .draining → r.inFlight = 1 →
    s.management.retires.filter (fun k => decide (k.entry = w.entry)) = [q] → row s.slots j = some y →
    y.initiator = q.initiator → y.tag = q.tag → y.role = .none → x.initiator ≠ y.initiator → NoAbandonmentEnds s y →
    s.link.state = .up → x.answered = false → x.suppressed = false → y.answered = false → y.suppressed = false →
    (row s.ports p).queue = [] → (row s.ports p).gate ≠ .pending →
    ∃ v, exec c s = .next (selectEvent v) ∧ v.regions = putRow s.regions w.entry none ∧
      v.slots = putRow (putRow s.slots cur.slot none) j none ∧
      v.management.retires = s.management.retires.filter (fun k => decide (k.entry ≠ w.entry)) ∧
      v.link.outbound = s.link.outbound ++
        [plainResponse x.initiator x.tag (.data (readValue w r.fields.lanes (cur.lowByte.getD 0) bytes)),
          plainResponse y.initiator y.tag .done]

/-- A ready indication is stray at an IDLE port, UP or DOWN, and at a port that is ISSUED with a FIXED step: STRAY-READY is raised with
the port as its detail, and nothing else changes. A HELD port does not observe it. While a READY step is presented it is no stray,
and after step 2 of a NARROW word has been issued it is taken as that step's completion (R57). -/
def Obligations.StrayReadyIndications : Prop :=
  ∀ (p : PortId) (bytes : SegmentBytes) (s : State),
    (((row s.ports p).state = .idle ∨ ∃ cur d, (row s.ports p).state = .issued cur ∧ cur.timer = .delay d) →
      exec (.readyIndication p bytes) s = .next (selectEvent
        { s with events := { s.events with
          incidents := putRow s.events.incidents 2 (raised (row s.events.incidents 2) (some (.port p))) } })) ∧
    ((row s.ports p).state = .held → exec (.readyIndication p bytes) s = .next (selectEvent s)) ∧
    (∀ cur t, (row s.ports p).state = .issued cur → cur.timer = .ready t →
      ∃ u, exec (.readyIndication p bytes) s = .next u ∧
        row u.events.incidents 2 = row s.events.incidents 2 ∧
        ∀ x w r, Presents s p cur x w r → cur.step = .two → (row s.ports p).queue = [] → x.role = .none →
          row u.slots cur.slot = none)

/-- The expiry of a running lock lifetime timer breaks the lock: the record goes, LOCK-EXPIRED is raised with the port and the locked
address, every queued UNLOCK-WRITE of the owner is released, answered LOCKLOST, and every other slot keeps its place. A stopped
timer, or that of no lock record, does not expire, by the model's choice (assumption log entry 14). Here the port is not IDLE, so that
its arbiter has nothing to decide (R69, R76). -/
def Obligations.LockExpiryBreaksTheLock : Prop :=
  ∀ (p : PortId) (s : State),
    (((row s.ports p).lock = none ∨ ∃ l, (row s.ports p).lock = some l ∧ l.timer = .stopped) →
      exec (.lockLifetimeExpiry p) s = .next (selectEvent s)) ∧
    ∀ (l : LockRecord) (d : Nat) (r : RegionRecord), QueuesOk s → (row s.ports p).lock = some l →
      l.timer = .running d → (row s.ports p).state ≠ .idle → row s.regions l.entry = some r → NoDrainEnds r 1 →
      ∃ v, exec (.lockLifetimeExpiry p) s = .next (selectEvent v) ∧
        v.ports = putRow s.ports p { row s.ports p with
          lock := none, queue := (row s.ports p).queue.filter fun i => !isUnlockOf s l.owner i } ∧
        v.events = { s.events with
          incidents := putRow s.events.incidents 0
            (raised (row s.events.incidents 0) (some (.portAddress p l.address))) } ∧
        (∀ i, i ∈ (row s.ports p).queue → isUnlockOf s l.owner i = true → row v.slots i = none ∧
          ∀ x, row s.slots i = some x → x.role = .none → x.answered = false → x.suppressed = false →
            s.link.state = .up → Hands s v (plainResponse x.initiator x.tag (.fault .lockLost))) ∧
        ((∀ i, i ∈ (row s.ports p).queue → isUnlockOf s l.owner i = false) →
          v.slots = s.slots ∧ v.initiators = s.initiators ∧ v.link = s.link ∧
          v.regions = putRow s.regions l.entry (some { r with inFlight := r.inFlight - 1 })) ∧
        v.stations = s.stations ∧ v.line = s.line ∧ v.acceptCounter = s.acceptCounter

/-- The hold request line. A raise at an UP port with gate NONE makes the gate PENDING and consults the arbiter; any other raise only
asserts the line. A withdrawal clears a PENDING hold, and ends a GRANTED one with the port IDLE, the limit timer stopped and the
arbiter consulted. A hold that outlasts its limit raises HOLD-OVERRUN with the port, stops the timer and stays. A line already at
the level, and a timer that does not run, change nothing, by the model's choice (assumption log entries 14 and 17) (R84, R87, R88). -/
def Obligations.HoldRequestMovesTheGate : Prop :=
  ∀ (p : PortId) (x : Port) (s : State), row s.ports p = x →
    (x.holdLine = true → exec (.holdRequestRaise p) s = .next (selectEvent s)) ∧
    (x.holdLine = false → x.setting = .up → x.gate = .none →
      exec (.holdRequestRaise p) s =
        .next (selectEvent (arbiter p (s.setPort p { x with holdLine := true, gate := .pending })))) ∧
    (x.holdLine = false → (x.setting = .down ∨ x.gate ≠ .none) →
      exec (.holdRequestRaise p) s = .next (selectEvent (s.setPort p { x with holdLine := true }))) ∧
    (x.holdLine = false → exec (.holdRequestWithdrawal p) s = .next (selectEvent s)) ∧
    (x.holdLine = true → x.gate ≠ .granted →
      exec (.holdRequestWithdrawal p) s = .next (selectEvent (s.setPort p { x with holdLine := false, gate := .none }))) ∧
    (x.holdLine = true → x.gate = .granted →
      exec (.holdRequestWithdrawal p) s =
        .next (selectEvent (arbiter p
          (s.setPort p { x with holdLine := false, gate := .none, state := .idle, holdTimer := .stopped })))) ∧
    (∀ d, x.gate = .granted → x.holdTimer = .running d →
      exec (.holdLimitExpiry p) s = .next (selectEvent
        ((s.setPort p { x with holdTimer := .stopped }).setEvents { s.events with
          incidents := putRow s.events.incidents 4 (raised (row s.events.incidents 4) (some (.port p))) }))) ∧
    ((x.gate ≠ .granted ∨ x.holdTimer = .stopped) → exec (.holdLimitExpiry p) s = .next (selectEvent s))

/-- What the arbiter of an IDLE port decides, in this order: a PENDING hold on a port without a lock record is granted; under a lock
record the owner's oldest slot is issued, past every other slot and past the hold; without one the head of the queue is issued.
Nothing is decided at a port that is not IDLE, under a lock record whose owner has no slot in the queue, and on an empty queue
(R45, R48, R49, R51, R72, R75, R83, R85). -/
def Obligations.ArbiterServesHoldThenOwnerThenHead : Prop :=
  ∀ (p : PortId) (x : Port) (s : State), row s.ports p = x →
    (x.state ≠ .idle → arbiter p s = s) ∧
    (x.state = .idle → x.gate = .pending → x.lock = none →
      arbiter p s = s.setPort p { x with
        gate := .granted, state := .held,
        holdTimer := if x.holdLimit = 0 then .stopped else .running x.holdLimit }) ∧
    (x.state = .idle → x.gate ≠ .pending → x.lock = none → x.queue = [] → arbiter p s = s) ∧
    (∀ l, x.state = .idle → x.lock = some l → (∀ i, i ∈ x.queue → slotInitiator s i ≠ some l.owner) →
      arbiter p s = s) ∧
    ∀ (before after : List SlotId) (i : SlotId) (y : Slot) (w : PortWork) (r : RegionRecord), x.state = .idle →
      x.queue = before ++ i :: after → row s.slots i = some y → y.work = .port w → row s.regions w.entry = some r →
      ((x.lock = none ∧ x.gate ≠ .pending ∧ before = []) ∨
        ∃ l, x.lock = some l ∧ y.initiator = l.owner ∧ ∀ k, k ∈ before → slotInitiator s k ≠ some l.owner) →
      (arbiter p s).slots = putRow s.slots i (some { y with state := .active }) ∧
      (arbiter p s).ports = putRow s.ports p { x with
        queue := before ++ after
        state := .issued
          { slot := i, step := .one, lowByte := none,
            timer := match r.fields.completion with
              | .fixed d => .delay d
              | .ready m => .ready m
            presented := segmentStep w r.fields.lanes .one }
        lock := match w.kind with
          | .read => x.lock
          | .write _ => x.lock
          | .lockRead =>
              some { owner := y.initiator, address := w.addr, width := w.width, entry := w.entry,
                     timer := .running x.lockLifetime }
          | .unlockWrite _ => x.lock.map fun l =>
              if l.owner = y.initiator then { l with timer := .stopped } else l } ∧
      (arbiter p s).regions =
        (if w.kind = .lockRead then putRow s.regions w.entry (some { r with inFlight := r.inFlight + 1 })
        else s.regions) ∧
      (arbiter p s).link = s.link ∧ (arbiter p s).initiators = s.initiators ∧ (arbiter p s).chains = s.chains ∧
      (arbiter p s).events = s.events ∧ (arbiter p s).line = s.line ∧ (arbiter p s).stations = s.stations

/-- What the release of a chain's head does to its chain, in the same event. Where the head succeeds, the next WAITING member becomes
QUEUED at its busy destination, in acceptance order; where that is the head's own port, and it is UP without a lock record, the member
is issued. Where the head times out, TIMEOUT is recorded as the chain's first failure unless one stands, and every WAITING member is answered
SKIPPED, with the summary on the LAST, whose release clears the context. Here no drain ends, nothing else waits at the head's port,
and the head that times out is a READ followed by one WAITING LAST (R35, R93, R98, R99, R100, R102). -/
def Obligations.HeadTimeoutSweepsTheChain : Prop :=
  (∀ (c : Instr) (p : PortId) (cur : Issued) (x y : Slot) (w : PortWork) (r : RegionRecord) (m : Nat) (j : SlotId)
    (later before after : List SlotId) (ch : Chain) (bytes : SegmentBytes) (answer : Answer) (s : State),
    QueuesOk s → CompletesStep c p cur bytes → Presents s p cur x w r →
    ¬(w.width = .word ∧ r.fields.lanes = .narrow ∧ cur.step = .one) →
    (w.kind = .read ∧ answer = .data (readValue w r.fields.lanes (cur.lowByte.getD 0) bytes) ∨
      ∃ d, w.kind = .write d ∧ answer = .done) →
    x.role = .member m → x.answered = false → x.suppressed = false → s.link.state = .up →
    (row s.initiators x.initiator).mode = .normal → row s.chains x.initiator = ch → ch.state = .opened →
    ch.members = cur.slot :: j :: later → row s.slots j = some y → y.state = .waiting → j ≠ cur.slot → NoDrainEnds r 1 →
    (row s.ports p).queue = [] → (row s.ports p).gate ≠ .pending → JoinsBetween s p before y after →
    ∃ v, exec c s = .next (selectEvent v) ∧
      v.link.outbound = s.link.outbound ++ [plainResponse x.initiator x.tag answer] ∧
      v.chains = putRow s.chains x.initiator { ch with members := j :: later } ∧
      v.regions = putRow s.regions w.entry (some { r with inFlight := r.inFlight - 1 }) ∧
      (∀ z, y.work = .port z → z.port ≠ p →
        v.slots = putRow (putRow s.slots cur.slot none) j (some { y with state := .queued }) ∧
        v.ports = putRow (putRow s.ports z.port { row s.ports z.port with queue := before ++ j :: after }) p
          { row s.ports p with state := .idle } ∧
        v.line = s.line) ∧
      (∀ z q, y.work = .port z → z.port = p → row s.regions z.entry = some q →
        v.slots = putRow (putRow s.slots cur.slot none) j (some { y with state := .active }) ∧
        v.ports = putRow s.ports p { row s.ports p with
          state := .issued
            { slot := j, step := .one, lowByte := none,
              timer := match q.fields.completion with
                | .fixed d => .delay d
                | .ready t => .ready t
              presented := segmentStep z q.fields.lanes .one } } ∧
        v.line = s.line) ∧
      ∀ z, y.work = .bit z →
        v.slots = putRow (putRow s.slots cur.slot none) j (some { y with state := .queued }) ∧
        v.line = { s.line with queue := before ++ j :: after } ∧
        v.ports = putRow s.ports p { row s.ports p with state := .idle }) ∧
  ∀ (p : PortId) (cur : Issued) (x y : Slot) (w z : PortWork) (r q : RegionRecord) (t m n : Nat) (j : SlotId) (c : Chain)
    (s : State), Presents s p cur x w r → cur.timer = .ready t → w.kind = .read → x.role = .member m →
    x.answered = false → x.suppressed = false → s.link.state = .up →
    (row s.initiators x.initiator).mode = .normal → row s.chains x.initiator = c → c.members = [cur.slot, j] →
    c.state = .opened → row s.slots j = some y → j ≠ cur.slot → y.initiator = x.initiator → y.role = .last n →
    y.state = .waiting → y.answered = false → y.suppressed = false → y.work = .port z →
    row s.regions z.entry = some q → r.phase = .active → q.phase = .active → (row s.ports p).queue = [] →
    (row s.ports p).gate ≠ .pending →
    ∃ v, exec (.readyTimerExpiry p) s = .next (selectEvent v) ∧
      v.slots = putRow (putRow s.slots cur.slot none) j none ∧
      v.chains = putRow s.chains x.initiator Chain.closed ∧
      v.link.outbound = s.link.outbound ++
        [.response { initiator := x.initiator, tag := x.tag, answer := .fault .timeout,
                     partialMarker := decide (x.step = .two), summary := none },
          .response { initiator := y.initiator, tag := y.tag, answer := .skipped, partialMarker := false,
                      summary := some { count := c.count,
                                        failure := some (c.failure.getD { ordinal := m, code := .timeout }) } }]

/-! ### Bit line and stations -/

/-- A reply completes the operation of a request: the slot is answered and released and the line becomes free. A read gives the logical
values of its positions, a write makes its formed image the stored one, and the station is PRESENT with count 0; a station disabled
meanwhile gives NOSTATION and keeps its record. A reply of another station or kind, one that fails its check and one while the line
is free are ignored. Here the request is outside any chain, and nothing waits for the line (R42, R106, R107, R110, R111, R112, R114,
R115). -/
def Obligations.StationReplyAnswersTheRequest : Prop :=
  (∀ (reply : StationReply) (s : State),
    (s.line.op = none ∨ ∃ op, s.line.op = some op ∧ (reply.intact = false ∨ reply.station ≠ op.station ∨
      (op.command = .readStation ∧ reply.kind = .writeStation) ∨
      ∃ a b c, op.command = .writeStation a b c ∧ reply.kind = .readStation)) →
    exec (.stationReply reply) s = .next (selectEvent s)) ∧
  ∀ (op : LineOp) (i : SlotId) (x : Slot) (w : BitWork) (st : Station) (pins : Positions) (s : State),
    LineServes s op i x w → row s.stations op.station = st →
    (op.command = .readStation → (w.kind = .test ∨ ∃ width, w.kind = .fieldRead width ∧ width ≤ 16) →
      ∃ v value, exec (.stationReply { kind := .readStation, station := op.station, pins := pins, intact := true }) s
          = .next (selectEvent v) ∧
        (∀ k, k < 16 → value.getLsbD k = (decide (k < bitWidth w.kind) &&
          (pins.getLsbD (w.addr.toNat % 32 + k) != st.inversion.getLsbD (w.addr.toNat % 32 + k)))) ∧
        Released s v i x (plainResponse x.initiator x.tag
          (if st.presence = .disabled then .fault .noStation
          else if w.kind = .test then .data (.byte (value.setWidth 8)) else .data (.word value))) ∧
        v.stations = putRow s.stations op.station
          (if st.presence = .disabled then st else { st with presence := .present, timeouts := 0 }) ∧
        v.line = { s.line with op := none } ∧ v.regions = s.regions ∧ v.ports = s.ports ∧ v.events = s.events ∧
        v.management = s.management) ∧
    ∀ direction levels formed, op.command = .writeStation direction levels formed →
      ∃ v, exec (.stationReply { kind := .writeStation, station := op.station, pins := pins, intact := true }) s
          = .next (selectEvent v) ∧
        Released s v i x (plainResponse x.initiator x.tag
          (if st.presence = .disabled then .fault .noStation else .done)) ∧
        v.stations = putRow s.stations op.station
          (if st.presence = .disabled then st
          else { st with presence := .present, timeouts := 0, image := formed &&& st.direction }) ∧
        v.line = { s.line with op := none } ∧ v.regions = s.regions ∧ v.ports = s.ports ∧ v.events = s.events ∧
        v.management = s.management

/-- A reply to a poll: an enabled station is PRESENT with count 0 and its last sample is replaced by the logical values. Edges are
latched, a rise at a position of the rise set and a fall at one of the fall set, unless the sample was absent or the station ABSENT.
The cycle then polls the next enabled station, or ends. Here no request waits for the line (R107, R111, R118, R119). -/
def Obligations.PollReplyTakesTheEdges : Prop :=
  ∀ (n : StationId) (cursor : Nat) (st : Station) (pins : Positions) (s : State),
    s.line.op = some { station := n, command := .readStation, origin := .poll } → s.line.cycle = some cursor →
    s.line.queue = [] → row s.stations n = st → st.presence ≠ .disabled →
    ∃ v now latched, exec (.stationReply { kind := .readStation, station := n, pins := pins, intact := true }) s
        = .next (selectEvent v) ∧
      (∀ k, k < 32 → now.getLsbD k = (pins.getLsbD k != st.inversion.getLsbD k)) ∧
      (∀ k, k < 32 → latched.getLsbD k = (st.latched.getLsbD k ||
        match st.lastSample with
        | none => false
        | some last => decide (st.presence ≠ .absent) &&
            (st.rise.getLsbD k && !last.getLsbD k && now.getLsbD k ||
              st.fall.getLsbD k && last.getLsbD k && !now.getLsbD k))) ∧
      v.stations = putRow s.stations n
        { st with presence := .present, timeouts := 0, lastSample := some now, latched := latched } ∧
      (∀ m, NextEnabled s cursor m → v.line = { s.line with
        op := some { station := m, command := .readStation, origin := .poll }, previous := .poll,
        cycle := some (m.val + 1) }) ∧
      (NoneEnabled s cursor → s.line.cycleDue = false → v.line = { s.line with op := none, cycle := none }) ∧
      v.link = s.link ∧ v.slots = s.slots ∧ v.regions = s.regions ∧ v.ports = s.ports ∧ v.events = s.events ∧
      v.initiators = s.initiators

/-- A line timeout raises the station's count; at the second in a row the station is ABSENT and STATION-LOST is raised with it. A
request is answered TIMEOUT, or NOSTATION if its station was disabled meanwhile, and the stored image stays; a poll loads no sample.
With no operation on the line nothing happens, by the model's choice (assumption log entry 14). Here nothing else waits for the line
(R42, R107, R110, R111, R112, R114, R115). -/
def Obligations.LineTimeoutCountsAgainstTheStation : Prop :=
  (∀ s : State, s.line.op = none → exec .lineTimerExpiry s = .next (selectEvent s)) ∧
  ∀ (op : LineOp) (st new : Station) (events : EventUnit) (s : State), s.line.op = some op →
    row s.stations op.station = st →
    (((st.presence = .disabled ∨ st.presence = .absent) ∧ new = st ∧ events = s.events) ∨
      ((st.presence = .unknown ∨ st.presence = .present) ∧ st.timeouts = 0 ∧ new = { st with timeouts := 1 } ∧
        events = s.events) ∨
      ((st.presence = .unknown ∨ st.presence = .present) ∧ st.timeouts = 1 ∧
        new = { st with timeouts := 2, presence := .absent } ∧
        events = { s.events with
          incidents := putRow s.events.incidents 5
            (raised (row s.events.incidents 5) (some (.station op.station))) })) →
    (∀ i x w, LineServes s op i x w →
      ∃ v, exec .lineTimerExpiry s = .next (selectEvent v) ∧
        Released s v i x (plainResponse x.initiator x.tag
          (.fault (if st.presence = .disabled then .noStation else .timeout))) ∧
        v.stations = putRow s.stations op.station new ∧ v.events = events ∧ v.line = { s.line with op := none } ∧
        v.regions = s.regions ∧ v.ports = s.ports ∧ v.management = s.management) ∧
    (op.origin = .poll → s.line.queue = [] → s.line.cycleDue = false → ∀ cursor, s.line.cycle = some cursor →
      NoneEnabled s cursor →
      ∃ v, exec .lineTimerExpiry s = .next (selectEvent v) ∧ v.stations = putRow s.stations op.station new ∧
        v.events = events ∧ v.line = { s.line with op := none, cycle := none } ∧ v.slots = s.slots ∧
        v.link = s.link ∧ v.regions = s.regions ∧ v.ports = s.ports)

/-- An expiry of the running scan timer starts it again with the period. With no cycle running a cycle begins: it polls the lowest
enabled station of a free line, or ends at its beginning when none is enabled. While a cycle runs it marks the next one due and
raises SCAN-OVERRUN with the station of the poll in flight, or with the one to be polled next. A stopped timer does not expire, by the
model's choice (assumption log entry 14) (R117, R118). -/
def Obligations.ScanTimerBeginsACycle : Prop :=
  ∀ (s : State),
    (s.line.scanTimer = .stopped → exec .scanTimerExpiry s = .next (selectEvent s)) ∧
    ∀ d, s.line.scanTimer = .running d →
      (s.line.cycle = none → NoneEnabled s 0 → s.line.queue = [] →
        ∃ v, exec .scanTimerExpiry s = .next (selectEvent v) ∧
          v.line = { s.line with scanTimer := .running s.line.scanPeriod, cycleDue := false } ∧ v.slots = s.slots ∧
          v.events = s.events ∧ v.stations = s.stations ∧ v.link = s.link) ∧
      (∀ n, s.line.cycle = none → NextEnabled s 0 n →
        (s.line.op = none → s.line.queue = [] →
          ∃ v, exec .scanTimerExpiry s = .next (selectEvent v) ∧
            v.line = { s.line with
              scanTimer := .running s.line.scanPeriod, cycleDue := false, previous := .poll, cycle := some (n.val + 1),
              op := some { station := n, command := .readStation, origin := .poll } } ∧
            v.slots = s.slots ∧ v.events = s.events ∧ v.stations = s.stations ∧ v.link = s.link) ∧
        (s.line.op ≠ none →
          ∃ v, exec .scanTimerExpiry s = .next (selectEvent v) ∧
            v.line = { s.line with
              scanTimer := .running s.line.scanPeriod, cycleDue := false, cycle := some 0 } ∧
            v.slots = s.slots ∧ v.events = s.events ∧ v.stations = s.stations ∧ v.link = s.link)) ∧
      ∀ cursor n, s.line.cycle = some cursor →
        ((∃ op, s.line.op = some op ∧ op.origin = .poll ∧ op.station = n) ∨
          (∀ op, s.line.op = some op → op.origin ≠ .poll) ∧ NextEnabled s cursor n) →
        ∃ v, exec .scanTimerExpiry s = .next (selectEvent v) ∧
          v.line = { s.line with scanTimer := .running s.line.scanPeriod, cycleDue := true } ∧
          v.events = { s.events with
            incidents := putRow s.events.incidents 7 (raised (row s.events.incidents 7) (some (.station n))) } ∧
          v.slots = s.slots ∧ v.stations = s.stations ∧ v.link = s.link ∧ v.ports = s.ports

/-! ### Event delivery -/

/-- An expiry of the ack window in AWAIT-ACK with a resend count of 0, 1 or 2 hands the message in flight over again, raises the count
and starts the timer with the ack window; with 3 nothing is sent and the state is STALLED, the message held and the count 3. No
selection is carried out while the state is AWAIT-ACK or STALLED (R130). -/
def Obligations.AckWindowResendsThenStalls : Prop :=
  ∀ (m : EventMessage) (s : State),
    (∀ d, s.events.delivery = .awaitAck m → s.events.ackTimer = .running d → s.events.resends < 3 → s.link.state = .up →
      ∃ t, exec .ackWindowExpiry s = .next t ∧
        t.events = { s.events with resends := s.events.resends + 1, ackTimer := .running s.events.ackWindow } ∧
        t.link.outbound = s.link.outbound ++ [.event s.events.target m] ∧ SameReceiver s t ∧ t.regions = s.regions ∧
        t.slots = s.slots ∧ t.initiators = s.initiators ∧ t.acceptCounter = s.acceptCounter ∧ t.chains = s.chains ∧
        t.ports = s.ports ∧ t.stations = s.stations ∧ t.line = s.line ∧ t.management = s.management) ∧
    (∀ d, s.events.delivery = .awaitAck m → s.events.ackTimer = .running d → s.events.resends = 3 →
      exec .ackWindowExpiry s = .next { s with
        events := { s.events with delivery := .stalled m, ackTimer := .stopped } }) ∧
    ((s.events.delivery = .stalled m ∨ s.events.delivery = .awaitAck m) → selectEvent s = s)

/-- Selection. It changes nothing unless the delivery state is IDLE, the link UP and the event target NORMAL, nor when no source is
eligible. Otherwise it builds the message of the eligible source of the highest priority, the lower number among equals: with the
raised sequence number, the source's priority and its latched set, of which it makes the delivered copy, or its count and last
detail; it hands the message to the event target, and the state is AWAIT-ACK with resend count 0 and the timer started (R126, R128,
R129). -/
def Obligations.SelectionSendsTheChosenSource : Prop :=
  ∀ (s : State),
    (¬ SelectionOpen s → selectEvent s = s) ∧
    ((∀ src, ¬ Eligible s src) → selectEvent s = s) ∧
    ∀ (src : Source) (m : EventMessage), SelectionOpen s → Eligible s src →
      (∀ other, Eligible s other →
        (row s.events.priorities (sourceNumber other)).val < (row s.events.priorities (sourceNumber src)).val ∨
          ((row s.events.priorities (sourceNumber other)).val = (row s.events.priorities (sourceNumber src)).val ∧
            (sourceNumber src).val ≤ (sourceNumber other).val)) →
      m = { sequence := s.events.sequence + 1, source := src,
            priority := row s.events.priorities (sourceNumber src),
            payload := match src with
              | .station n => .latched (row s.stations n).latched
              | .incident k =>
                  .incident (row s.events.incidents (incidentIndex k)).count
                    (row s.events.incidents (incidentIndex k)).detail } →
      (selectEvent s).events = { s.events with
        sequence := s.events.sequence + 1, delivery := .awaitAck m, resends := 0,
        ackTimer := .running s.events.ackWindow } ∧
      (selectEvent s).link.outbound = s.link.outbound ++ [.event s.events.target m] ∧ SameReceiver s (selectEvent s) ∧
      (selectEvent s).stations = (match src with
        | .station n => putRow s.stations n { row s.stations n with delivered := some (row s.stations n).latched }
        | .incident _ => s.stations) ∧
      (selectEvent s).regions = s.regions ∧ (selectEvent s).slots = s.slots ∧
      (selectEvent s).initiators = s.initiators ∧ (selectEvent s).acceptCounter = s.acceptCounter ∧
      (selectEvent s).chains = s.chains ∧ (selectEvent s).ports = s.ports ∧ (selectEvent s).line = s.line ∧
      (selectEvent s).management = s.management

/-! ### Invariants -/

/-- Power-on reset leaves a state that meets every invariant below, from any state and with every strap value and every level of the
hold request lines; so does the state that stands for the machine right after it, whose strap value of 0 and deasserted lines are
the model's choice (assumption log entry 2). -/
def Obligations.ResetMeetsEveryInvariant : Prop :=
  SafeState State.reset ∧
    ∀ (strap : BitVec 3) (lines : BitVec 4) (s : State), ∃ t, exec (.powerOnReset strap lines) s = .next t ∧ SafeState t

/-- No step leaves the manager set empty, a region entry outside the ranges of R2, or two windows that share a byte (R2, R3, R138,
R141). -/
def Obligations.StepsKeepRegionMapAndManagers : Prop :=
  ∀ s t : State, RegionMapOk s ∧ ManagersOk s → step s = .next t → RegionMapOk t ∧ ManagersOk t

/-- Every step keeps the station records sound (R107, R108, R115, R119, R131). -/
def Obligations.StepsKeepStationRecords : Prop := ∀ s t : State, StationsOk s → step s = .next t → StationsOk t

/-- Every step keeps the ports sound: HELD exactly while GRANTED, no lock record while HELD, and nothing queued, locked or PENDING at a
DOWN port (R45, R49, R64, R83, R85). -/
def Obligations.StepsKeepPortsAndHolds : Prop := ∀ s t : State, PortsOk s → step s = .next t → PortsOk t

/-- Every step keeps the chain contexts sound, and their member lists, in which every slot after the head is WAITING, so that at most one
member of a chain is QUEUED or ACTIVE; a list is kept where the queues agree with the slots (R92, R93, R94, R97, R98, R100, R102). -/
def Obligations.StepsKeepChainContexts : Prop :=
  ∀ s t : State, step s = .next t →
    (ChainsOk s → ChainsOk t) ∧ (QueuesOk s → MemberListsOk s → MemberListsOk t)

/-- Every step keeps the event unit sound: an acknowledged count never passes its count, at most one message is in flight, sent at
most four times before it stalls, and a delivered copy stands only for it (R119, R124, R127, R130, R131, R133). -/
def Obligations.StepsKeepEventDelivery : Prop := ∀ s t : State, EventsOk s → step s = .next t → EventsOk t

/-- Every step keeps the link interface sound: while DOWN nothing is held to send, and a frame on the line is that of the outbound list's
head (R155, R157, R159, R160). -/
def Obligations.StepsKeepLinkInterface : Prop := ∀ s t : State, LinkOk s.link → step s = .next t → LinkOk t.link

/-- Every step keeps the slot table sound: keys stay unique, occupancies stay right, and no slot is left in state DONE. And it keeps the
in-flight counts: an entry's count is the number of the occupied slots and lock records that refer to it, and a DRAINING entry has
a count above 0; these are kept where the queues agree with the slots (R13, R17, R18, R21, R22, R23, R34, R70). -/
def Obligations.StepsKeepSlotTable : Prop :=
  ∀ s t : State, step s = .next t →
    (SlotTableOk s → SlotTableOk t) ∧ (QueuesOk s → ReferencesOk s → ReferencesOk t)

/-- Every step keeps the queues of the ports and of the line, current slots, line operation and pending retires in agreement with the
slot table, and the queues in acceptance order, as long as every occupied slot was accepted within the last 65534 acceptances (R21,
R23, R24, R33, R47, R51, R113, R138). -/
def Obligations.StepsKeepQueuesAndSlotsInAgreement : Prop :=
  ∀ s t : State, QueuesOk s → step s = .next t → QueuesOk t ∧ (Recent s → OrderOk s → OrderOk t)

end Statements
end

