-- ==== Sys2Proof/Laws/State.lean ====
section
/-! SUPPORT. The small laws of tables and of the updates of the state: what each table row and each field reads after each
update. -/

namespace Sys2Proof

/-! ### Tables -/

@[simp] theorem row_putRow_self {n : Nat} {α : Type} (t : Table n α) (i : Fin n) (x : α) : row (putRow t i x) i = x := by
  simp [row, putRow]

theorem row_putRow_ne {n : Nat} {α : Type} (t : Table n α) (i j : Fin n) (x : α) (h : j ≠ i) :
    row (putRow t i x) j = row t j := by
  have : i.val ≠ j.val := fun e => h (Fin.ext e.symm)
  simp [row, putRow, Vector.getElem_set_ne, this]

theorem row_putRow {n : Nat} {α : Type} (t : Table n α) (i j : Fin n) (x : α) :
    row (putRow t i x) j = if j = i then x else row t j := by
  split
  · next h => rw [h, row_putRow_self]
  · next h => exact row_putRow_ne t i j x h

@[simp] theorem row_uniform (n : Nat) {α : Type} (x : α) (i : Fin n) : row (uniform n x) i = x := by
  simp [row, uniform]

theorem table_ext {n : Nat} {α : Type} {t u : Table n α} (h : ∀ i, row t i = row u i) : t = u :=
  Vector.ext fun i hi => h ⟨i, hi⟩

@[simp] theorem putRow_putRow_self {n : Nat} {α : Type} (t : Table n α) (i : Fin n) (x y : α) :
    putRow (putRow t i x) i y = putRow t i y :=
  table_ext fun j => by simp only [row_putRow]; split <;> rfl

@[simp] theorem putRow_row_self {n : Nat} {α : Type} (t : Table n α) (i : Fin n) : putRow t i (row t i) = t :=
  table_ext fun j => by rw [row_putRow]; split <;> simp_all

end Sys2Proof

namespace Sys2Proof.Machine

/-! ### Fields after updates -/

@[simp] theorem State.setLink_pending (s : State) (l : LinkUnit) : (s.setLink l).pending = s.pending := rfl
@[simp] theorem State.setLink_link (s : State) (l : LinkUnit) : (s.setLink l).link = l := rfl
@[simp] theorem State.setLink_regions (s : State) (l : LinkUnit) : (s.setLink l).regions = s.regions := rfl
@[simp] theorem State.setLink_slots (s : State) (l : LinkUnit) : (s.setLink l).slots = s.slots := rfl
@[simp] theorem State.setLink_initiators (s : State) (l : LinkUnit) : (s.setLink l).initiators = s.initiators := rfl
@[simp] theorem State.setLink_acceptCounter (s : State) (l : LinkUnit) : (s.setLink l).acceptCounter = s.acceptCounter := rfl
@[simp] theorem State.setLink_chains (s : State) (l : LinkUnit) : (s.setLink l).chains = s.chains := rfl
@[simp] theorem State.setLink_ports (s : State) (l : LinkUnit) : (s.setLink l).ports = s.ports := rfl
@[simp] theorem State.setLink_stations (s : State) (l : LinkUnit) : (s.setLink l).stations = s.stations := rfl
@[simp] theorem State.setLink_line (s : State) (l : LinkUnit) : (s.setLink l).line = s.line := rfl
@[simp] theorem State.setLink_events (s : State) (l : LinkUnit) : (s.setLink l).events = s.events := rfl
@[simp] theorem State.setLink_management (s : State) (l : LinkUnit) : (s.setLink l).management = s.management := rfl

@[simp] theorem State.setRegion_pending (s : State) (e : EntryId) (r : Option RegionRecord) : (s.setRegion e r).pending = s.pending := rfl
@[simp] theorem State.setRegion_link (s : State) (e : EntryId) (r : Option RegionRecord) : (s.setRegion e r).link = s.link := rfl
@[simp] theorem State.setRegion_regions (s : State) (e : EntryId) (r : Option RegionRecord) : (s.setRegion e r).regions = putRow s.regions e r := rfl
@[simp] theorem State.setRegion_slots (s : State) (e : EntryId) (r : Option RegionRecord) : (s.setRegion e r).slots = s.slots := rfl
@[simp] theorem State.setRegion_initiators (s : State) (e : EntryId) (r : Option RegionRecord) : (s.setRegion e r).initiators = s.initiators := rfl
@[simp] theorem State.setRegion_acceptCounter (s : State) (e : EntryId) (r : Option RegionRecord) : (s.setRegion e r).acceptCounter = s.acceptCounter := rfl
@[simp] theorem State.setRegion_chains (s : State) (e : EntryId) (r : Option RegionRecord) : (s.setRegion e r).chains = s.chains := rfl
@[simp] theorem State.setRegion_ports (s : State) (e : EntryId) (r : Option RegionRecord) : (s.setRegion e r).ports = s.ports := rfl
@[simp] theorem State.setRegion_stations (s : State) (e : EntryId) (r : Option RegionRecord) : (s.setRegion e r).stations = s.stations := rfl
@[simp] theorem State.setRegion_line (s : State) (e : EntryId) (r : Option RegionRecord) : (s.setRegion e r).line = s.line := rfl
@[simp] theorem State.setRegion_events (s : State) (e : EntryId) (r : Option RegionRecord) : (s.setRegion e r).events = s.events := rfl
@[simp] theorem State.setRegion_management (s : State) (e : EntryId) (r : Option RegionRecord) : (s.setRegion e r).management = s.management := rfl

@[simp] theorem State.setSlot_pending (s : State) (i : SlotId) (x : Option Slot) : (s.setSlot i x).pending = s.pending := rfl
@[simp] theorem State.setSlot_link (s : State) (i : SlotId) (x : Option Slot) : (s.setSlot i x).link = s.link := rfl
@[simp] theorem State.setSlot_regions (s : State) (i : SlotId) (x : Option Slot) : (s.setSlot i x).regions = s.regions := rfl
@[simp] theorem State.setSlot_slots (s : State) (i : SlotId) (x : Option Slot) : (s.setSlot i x).slots = putRow s.slots i x := rfl
@[simp] theorem State.setSlot_initiators (s : State) (i : SlotId) (x : Option Slot) : (s.setSlot i x).initiators = s.initiators := rfl
@[simp] theorem State.setSlot_acceptCounter (s : State) (i : SlotId) (x : Option Slot) : (s.setSlot i x).acceptCounter = s.acceptCounter := rfl
@[simp] theorem State.setSlot_chains (s : State) (i : SlotId) (x : Option Slot) : (s.setSlot i x).chains = s.chains := rfl
@[simp] theorem State.setSlot_ports (s : State) (i : SlotId) (x : Option Slot) : (s.setSlot i x).ports = s.ports := rfl
@[simp] theorem State.setSlot_stations (s : State) (i : SlotId) (x : Option Slot) : (s.setSlot i x).stations = s.stations := rfl
@[simp] theorem State.setSlot_line (s : State) (i : SlotId) (x : Option Slot) : (s.setSlot i x).line = s.line := rfl
@[simp] theorem State.setSlot_events (s : State) (i : SlotId) (x : Option Slot) : (s.setSlot i x).events = s.events := rfl
@[simp] theorem State.setSlot_management (s : State) (i : SlotId) (x : Option Slot) : (s.setSlot i x).management = s.management := rfl

@[simp] theorem State.setInitiator_pending (s : State) (k : Initiator) (r : InitiatorRecord) : (s.setInitiator k r).pending = s.pending := rfl
@[simp] theorem State.setInitiator_link (s : State) (k : Initiator) (r : InitiatorRecord) : (s.setInitiator k r).link = s.link := rfl
@[simp] theorem State.setInitiator_regions (s : State) (k : Initiator) (r : InitiatorRecord) : (s.setInitiator k r).regions = s.regions := rfl
@[simp] theorem State.setInitiator_slots (s : State) (k : Initiator) (r : InitiatorRecord) : (s.setInitiator k r).slots = s.slots := rfl
@[simp] theorem State.setInitiator_initiators (s : State) (k : Initiator) (r : InitiatorRecord) : (s.setInitiator k r).initiators = putRow s.initiators k r := rfl
@[simp] theorem State.setInitiator_acceptCounter (s : State) (k : Initiator) (r : InitiatorRecord) : (s.setInitiator k r).acceptCounter = s.acceptCounter := rfl
@[simp] theorem State.setInitiator_chains (s : State) (k : Initiator) (r : InitiatorRecord) : (s.setInitiator k r).chains = s.chains := rfl
@[simp] theorem State.setInitiator_ports (s : State) (k : Initiator) (r : InitiatorRecord) : (s.setInitiator k r).ports = s.ports := rfl
@[simp] theorem State.setInitiator_stations (s : State) (k : Initiator) (r : InitiatorRecord) : (s.setInitiator k r).stations = s.stations := rfl
@[simp] theorem State.setInitiator_line (s : State) (k : Initiator) (r : InitiatorRecord) : (s.setInitiator k r).line = s.line := rfl
@[simp] theorem State.setInitiator_events (s : State) (k : Initiator) (r : InitiatorRecord) : (s.setInitiator k r).events = s.events := rfl
@[simp] theorem State.setInitiator_management (s : State) (k : Initiator) (r : InitiatorRecord) : (s.setInitiator k r).management = s.management := rfl

@[simp] theorem State.setAcceptCounter_pending (s : State) (c : BitVec 16) : (s.setAcceptCounter c).pending = s.pending := rfl
@[simp] theorem State.setAcceptCounter_link (s : State) (c : BitVec 16) : (s.setAcceptCounter c).link = s.link := rfl
@[simp] theorem State.setAcceptCounter_regions (s : State) (c : BitVec 16) : (s.setAcceptCounter c).regions = s.regions := rfl
@[simp] theorem State.setAcceptCounter_slots (s : State) (c : BitVec 16) : (s.setAcceptCounter c).slots = s.slots := rfl
@[simp] theorem State.setAcceptCounter_initiators (s : State) (c : BitVec 16) : (s.setAcceptCounter c).initiators = s.initiators := rfl
@[simp] theorem State.setAcceptCounter_acceptCounter (s : State) (c : BitVec 16) : (s.setAcceptCounter c).acceptCounter = c := rfl
@[simp] theorem State.setAcceptCounter_chains (s : State) (c : BitVec 16) : (s.setAcceptCounter c).chains = s.chains := rfl
@[simp] theorem State.setAcceptCounter_ports (s : State) (c : BitVec 16) : (s.setAcceptCounter c).ports = s.ports := rfl
@[simp] theorem State.setAcceptCounter_stations (s : State) (c : BitVec 16) : (s.setAcceptCounter c).stations = s.stations := rfl
@[simp] theorem State.setAcceptCounter_line (s : State) (c : BitVec 16) : (s.setAcceptCounter c).line = s.line := rfl
@[simp] theorem State.setAcceptCounter_events (s : State) (c : BitVec 16) : (s.setAcceptCounter c).events = s.events := rfl
@[simp] theorem State.setAcceptCounter_management (s : State) (c : BitVec 16) : (s.setAcceptCounter c).management = s.management := rfl

@[simp] theorem State.setChain_pending (s : State) (k : Initiator) (c : Chain) : (s.setChain k c).pending = s.pending := rfl
@[simp] theorem State.setChain_link (s : State) (k : Initiator) (c : Chain) : (s.setChain k c).link = s.link := rfl
@[simp] theorem State.setChain_regions (s : State) (k : Initiator) (c : Chain) : (s.setChain k c).regions = s.regions := rfl
@[simp] theorem State.setChain_slots (s : State) (k : Initiator) (c : Chain) : (s.setChain k c).slots = s.slots := rfl
@[simp] theorem State.setChain_initiators (s : State) (k : Initiator) (c : Chain) : (s.setChain k c).initiators = s.initiators := rfl
@[simp] theorem State.setChain_acceptCounter (s : State) (k : Initiator) (c : Chain) : (s.setChain k c).acceptCounter = s.acceptCounter := rfl
@[simp] theorem State.setChain_chains (s : State) (k : Initiator) (c : Chain) : (s.setChain k c).chains = putRow s.chains k c := rfl
@[simp] theorem State.setChain_ports (s : State) (k : Initiator) (c : Chain) : (s.setChain k c).ports = s.ports := rfl
@[simp] theorem State.setChain_stations (s : State) (k : Initiator) (c : Chain) : (s.setChain k c).stations = s.stations := rfl
@[simp] theorem State.setChain_line (s : State) (k : Initiator) (c : Chain) : (s.setChain k c).line = s.line := rfl
@[simp] theorem State.setChain_events (s : State) (k : Initiator) (c : Chain) : (s.setChain k c).events = s.events := rfl
@[simp] theorem State.setChain_management (s : State) (k : Initiator) (c : Chain) : (s.setChain k c).management = s.management := rfl

@[simp] theorem State.setPort_pending (s : State) (p : PortId) (x : Port) : (s.setPort p x).pending = s.pending := rfl
@[simp] theorem State.setPort_link (s : State) (p : PortId) (x : Port) : (s.setPort p x).link = s.link := rfl
@[simp] theorem State.setPort_regions (s : State) (p : PortId) (x : Port) : (s.setPort p x).regions = s.regions := rfl
@[simp] theorem State.setPort_slots (s : State) (p : PortId) (x : Port) : (s.setPort p x).slots = s.slots := rfl
@[simp] theorem State.setPort_initiators (s : State) (p : PortId) (x : Port) : (s.setPort p x).initiators = s.initiators := rfl
@[simp] theorem State.setPort_acceptCounter (s : State) (p : PortId) (x : Port) : (s.setPort p x).acceptCounter = s.acceptCounter := rfl
@[simp] theorem State.setPort_chains (s : State) (p : PortId) (x : Port) : (s.setPort p x).chains = s.chains := rfl
@[simp] theorem State.setPort_ports (s : State) (p : PortId) (x : Port) : (s.setPort p x).ports = putRow s.ports p x := rfl
@[simp] theorem State.setPort_stations (s : State) (p : PortId) (x : Port) : (s.setPort p x).stations = s.stations := rfl
@[simp] theorem State.setPort_line (s : State) (p : PortId) (x : Port) : (s.setPort p x).line = s.line := rfl
@[simp] theorem State.setPort_events (s : State) (p : PortId) (x : Port) : (s.setPort p x).events = s.events := rfl
@[simp] theorem State.setPort_management (s : State) (p : PortId) (x : Port) : (s.setPort p x).management = s.management := rfl

@[simp] theorem State.setStation_pending (s : State) (n : StationId) (x : Station) : (s.setStation n x).pending = s.pending := rfl
@[simp] theorem State.setStation_link (s : State) (n : StationId) (x : Station) : (s.setStation n x).link = s.link := rfl
@[simp] theorem State.setStation_regions (s : State) (n : StationId) (x : Station) : (s.setStation n x).regions = s.regions := rfl
@[simp] theorem State.setStation_slots (s : State) (n : StationId) (x : Station) : (s.setStation n x).slots = s.slots := rfl
@[simp] theorem State.setStation_initiators (s : State) (n : StationId) (x : Station) : (s.setStation n x).initiators = s.initiators := rfl
@[simp] theorem State.setStation_acceptCounter (s : State) (n : StationId) (x : Station) : (s.setStation n x).acceptCounter = s.acceptCounter := rfl
@[simp] theorem State.setStation_chains (s : State) (n : StationId) (x : Station) : (s.setStation n x).chains = s.chains := rfl
@[simp] theorem State.setStation_ports (s : State) (n : StationId) (x : Station) : (s.setStation n x).ports = s.ports := rfl
@[simp] theorem State.setStation_stations (s : State) (n : StationId) (x : Station) : (s.setStation n x).stations = putRow s.stations n x := rfl
@[simp] theorem State.setStation_line (s : State) (n : StationId) (x : Station) : (s.setStation n x).line = s.line := rfl
@[simp] theorem State.setStation_events (s : State) (n : StationId) (x : Station) : (s.setStation n x).events = s.events := rfl
@[simp] theorem State.setStation_management (s : State) (n : StationId) (x : Station) : (s.setStation n x).management = s.management := rfl

@[simp] theorem State.setLine_pending (s : State) (l : LineUnit) : (s.setLine l).pending = s.pending := rfl
@[simp] theorem State.setLine_link (s : State) (l : LineUnit) : (s.setLine l).link = s.link := rfl
@[simp] theorem State.setLine_regions (s : State) (l : LineUnit) : (s.setLine l).regions = s.regions := rfl
@[simp] theorem State.setLine_slots (s : State) (l : LineUnit) : (s.setLine l).slots = s.slots := rfl
@[simp] theorem State.setLine_initiators (s : State) (l : LineUnit) : (s.setLine l).initiators = s.initiators := rfl
@[simp] theorem State.setLine_acceptCounter (s : State) (l : LineUnit) : (s.setLine l).acceptCounter = s.acceptCounter := rfl
@[simp] theorem State.setLine_chains (s : State) (l : LineUnit) : (s.setLine l).chains = s.chains := rfl
@[simp] theorem State.setLine_ports (s : State) (l : LineUnit) : (s.setLine l).ports = s.ports := rfl
@[simp] theorem State.setLine_stations (s : State) (l : LineUnit) : (s.setLine l).stations = s.stations := rfl
@[simp] theorem State.setLine_line (s : State) (l : LineUnit) : (s.setLine l).line = l := rfl
@[simp] theorem State.setLine_events (s : State) (l : LineUnit) : (s.setLine l).events = s.events := rfl
@[simp] theorem State.setLine_management (s : State) (l : LineUnit) : (s.setLine l).management = s.management := rfl

@[simp] theorem State.setEvents_pending (s : State) (e : EventUnit) : (s.setEvents e).pending = s.pending := rfl
@[simp] theorem State.setEvents_link (s : State) (e : EventUnit) : (s.setEvents e).link = s.link := rfl
@[simp] theorem State.setEvents_regions (s : State) (e : EventUnit) : (s.setEvents e).regions = s.regions := rfl
@[simp] theorem State.setEvents_slots (s : State) (e : EventUnit) : (s.setEvents e).slots = s.slots := rfl
@[simp] theorem State.setEvents_initiators (s : State) (e : EventUnit) : (s.setEvents e).initiators = s.initiators := rfl
@[simp] theorem State.setEvents_acceptCounter (s : State) (e : EventUnit) : (s.setEvents e).acceptCounter = s.acceptCounter := rfl
@[simp] theorem State.setEvents_chains (s : State) (e : EventUnit) : (s.setEvents e).chains = s.chains := rfl
@[simp] theorem State.setEvents_ports (s : State) (e : EventUnit) : (s.setEvents e).ports = s.ports := rfl
@[simp] theorem State.setEvents_stations (s : State) (e : EventUnit) : (s.setEvents e).stations = s.stations := rfl
@[simp] theorem State.setEvents_line (s : State) (e : EventUnit) : (s.setEvents e).line = s.line := rfl
@[simp] theorem State.setEvents_events (s : State) (e : EventUnit) : (s.setEvents e).events = e := rfl
@[simp] theorem State.setEvents_management (s : State) (e : EventUnit) : (s.setEvents e).management = s.management := rfl

@[simp] theorem State.setManagement_pending (s : State) (m : ManagementUnit) : (s.setManagement m).pending = s.pending := rfl
@[simp] theorem State.setManagement_link (s : State) (m : ManagementUnit) : (s.setManagement m).link = s.link := rfl
@[simp] theorem State.setManagement_regions (s : State) (m : ManagementUnit) : (s.setManagement m).regions = s.regions := rfl
@[simp] theorem State.setManagement_slots (s : State) (m : ManagementUnit) : (s.setManagement m).slots = s.slots := rfl
@[simp] theorem State.setManagement_initiators (s : State) (m : ManagementUnit) : (s.setManagement m).initiators = s.initiators := rfl
@[simp] theorem State.setManagement_acceptCounter (s : State) (m : ManagementUnit) : (s.setManagement m).acceptCounter = s.acceptCounter := rfl
@[simp] theorem State.setManagement_chains (s : State) (m : ManagementUnit) : (s.setManagement m).chains = s.chains := rfl
@[simp] theorem State.setManagement_ports (s : State) (m : ManagementUnit) : (s.setManagement m).ports = s.ports := rfl
@[simp] theorem State.setManagement_stations (s : State) (m : ManagementUnit) : (s.setManagement m).stations = s.stations := rfl
@[simp] theorem State.setManagement_line (s : State) (m : ManagementUnit) : (s.setManagement m).line = s.line := rfl
@[simp] theorem State.setManagement_events (s : State) (m : ManagementUnit) : (s.setManagement m).events = s.events := rfl
@[simp] theorem State.setManagement_management (s : State) (m : ManagementUnit) : (s.setManagement m).management = m := rfl

end Sys2Proof.Machine
end

