-- ==== Sys2Proof/Laws/Frames.lean ====
section
/-! SUPPORT. What each shared operation leaves alone: one lemma for each, which lists every field of the state that the operation
cannot change. They are simp lemmas, so that a proof about an untouched field never unfolds an operation. -/

namespace Sys2Proof.Machine

/-- What holds of one round of a loop over a list holds of the loop. -/
theorem forEach_keeps {α β : Type} (g : State → β) (f : α → State → State) (h : ∀ x s, g (f x s) = g s) (l : List α) :
    ∀ s, g (forEach f l s) = g s := by
  induction l with
  | nil => intro s; rfl
  | cons x l ih => intro s; rw [forEach, ih, h]

@[simp] theorem handOver_frame (m : Message) (s : State) :
    (handOver m s).pending = s.pending ∧ (handOver m s).regions = s.regions ∧ (handOver m s).slots = s.slots ∧
      (handOver m s).initiators = s.initiators ∧ (handOver m s).acceptCounter = s.acceptCounter ∧
      (handOver m s).chains = s.chains ∧ (handOver m s).ports = s.ports ∧ (handOver m s).stations = s.stations ∧
      (handOver m s).line = s.line ∧ (handOver m s).events = s.events ∧ (handOver m s).management = s.management := by simp [handOver]

@[simp] theorem respond_frame (r : Response) (s : State) :
    (respond r s).pending = s.pending ∧ (respond r s).regions = s.regions ∧ (respond r s).slots = s.slots ∧
      (respond r s).initiators = s.initiators ∧ (respond r s).acceptCounter = s.acceptCounter ∧
      (respond r s).chains = s.chains ∧ (respond r s).ports = s.ports ∧ (respond r s).stations = s.stations ∧
      (respond r s).line = s.line ∧ (respond r s).events = s.events ∧ (respond r s).management = s.management := by simp [respond]

@[simp] theorem answerKey_frame (k : Initiator) (t : Tag) (a : Answer) (sm : Option Summary) (s : State) :
    (answerKey k t a sm s).pending = s.pending ∧ (answerKey k t a sm s).regions = s.regions ∧
      (answerKey k t a sm s).slots = s.slots ∧ (answerKey k t a sm s).initiators = s.initiators ∧
      (answerKey k t a sm s).acceptCounter = s.acceptCounter ∧ (answerKey k t a sm s).chains = s.chains ∧
      (answerKey k t a sm s).ports = s.ports ∧ (answerKey k t a sm s).stations = s.stations ∧
      (answerKey k t a sm s).line = s.line ∧ (answerKey k t a sm s).events = s.events ∧
      (answerKey k t a sm s).management = s.management := by simp [answerKey]

@[simp] theorem handNotice_frame (s : State) :
    (handNotice s).pending = s.pending ∧ (handNotice s).regions = s.regions ∧ (handNotice s).slots = s.slots ∧
      (handNotice s).initiators = s.initiators ∧ (handNotice s).acceptCounter = s.acceptCounter ∧
      (handNotice s).chains = s.chains ∧ (handNotice s).ports = s.ports ∧ (handNotice s).stations = s.stations ∧
      (handNotice s).line = s.line ∧ (handNotice s).events = s.events ∧ (handNotice s).management = s.management := by simp [handNotice]

@[simp] theorem raiseIncident_frame (k : IncidentKind) (d : Option Detail) (s : State) :
    (raiseIncident k d s).pending = s.pending ∧ (raiseIncident k d s).link = s.link ∧
      (raiseIncident k d s).regions = s.regions ∧ (raiseIncident k d s).slots = s.slots ∧
      (raiseIncident k d s).initiators = s.initiators ∧ (raiseIncident k d s).acceptCounter = s.acceptCounter ∧
      (raiseIncident k d s).chains = s.chains ∧ (raiseIncident k d s).ports = s.ports ∧
      (raiseIncident k d s).stations = s.stations ∧ (raiseIncident k d s).line = s.line ∧
      (raiseIncident k d s).management = s.management := by simp [raiseIncident]

@[simp] theorem lowerOccupancy_frame (k : Initiator) (s : State) :
    (lowerOccupancy k s).pending = s.pending ∧ (lowerOccupancy k s).link = s.link ∧
      (lowerOccupancy k s).regions = s.regions ∧ (lowerOccupancy k s).slots = s.slots ∧
      (lowerOccupancy k s).acceptCounter = s.acceptCounter ∧ (lowerOccupancy k s).chains = s.chains ∧
      (lowerOccupancy k s).ports = s.ports ∧ (lowerOccupancy k s).stations = s.stations ∧
      (lowerOccupancy k s).line = s.line ∧ (lowerOccupancy k s).events = s.events ∧
      (lowerOccupancy k s).management = s.management := by simp [lowerOccupancy]

@[simp] theorem raiseOccupancy_frame (k : Initiator) (s : State) :
    (raiseOccupancy k s).pending = s.pending ∧ (raiseOccupancy k s).link = s.link ∧
      (raiseOccupancy k s).regions = s.regions ∧ (raiseOccupancy k s).slots = s.slots ∧
      (raiseOccupancy k s).acceptCounter = s.acceptCounter ∧ (raiseOccupancy k s).chains = s.chains ∧
      (raiseOccupancy k s).ports = s.ports ∧ (raiseOccupancy k s).stations = s.stations ∧
      (raiseOccupancy k s).line = s.line ∧ (raiseOccupancy k s).events = s.events ∧
      (raiseOccupancy k s).management = s.management := by simp [raiseOccupancy]

@[simp] theorem freeSlotOf_frame (i : SlotId) (k : Initiator) (s : State) :
    (freeSlotOf i k s).pending = s.pending ∧ (freeSlotOf i k s).link = s.link ∧ (freeSlotOf i k s).regions = s.regions ∧
      (freeSlotOf i k s).acceptCounter = s.acceptCounter ∧ (freeSlotOf i k s).chains = s.chains ∧
      (freeSlotOf i k s).ports = s.ports ∧ (freeSlotOf i k s).stations = s.stations ∧ (freeSlotOf i k s).line = s.line ∧
      (freeSlotOf i k s).events = s.events ∧ (freeSlotOf i k s).management = s.management := by simp [freeSlotOf]

@[simp] theorem endAbandonment_frame (k : Initiator) (s : State) :
    (endAbandonment k s).pending = s.pending ∧ (endAbandonment k s).regions = s.regions ∧
      (endAbandonment k s).slots = s.slots ∧ (endAbandonment k s).acceptCounter = s.acceptCounter ∧
      (endAbandonment k s).chains = s.chains ∧ (endAbandonment k s).ports = s.ports ∧
      (endAbandonment k s).stations = s.stations ∧ (endAbandonment k s).line = s.line ∧
      (endAbandonment k s).events = s.events ∧ (endAbandonment k s).management = s.management := by
  unfold endAbandonment
  try dsimp only
  (repeat' split) <;> simp

@[simp] theorem answerSlot_frame (i : SlotId) (x : Slot) (a : Answer) (s : State) :
    (answerSlot i x a s).pending = s.pending ∧ (answerSlot i x a s).regions = s.regions ∧
      (answerSlot i x a s).initiators = s.initiators ∧ (answerSlot i x a s).acceptCounter = s.acceptCounter ∧
      (answerSlot i x a s).chains = s.chains ∧ (answerSlot i x a s).ports = s.ports ∧
      (answerSlot i x a s).stations = s.stations ∧ (answerSlot i x a s).line = s.line ∧
      (answerSlot i x a s).events = s.events ∧ (answerSlot i x a s).management = s.management := by
  unfold answerSlot
  try dsimp only
  (repeat' split) <;> simp

@[simp] theorem answerRetire_frame (e : EntryId) (s : State) :
    (answerRetire e s).pending = s.pending ∧ (answerRetire e s).regions = s.regions ∧
      (answerRetire e s).acceptCounter = s.acceptCounter ∧ (answerRetire e s).chains = s.chains ∧
      (answerRetire e s).ports = s.ports ∧ (answerRetire e s).stations = s.stations ∧ (answerRetire e s).line = s.line ∧
      (answerRetire e s).events = s.events := by
  unfold answerRetire
  try dsimp only
  (repeat' split) <;> simp

@[simp] theorem raiseCount_frame (e : EntryId) (s : State) :
    (raiseCount e s).pending = s.pending ∧ (raiseCount e s).link = s.link ∧ (raiseCount e s).slots = s.slots ∧
      (raiseCount e s).initiators = s.initiators ∧ (raiseCount e s).acceptCounter = s.acceptCounter ∧
      (raiseCount e s).chains = s.chains ∧ (raiseCount e s).ports = s.ports ∧ (raiseCount e s).stations = s.stations ∧
      (raiseCount e s).line = s.line ∧ (raiseCount e s).events = s.events ∧ (raiseCount e s).management = s.management := by
  unfold raiseCount
  try dsimp only
  (repeat' split) <;> simp

@[simp] theorem lowerCount_frame (e : EntryId) (s : State) :
    (lowerCount e s).pending = s.pending ∧ (lowerCount e s).acceptCounter = s.acceptCounter ∧
      (lowerCount e s).chains = s.chains ∧ (lowerCount e s).ports = s.ports ∧ (lowerCount e s).stations = s.stations ∧
      (lowerCount e s).line = s.line ∧ (lowerCount e s).events = s.events := by
  unfold lowerCount
  try dsimp only
  (repeat' split) <;> simp

@[simp] theorem lowerWorkCount_frame (w : Work) (s : State) :
    (lowerWorkCount w s).pending = s.pending ∧ (lowerWorkCount w s).acceptCounter = s.acceptCounter ∧
      (lowerWorkCount w s).chains = s.chains ∧ (lowerWorkCount w s).ports = s.ports ∧
      (lowerWorkCount w s).stations = s.stations ∧ (lowerWorkCount w s).line = s.line ∧
      (lowerWorkCount w s).events = s.events := by
  unfold lowerWorkCount
  try dsimp only
  (repeat' split) <;> simp

@[simp] theorem reportToChain_frame (i : SlotId) (x : Slot) (a : Answer) (s : State) :
    (reportToChain i x a s).pending = s.pending ∧ (reportToChain i x a s).link = s.link ∧
      (reportToChain i x a s).regions = s.regions ∧ (reportToChain i x a s).slots = s.slots ∧
      (reportToChain i x a s).initiators = s.initiators ∧ (reportToChain i x a s).acceptCounter = s.acceptCounter ∧
      (reportToChain i x a s).ports = s.ports ∧ (reportToChain i x a s).stations = s.stations ∧
      (reportToChain i x a s).line = s.line ∧ (reportToChain i x a s).events = s.events ∧
      (reportToChain i x a s).management = s.management := by
  unfold reportToChain
  try dsimp only
  (repeat' split) <;> simp

@[simp] theorem leaveChain_frame (i : SlotId) (x : Slot) (s : State) :
    (leaveChain i x s).pending = s.pending ∧ (leaveChain i x s).link = s.link ∧ (leaveChain i x s).regions = s.regions ∧
      (leaveChain i x s).slots = s.slots ∧ (leaveChain i x s).initiators = s.initiators ∧
      (leaveChain i x s).acceptCounter = s.acceptCounter ∧ (leaveChain i x s).ports = s.ports ∧
      (leaveChain i x s).stations = s.stations ∧ (leaveChain i x s).line = s.line ∧ (leaveChain i x s).events = s.events ∧
      (leaveChain i x s).management = s.management := by
  unfold leaveChain
  try dsimp only
  (repeat' split) <;> simp

@[simp] theorem releaseSlot_frame (i : SlotId) (x : Slot) (s : State) :
    (releaseSlot i x s).pending = s.pending ∧ (releaseSlot i x s).acceptCounter = s.acceptCounter ∧
      (releaseSlot i x s).ports = s.ports ∧ (releaseSlot i x s).stations = s.stations ∧ (releaseSlot i x s).line = s.line ∧
      (releaseSlot i x s).events = s.events := by simp [releaseSlot]

@[simp] theorem finishSlot_frame (i : SlotId) (a : Answer) (s : State) :
    (finishSlot i a s).pending = s.pending ∧ (finishSlot i a s).acceptCounter = s.acceptCounter ∧
      (finishSlot i a s).ports = s.ports ∧ (finishSlot i a s).stations = s.stations ∧ (finishSlot i a s).line = s.line ∧
      (finishSlot i a s).events = s.events := by
  unfold finishSlot
  try dsimp only
  (repeat' split) <;> simp

@[simp] theorem skipSlots_frame (l : List SlotId) (s : State) :
    (skipSlots l s).pending = s.pending ∧ (skipSlots l s).acceptCounter = s.acceptCounter ∧
      (skipSlots l s).ports = s.ports ∧ (skipSlots l s).stations = s.stations ∧ (skipSlots l s).line = s.line ∧
      (skipSlots l s).events = s.events := by
  induction l generalizing s with
  | nil => simp [skipSlots]
  | cons i l ih => simp [skipSlots, ih]

@[simp] theorem sweepChain_frame (k : Initiator) (s : State) :
    (sweepChain k s).pending = s.pending ∧ (sweepChain k s).acceptCounter = s.acceptCounter ∧
      (sweepChain k s).ports = s.ports ∧ (sweepChain k s).stations = s.stations ∧ (sweepChain k s).line = s.line ∧
      (sweepChain k s).events = s.events := by simp [sweepChain]

@[simp] theorem failSlot_frame (i : SlotId) (c : FaultCode) (s : State) :
    (failSlot i c s).pending = s.pending ∧ (failSlot i c s).acceptCounter = s.acceptCounter ∧
      (failSlot i c s).ports = s.ports ∧ (failSlot i c s).stations = s.stations ∧ (failSlot i c s).line = s.line ∧
      (failSlot i c s).events = s.events := by
  unfold failSlot
  try dsimp only
  (repeat' split) <;> simp

@[simp] theorem setSlotState_frame (i : SlotId) (st : SlotState) (s : State) :
    (setSlotState i st s).pending = s.pending ∧ (setSlotState i st s).link = s.link ∧
      (setSlotState i st s).regions = s.regions ∧ (setSlotState i st s).initiators = s.initiators ∧
      (setSlotState i st s).acceptCounter = s.acceptCounter ∧ (setSlotState i st s).chains = s.chains ∧
      (setSlotState i st s).ports = s.ports ∧ (setSlotState i st s).stations = s.stations ∧
      (setSlotState i st s).line = s.line ∧ (setSlotState i st s).events = s.events ∧
      (setSlotState i st s).management = s.management := by
  unfold setSlotState
  try dsimp only
  (repeat' split) <;> simp

@[simp] theorem issueSlot_frame (p : PortId) (i : SlotId) (s : State) :
    (issueSlot p i s).pending = s.pending ∧ (issueSlot p i s).link = s.link ∧ (issueSlot p i s).initiators = s.initiators ∧
      (issueSlot p i s).acceptCounter = s.acceptCounter ∧ (issueSlot p i s).chains = s.chains ∧
      (issueSlot p i s).stations = s.stations ∧ (issueSlot p i s).line = s.line ∧ (issueSlot p i s).events = s.events ∧
      (issueSlot p i s).management = s.management := by
  unfold issueSlot
  try dsimp only
  (repeat' split) <;> simp

@[simp] theorem grantHold_frame (p : PortId) (s : State) :
    (grantHold p s).pending = s.pending ∧ (grantHold p s).link = s.link ∧ (grantHold p s).regions = s.regions ∧
      (grantHold p s).slots = s.slots ∧ (grantHold p s).initiators = s.initiators ∧
      (grantHold p s).acceptCounter = s.acceptCounter ∧ (grantHold p s).chains = s.chains ∧
      (grantHold p s).stations = s.stations ∧ (grantHold p s).line = s.line ∧ (grantHold p s).events = s.events ∧
      (grantHold p s).management = s.management := by simp [grantHold]

@[simp] theorem arbiter_frame (p : PortId) (s : State) :
    (arbiter p s).pending = s.pending ∧ (arbiter p s).link = s.link ∧ (arbiter p s).initiators = s.initiators ∧
      (arbiter p s).acceptCounter = s.acceptCounter ∧ (arbiter p s).chains = s.chains ∧
      (arbiter p s).stations = s.stations ∧ (arbiter p s).line = s.line ∧ (arbiter p s).events = s.events ∧
      (arbiter p s).management = s.management := by
  unfold arbiter
  try dsimp only
  (repeat' split) <;> simp

@[simp] theorem joinPort_frame (p : PortId) (i : SlotId) (s : State) :
    (joinPort p i s).pending = s.pending ∧ (joinPort p i s).acceptCounter = s.acceptCounter ∧
      (joinPort p i s).stations = s.stations ∧ (joinPort p i s).line = s.line ∧ (joinPort p i s).events = s.events := by
  unfold joinPort
  try dsimp only
  (repeat' split) <;> simp

@[simp] theorem loseUnlocks_frame (l : List SlotId) (s : State) :
    (loseUnlocks l s).pending = s.pending ∧ (loseUnlocks l s).acceptCounter = s.acceptCounter ∧
      (loseUnlocks l s).ports = s.ports ∧ (loseUnlocks l s).stations = s.stations ∧ (loseUnlocks l s).line = s.line ∧
      (loseUnlocks l s).events = s.events := by
  induction l generalizing s with
  | nil => simp [loseUnlocks]
  | cons i l ih => simp [loseUnlocks, ih]

@[simp] theorem dropLock_frame (p : PortId) (l : LockRecord) (x : Bool) (s : State) :
    (dropLock p l x s).pending = s.pending ∧ (dropLock p l x s).acceptCounter = s.acceptCounter ∧
      (dropLock p l x s).stations = s.stations ∧ (dropLock p l x s).line = s.line := by
  unfold dropLock
  try dsimp only
  (repeat' split) <;> simp

@[simp] theorem removeLock_frame (p : PortId) (x : Bool) (s : State) :
    (removeLock p x s).pending = s.pending ∧ (removeLock p x s).acceptCounter = s.acceptCounter ∧
      (removeLock p x s).stations = s.stations ∧ (removeLock p x s).line = s.line := by
  unfold removeLock
  try dsimp only
  (repeat' split) <;> simp

@[simp] theorem takeRaise_frame (p : PortId) (s : State) :
    (takeRaise p s).pending = s.pending ∧ (takeRaise p s).link = s.link ∧ (takeRaise p s).initiators = s.initiators ∧
      (takeRaise p s).acceptCounter = s.acceptCounter ∧ (takeRaise p s).chains = s.chains ∧
      (takeRaise p s).stations = s.stations ∧ (takeRaise p s).line = s.line ∧ (takeRaise p s).events = s.events ∧
      (takeRaise p s).management = s.management := by
  unfold takeRaise
  try dsimp only
  (repeat' split) <;> simp

@[simp] theorem takeBitSlot_frame (i : SlotId) (s : State) :
    (takeBitSlot i s).pending = s.pending ∧ (takeBitSlot i s).acceptCounter = s.acceptCounter ∧
      (takeBitSlot i s).ports = s.ports ∧ (takeBitSlot i s).stations = s.stations ∧ (takeBitSlot i s).events = s.events := by
  unfold takeBitSlot
  try dsimp only
  (repeat' split) <;> simp

@[simp] theorem takePoll_frame (n : StationId) (s : State) :
    (takePoll n s).pending = s.pending ∧ (takePoll n s).link = s.link ∧ (takePoll n s).regions = s.regions ∧
      (takePoll n s).slots = s.slots ∧ (takePoll n s).initiators = s.initiators ∧
      (takePoll n s).acceptCounter = s.acceptCounter ∧ (takePoll n s).chains = s.chains ∧ (takePoll n s).ports = s.ports ∧
      (takePoll n s).stations = s.stations ∧ (takePoll n s).events = s.events ∧ (takePoll n s).management = s.management := by simp [takePoll]

@[simp] theorem lineArbiterFor_frame (n : Nat) (s : State) :
    (lineArbiterFor n s).pending = s.pending ∧ (lineArbiterFor n s).acceptCounter = s.acceptCounter ∧
      (lineArbiterFor n s).ports = s.ports ∧ (lineArbiterFor n s).stations = s.stations ∧
      (lineArbiterFor n s).events = s.events := by
  induction n generalizing s with
  | zero => simp [lineArbiterFor]
  | succ n ih =>
    unfold lineArbiterFor
    (repeat' split) <;> simp [ih]

@[simp] theorem lineArbiter_frame (s : State) :
    (lineArbiter s).pending = s.pending ∧ (lineArbiter s).acceptCounter = s.acceptCounter ∧
      (lineArbiter s).ports = s.ports ∧ (lineArbiter s).stations = s.stations ∧ (lineArbiter s).events = s.events := by simp [lineArbiter]

@[simp] theorem joinLine_frame (i : SlotId) (s : State) :
    (joinLine i s).pending = s.pending ∧ (joinLine i s).acceptCounter = s.acceptCounter ∧ (joinLine i s).ports = s.ports ∧
      (joinLine i s).stations = s.stations ∧ (joinLine i s).events = s.events := by simp [joinLine]

@[simp] theorem beginCycle_frame (s : State) :
    (beginCycle s).pending = s.pending ∧ (beginCycle s).link = s.link ∧ (beginCycle s).regions = s.regions ∧
      (beginCycle s).slots = s.slots ∧ (beginCycle s).initiators = s.initiators ∧
      (beginCycle s).acceptCounter = s.acceptCounter ∧ (beginCycle s).chains = s.chains ∧ (beginCycle s).ports = s.ports ∧
      (beginCycle s).stations = s.stations ∧ (beginCycle s).events = s.events ∧ (beginCycle s).management = s.management := by simp [beginCycle]

@[simp] theorem checkCycleEnd_frame (s : State) :
    (checkCycleEnd s).pending = s.pending ∧ (checkCycleEnd s).link = s.link ∧ (checkCycleEnd s).regions = s.regions ∧
      (checkCycleEnd s).slots = s.slots ∧ (checkCycleEnd s).initiators = s.initiators ∧
      (checkCycleEnd s).acceptCounter = s.acceptCounter ∧ (checkCycleEnd s).chains = s.chains ∧
      (checkCycleEnd s).ports = s.ports ∧ (checkCycleEnd s).stations = s.stations ∧ (checkCycleEnd s).events = s.events ∧
      (checkCycleEnd s).management = s.management := by
  unfold checkCycleEnd
  try dsimp only
  (repeat' split) <;> simp

@[simp] theorem joinDestination_frame (i : SlotId) (w : Work) (s : State) :
    (joinDestination i w s).pending = s.pending ∧ (joinDestination i w s).acceptCounter = s.acceptCounter ∧
      (joinDestination i w s).stations = s.stations ∧ (joinDestination i w s).events = s.events := by
  unfold joinDestination
  try dsimp only
  (repeat' split) <;> simp

@[simp] theorem advanceChain_frame (k : Initiator) (s : State) :
    (advanceChain k s).pending = s.pending ∧ (advanceChain k s).acceptCounter = s.acceptCounter ∧
      (advanceChain k s).stations = s.stations ∧ (advanceChain k s).events = s.events := by
  unfold advanceChain
  try dsimp only
  (repeat' split) <;> simp

@[simp] theorem completeSlot_frame (i : SlotId) (a : Answer) (s : State) :
    (completeSlot i a s).pending = s.pending ∧ (completeSlot i a s).acceptCounter = s.acceptCounter ∧
      (completeSlot i a s).stations = s.stations ∧ (completeSlot i a s).events = s.events := by
  unfold completeSlot
  try dsimp only
  (repeat' split) <;> simp

@[simp] theorem setDelivered_frame (n : StationId) (c : Option Positions) (s : State) :
    (setDelivered n c s).pending = s.pending ∧ (setDelivered n c s).link = s.link ∧
      (setDelivered n c s).regions = s.regions ∧ (setDelivered n c s).slots = s.slots ∧
      (setDelivered n c s).initiators = s.initiators ∧ (setDelivered n c s).acceptCounter = s.acceptCounter ∧
      (setDelivered n c s).chains = s.chains ∧ (setDelivered n c s).ports = s.ports ∧ (setDelivered n c s).line = s.line ∧
      (setDelivered n c s).events = s.events ∧ (setDelivered n c s).management = s.management := by simp [setDelivered]

@[simp] theorem copyForSource_frame (src : Source) (s : State) :
    (copyForSource src s).pending = s.pending ∧ (copyForSource src s).link = s.link ∧
      (copyForSource src s).regions = s.regions ∧ (copyForSource src s).slots = s.slots ∧
      (copyForSource src s).initiators = s.initiators ∧ (copyForSource src s).acceptCounter = s.acceptCounter ∧
      (copyForSource src s).chains = s.chains ∧ (copyForSource src s).ports = s.ports ∧
      (copyForSource src s).line = s.line ∧ (copyForSource src s).events = s.events ∧
      (copyForSource src s).management = s.management := by
  unfold copyForSource
  try dsimp only
  (repeat' split) <;> simp

@[simp] theorem buildMessage_frame (src : Source) (s : State) :
    (buildMessage src s).pending = s.pending ∧ (buildMessage src s).regions = s.regions ∧
      (buildMessage src s).slots = s.slots ∧ (buildMessage src s).initiators = s.initiators ∧
      (buildMessage src s).acceptCounter = s.acceptCounter ∧ (buildMessage src s).chains = s.chains ∧
      (buildMessage src s).ports = s.ports ∧ (buildMessage src s).line = s.line ∧
      (buildMessage src s).management = s.management := by simp [buildMessage]

@[simp] theorem selectEvent_frame (s : State) :
    (selectEvent s).pending = s.pending ∧ (selectEvent s).regions = s.regions ∧ (selectEvent s).slots = s.slots ∧
      (selectEvent s).initiators = s.initiators ∧ (selectEvent s).acceptCounter = s.acceptCounter ∧
      (selectEvent s).chains = s.chains ∧ (selectEvent s).ports = s.ports ∧ (selectEvent s).line = s.line ∧
      (selectEvent s).management = s.management := by
  unfold selectEvent
  try dsimp only
  (repeat' split) <;> simp

@[simp] theorem dropCopy_frame (src : Source) (s : State) :
    (dropCopy src s).pending = s.pending ∧ (dropCopy src s).link = s.link ∧ (dropCopy src s).regions = s.regions ∧
      (dropCopy src s).slots = s.slots ∧ (dropCopy src s).initiators = s.initiators ∧
      (dropCopy src s).acceptCounter = s.acceptCounter ∧ (dropCopy src s).chains = s.chains ∧
      (dropCopy src s).ports = s.ports ∧ (dropCopy src s).line = s.line ∧ (dropCopy src s).events = s.events ∧
      (dropCopy src s).management = s.management := by
  unfold dropCopy
  try dsimp only
  (repeat' split) <;> simp

@[simp] theorem withdrawMessage_frame (s : State) :
    (withdrawMessage s).pending = s.pending ∧ (withdrawMessage s).link = s.link ∧ (withdrawMessage s).regions = s.regions ∧
      (withdrawMessage s).slots = s.slots ∧ (withdrawMessage s).initiators = s.initiators ∧
      (withdrawMessage s).acceptCounter = s.acceptCounter ∧ (withdrawMessage s).chains = s.chains ∧
      (withdrawMessage s).ports = s.ports ∧ (withdrawMessage s).line = s.line ∧
      (withdrawMessage s).management = s.management := by
  unfold withdrawMessage
  try dsimp only
  (repeat' split) <;> simp

@[simp] theorem clearCarried_frame (m : EventMessage) (s : State) :
    (clearCarried m s).pending = s.pending ∧ (clearCarried m s).link = s.link ∧ (clearCarried m s).regions = s.regions ∧
      (clearCarried m s).slots = s.slots ∧ (clearCarried m s).initiators = s.initiators ∧
      (clearCarried m s).acceptCounter = s.acceptCounter ∧ (clearCarried m s).chains = s.chains ∧
      (clearCarried m s).ports = s.ports ∧ (clearCarried m s).line = s.line ∧ (clearCarried m s).management = s.management := by
  unfold clearCarried
  try dsimp only
  (repeat' split) <;> simp

@[simp] theorem acknowledge_frame (m : EventMessage) (s : State) :
    (acknowledge m s).pending = s.pending ∧ (acknowledge m s).link = s.link ∧ (acknowledge m s).regions = s.regions ∧
      (acknowledge m s).slots = s.slots ∧ (acknowledge m s).initiators = s.initiators ∧
      (acknowledge m s).acceptCounter = s.acceptCounter ∧ (acknowledge m s).chains = s.chains ∧
      (acknowledge m s).ports = s.ports ∧ (acknowledge m s).line = s.line ∧ (acknowledge m s).management = s.management := by simp [acknowledge]

@[simp] theorem resendMessage_frame (m : EventMessage) (n : Nat) (s : State) :
    (resendMessage m n s).pending = s.pending ∧ (resendMessage m n s).regions = s.regions ∧
      (resendMessage m n s).slots = s.slots ∧ (resendMessage m n s).initiators = s.initiators ∧
      (resendMessage m n s).acceptCounter = s.acceptCounter ∧ (resendMessage m n s).chains = s.chains ∧
      (resendMessage m n s).ports = s.ports ∧ (resendMessage m n s).stations = s.stations ∧
      (resendMessage m n s).line = s.line ∧ (resendMessage m n s).management = s.management := by simp [resendMessage]

@[simp] theorem idlePort_frame (p : PortId) (s : State) :
    (idlePort p s).pending = s.pending ∧ (idlePort p s).link = s.link ∧ (idlePort p s).regions = s.regions ∧
      (idlePort p s).slots = s.slots ∧ (idlePort p s).initiators = s.initiators ∧
      (idlePort p s).acceptCounter = s.acceptCounter ∧ (idlePort p s).chains = s.chains ∧
      (idlePort p s).stations = s.stations ∧ (idlePort p s).line = s.line ∧ (idlePort p s).events = s.events ∧
      (idlePort p s).management = s.management := by simp [idlePort]

@[simp] theorem lockAtEnd_frame (p : PortId) (w : PortWork) (b : Bool) (s : State) :
    (lockAtEnd p w b s).pending = s.pending ∧ (lockAtEnd p w b s).acceptCounter = s.acceptCounter ∧
      (lockAtEnd p w b s).stations = s.stations ∧ (lockAtEnd p w b s).line = s.line := by
  unfold lockAtEnd
  try dsimp only
  (repeat' split) <;> simp

@[simp] theorem postedFailAtEnd_frame (p : PortId) (x : Slot) (w : PortWork) (b : Bool) (s : State) :
    (postedFailAtEnd p x w b s).pending = s.pending ∧ (postedFailAtEnd p x w b s).link = s.link ∧
      (postedFailAtEnd p x w b s).regions = s.regions ∧ (postedFailAtEnd p x w b s).slots = s.slots ∧
      (postedFailAtEnd p x w b s).initiators = s.initiators ∧ (postedFailAtEnd p x w b s).acceptCounter = s.acceptCounter ∧
      (postedFailAtEnd p x w b s).chains = s.chains ∧ (postedFailAtEnd p x w b s).ports = s.ports ∧
      (postedFailAtEnd p x w b s).stations = s.stations ∧ (postedFailAtEnd p x w b s).line = s.line ∧
      (postedFailAtEnd p x w b s).management = s.management := by
  unfold postedFailAtEnd
  try dsimp only
  (repeat' split) <;> simp

@[simp] theorem endService_frame (p : PortId) (i : SlotId) (a : Answer) (b : Bool) (s : State) :
    (endService p i a b s).pending = s.pending ∧ (endService p i a b s).acceptCounter = s.acceptCounter ∧
      (endService p i a b s).stations = s.stations := by
  unfold endService
  try dsimp only
  (repeat' split) <;> simp

@[simp] theorem presentStepTwo_frame (p : PortId) (cur : Issued) (x : Slot) (w : PortWork) (f : RegionFields) (b : SegmentBytes) (s : State) :
    (presentStepTwo p cur x w f b s).pending = s.pending ∧ (presentStepTwo p cur x w f b s).link = s.link ∧
      (presentStepTwo p cur x w f b s).regions = s.regions ∧ (presentStepTwo p cur x w f b s).initiators = s.initiators ∧
      (presentStepTwo p cur x w f b s).acceptCounter = s.acceptCounter ∧
      (presentStepTwo p cur x w f b s).chains = s.chains ∧ (presentStepTwo p cur x w f b s).stations = s.stations ∧
      (presentStepTwo p cur x w f b s).line = s.line ∧ (presentStepTwo p cur x w f b s).events = s.events ∧
      (presentStepTwo p cur x w f b s).management = s.management := by simp [presentStepTwo]

@[simp] theorem stepSucceeds_frame (p : PortId) (cur : Issued) (b : SegmentBytes) (s : State) :
    (stepSucceeds p cur b s).pending = s.pending ∧ (stepSucceeds p cur b s).acceptCounter = s.acceptCounter ∧
      (stepSucceeds p cur b s).stations = s.stations := by
  unfold stepSucceeds
  try dsimp only
  (repeat' split) <;> simp

@[simp] theorem stepFails_frame (p : PortId) (cur : Issued) (s : State) :
    (stepFails p cur s).pending = s.pending ∧ (stepFails p cur s).acceptCounter = s.acceptCounter ∧
      (stepFails p cur s).stations = s.stations := by simp [stepFails]

@[simp] theorem flushQueue_frame (p : PortId) (l : List SlotId) (s : State) :
    (flushQueue p l s).pending = s.pending ∧ (flushQueue p l s).acceptCounter = s.acceptCounter ∧
      (flushQueue p l s).ports = s.ports ∧ (flushQueue p l s).stations = s.stations ∧ (flushQueue p l s).line = s.line := by
  induction l generalizing s with
  | nil => simp [flushQueue]
  | cons i l ih =>
    unfold flushQueue
    (repeat' split) <;> simp [ih]

@[simp] theorem setPortDown_frame (p : PortId) (s : State) :
    (setPortDown p s).pending = s.pending ∧ (setPortDown p s).acceptCounter = s.acceptCounter ∧
      (setPortDown p s).stations = s.stations ∧ (setPortDown p s).line = s.line := by simp [setPortDown]

@[simp] theorem setPortUp_frame (p : PortId) (s : State) :
    (setPortUp p s).pending = s.pending ∧ (setPortUp p s).link = s.link ∧ (setPortUp p s).initiators = s.initiators ∧
      (setPortUp p s).acceptCounter = s.acceptCounter ∧ (setPortUp p s).chains = s.chains ∧
      (setPortUp p s).stations = s.stations ∧ (setPortUp p s).line = s.line ∧ (setPortUp p s).events = s.events ∧
      (setPortUp p s).management = s.management := by
  unfold setPortUp
  try dsimp only
  (repeat' split) <;> simp

@[simp] theorem closeAtRefusal_frame (h : ReqHeader) (a : Answer) (s : State) :
    (closeAtRefusal h a s).pending = s.pending ∧ (closeAtRefusal h a s).acceptCounter = s.acceptCounter ∧
      (closeAtRefusal h a s).ports = s.ports ∧ (closeAtRefusal h a s).stations = s.stations ∧
      (closeAtRefusal h a s).line = s.line ∧ (closeAtRefusal h a s).events = s.events := by simp [closeAtRefusal]

@[simp] theorem answerMember_frame (h : ReqHeader) (a : Answer) (s : State) :
    (answerMember h a s).pending = s.pending ∧ (answerMember h a s).acceptCounter = s.acceptCounter ∧
      (answerMember h a s).ports = s.ports ∧ (answerMember h a s).stations = s.stations ∧
      (answerMember h a s).line = s.line ∧ (answerMember h a s).events = s.events := by
  unfold answerMember
  try dsimp only
  (repeat' split) <;> simp

@[simp] theorem refuseSkipped_frame (h : ReqHeader) (s : State) :
    (refuseSkipped h s).pending = s.pending ∧ (refuseSkipped h s).acceptCounter = s.acceptCounter ∧
      (refuseSkipped h s).ports = s.ports ∧ (refuseSkipped h s).stations = s.stations ∧ (refuseSkipped h s).line = s.line ∧
      (refuseSkipped h s).events = s.events := by simp [refuseSkipped]

@[simp] theorem refuseChainLong_frame (h : ReqHeader) (s : State) :
    (refuseChainLong h s).pending = s.pending ∧ (refuseChainLong h s).acceptCounter = s.acceptCounter ∧
      (refuseChainLong h s).ports = s.ports ∧ (refuseChainLong h s).stations = s.stations ∧
      (refuseChainLong h s).line = s.line ∧ (refuseChainLong h s).events = s.events := by simp [refuseChainLong]

@[simp] theorem refuseFailed_frame (h : ReqHeader) (c : FaultCode) (s : State) :
    (refuseFailed h c s).pending = s.pending ∧ (refuseFailed h c s).acceptCounter = s.acceptCounter ∧
      (refuseFailed h c s).ports = s.ports ∧ (refuseFailed h c s).stations = s.stations ∧
      (refuseFailed h c s).line = s.line ∧ (refuseFailed h c s).events = s.events := by simp [refuseFailed]

@[simp] theorem raiseWorkCount_frame (w : Work) (s : State) :
    (raiseWorkCount w s).pending = s.pending ∧ (raiseWorkCount w s).link = s.link ∧ (raiseWorkCount w s).slots = s.slots ∧
      (raiseWorkCount w s).initiators = s.initiators ∧ (raiseWorkCount w s).acceptCounter = s.acceptCounter ∧
      (raiseWorkCount w s).chains = s.chains ∧ (raiseWorkCount w s).ports = s.ports ∧
      (raiseWorkCount w s).stations = s.stations ∧ (raiseWorkCount w s).line = s.line ∧
      (raiseWorkCount w s).events = s.events ∧ (raiseWorkCount w s).management = s.management := by
  unfold raiseWorkCount
  try dsimp only
  (repeat' split) <;> simp

@[simp] theorem receiveSlot_frame (i : SlotId) (h : ReqHeader) (s : State) :
    (receiveSlot i h s).pending = s.pending ∧ (receiveSlot i h s).link = s.link ∧ (receiveSlot i h s).regions = s.regions ∧
      (receiveSlot i h s).slots = s.slots ∧ (receiveSlot i h s).initiators = s.initiators ∧
      (receiveSlot i h s).acceptCounter = s.acceptCounter ∧ (receiveSlot i h s).ports = s.ports ∧
      (receiveSlot i h s).stations = s.stations ∧ (receiveSlot i h s).line = s.line ∧
      (receiveSlot i h s).events = s.events ∧ (receiveSlot i h s).management = s.management := by
  unfold receiveSlot
  try dsimp only
  (repeat' split) <;> simp

@[simp] theorem allocateSlot_frame (i : SlotId) (h : ReqHeader) (w : Work) (s : State) :
    (allocateSlot i h w s).pending = s.pending ∧ (allocateSlot i h w s).link = s.link ∧
      (allocateSlot i h w s).ports = s.ports ∧ (allocateSlot i h w s).stations = s.stations ∧
      (allocateSlot i h w s).line = s.line ∧ (allocateSlot i h w s).events = s.events ∧
      (allocateSlot i h w s).management = s.management := by simp [allocateSlot]

@[simp] theorem answerPosted_frame (i : SlotId) (h : ReqHeader) (s : State) :
    (answerPosted i h s).pending = s.pending ∧ (answerPosted i h s).regions = s.regions ∧
      (answerPosted i h s).initiators = s.initiators ∧ (answerPosted i h s).acceptCounter = s.acceptCounter ∧
      (answerPosted i h s).chains = s.chains ∧ (answerPosted i h s).ports = s.ports ∧
      (answerPosted i h s).stations = s.stations ∧ (answerPosted i h s).line = s.line ∧
      (answerPosted i h s).events = s.events ∧ (answerPosted i h s).management = s.management := by
  unfold answerPosted
  try dsimp only
  (repeat' split) <;> simp

@[simp] theorem routeSlot_frame (i : SlotId) (w : Work) (b : Bool) (s : State) :
    (routeSlot i w b s).pending = s.pending ∧ (routeSlot i w b s).acceptCounter = s.acceptCounter ∧
      (routeSlot i w b s).stations = s.stations ∧ (routeSlot i w b s).events = s.events := by
  unfold routeSlot
  try dsimp only
  (repeat' split) <;> simp

@[simp] theorem acceptWork_frame (h : ReqHeader) (w : Work) (s : State) :
    (acceptWork h w s).pending = s.pending ∧ (acceptWork h w s).stations = s.stations ∧ (acceptWork h w s).events = s.events := by
  unfold acceptWork
  try dsimp only
  (repeat' split) <;> simp

@[simp] theorem startMode_frame (tag : Option Tag) (k : Initiator) (s : State) :
    (startMode tag k s).pending = s.pending ∧ (startMode tag k s).link = s.link ∧ (startMode tag k s).regions = s.regions ∧
      (startMode tag k s).slots = s.slots ∧ (startMode tag k s).acceptCounter = s.acceptCounter ∧
      (startMode tag k s).chains = s.chains ∧ (startMode tag k s).ports = s.ports ∧
      (startMode tag k s).stations = s.stations ∧ (startMode tag k s).line = s.line ∧
      (startMode tag k s).events = s.events ∧ (startMode tag k s).management = s.management := by simp [startMode]

@[simp] theorem suppressSlot_frame (who : InitiatorSet) (i : SlotId) (s : State) :
    (suppressSlot who i s).pending = s.pending ∧ (suppressSlot who i s).link = s.link ∧
      (suppressSlot who i s).regions = s.regions ∧ (suppressSlot who i s).initiators = s.initiators ∧
      (suppressSlot who i s).acceptCounter = s.acceptCounter ∧ (suppressSlot who i s).chains = s.chains ∧
      (suppressSlot who i s).ports = s.ports ∧ (suppressSlot who i s).stations = s.stations ∧
      (suppressSlot who i s).line = s.line ∧ (suppressSlot who i s).events = s.events ∧
      (suppressSlot who i s).management = s.management := by
  unfold suppressSlot
  try dsimp only
  (repeat' split) <;> simp

@[simp] theorem clearChain_frame (k : Initiator) (s : State) :
    (clearChain k s).pending = s.pending ∧ (clearChain k s).link = s.link ∧ (clearChain k s).regions = s.regions ∧
      (clearChain k s).slots = s.slots ∧ (clearChain k s).initiators = s.initiators ∧
      (clearChain k s).acceptCounter = s.acceptCounter ∧ (clearChain k s).ports = s.ports ∧
      (clearChain k s).stations = s.stations ∧ (clearChain k s).line = s.line ∧ (clearChain k s).events = s.events ∧
      (clearChain k s).management = s.management := by simp [clearChain]

@[simp] theorem leaveQueues_frame (i : SlotId) (w : Work) (s : State) :
    (leaveQueues i w s).pending = s.pending ∧ (leaveQueues i w s).link = s.link ∧ (leaveQueues i w s).regions = s.regions ∧
      (leaveQueues i w s).slots = s.slots ∧ (leaveQueues i w s).initiators = s.initiators ∧
      (leaveQueues i w s).acceptCounter = s.acceptCounter ∧ (leaveQueues i w s).chains = s.chains ∧
      (leaveQueues i w s).stations = s.stations ∧ (leaveQueues i w s).events = s.events := by
  unfold leaveQueues
  try dsimp only
  (repeat' split) <;> simp

@[simp] theorem dropSlot_frame (who : InitiatorSet) (i : SlotId) (s : State) :
    (dropSlot who i s).pending = s.pending ∧ (dropSlot who i s).acceptCounter = s.acceptCounter ∧
      (dropSlot who i s).chains = s.chains ∧ (dropSlot who i s).stations = s.stations ∧ (dropSlot who i s).events = s.events := by
  unfold dropSlot
  try dsimp only
  (repeat' split) <;> simp

@[simp] theorem dropOwnedLock_frame (who : InitiatorSet) (p : PortId) (s : State) :
    (dropOwnedLock who p s).pending = s.pending ∧ (dropOwnedLock who p s).acceptCounter = s.acceptCounter ∧
      (dropOwnedLock who p s).stations = s.stations ∧ (dropOwnedLock who p s).line = s.line := by
  unfold dropOwnedLock
  try dsimp only
  (repeat' split) <;> simp

@[simp] theorem abandonWork_frame (who : InitiatorSet) (tag : Option Tag) (s : State) :
    (abandonWork who tag s).pending = s.pending ∧ (abandonWork who tag s).acceptCounter = s.acceptCounter ∧
      (abandonWork who tag s).stations = s.stations := by
  unfold abandonWork
  refine ⟨?_, ?_, ?_⟩
  · simp [forEach_keeps State.pending]
  · simp [forEach_keeps State.acceptCounter]
  · simp [forEach_keeps State.stations]

@[simp] theorem abandonInitiator_frame (k : Initiator) (tag : Tag) (s : State) :
    (abandonInitiator k tag s).pending = s.pending ∧ (abandonInitiator k tag s).acceptCounter = s.acceptCounter := by
  unfold abandonInitiator
  try dsimp only
  (repeat' split) <;> simp

@[simp] theorem abandonAll_frame (s : State) :
    (abandonAll s).pending = s.pending ∧ (abandonAll s).acceptCounter = s.acceptCounter := by
  unfold abandonAll
  refine ⟨?_, ?_⟩
  · simp [forEach_keeps State.pending]
  · simp [forEach_keeps State.acceptCounter]

@[simp] theorem raiseResetCount_frame (s : State) :
    (raiseResetCount s).pending = s.pending ∧ (raiseResetCount s).regions = s.regions ∧
      (raiseResetCount s).slots = s.slots ∧ (raiseResetCount s).initiators = s.initiators ∧
      (raiseResetCount s).acceptCounter = s.acceptCounter ∧ (raiseResetCount s).chains = s.chains ∧
      (raiseResetCount s).ports = s.ports ∧ (raiseResetCount s).stations = s.stations ∧ (raiseResetCount s).line = s.line ∧
      (raiseResetCount s).events = s.events ∧ (raiseResetCount s).management = s.management := by simp [raiseResetCount]

@[simp] theorem linkResetByMessage_frame (s : State) :
    (linkResetByMessage s).pending = s.pending ∧ (linkResetByMessage s).acceptCounter = s.acceptCounter := by simp [linkResetByMessage]

@[simp] theorem loseSignal_frame (s : State) :
    (loseSignal s).pending = s.pending ∧ (loseSignal s).acceptCounter = s.acceptCounter := by
  unfold loseSignal
  try dsimp only
  (repeat' split) <;> simp

@[simp] theorem claimLoadRegion_frame (o : LoadOperands) (s : State) :
    (claimLoadRegion o s).state.pending = s.pending ∧ (claimLoadRegion o s).state.link = s.link ∧
      (claimLoadRegion o s).state.slots = s.slots ∧ (claimLoadRegion o s).state.initiators = s.initiators ∧
      (claimLoadRegion o s).state.acceptCounter = s.acceptCounter ∧ (claimLoadRegion o s).state.chains = s.chains ∧
      (claimLoadRegion o s).state.ports = s.ports ∧ (claimLoadRegion o s).state.stations = s.stations ∧
      (claimLoadRegion o s).state.line = s.line ∧ (claimLoadRegion o s).state.events = s.events ∧
      (claimLoadRegion o s).state.management = s.management := by
  unfold claimLoadRegion
  try dsimp only
  (repeat' split) <;> simp [unchanged, badValue, carriedOut, returned]

@[simp] theorem startDrain_frame (e : EntryId) (r : RegionRecord) (k : Initiator) (t : Tag) (s : State) :
    (startDrain e r k t s).pending = s.pending ∧ (startDrain e r k t s).link = s.link ∧
      (startDrain e r k t s).slots = s.slots ∧ (startDrain e r k t s).initiators = s.initiators ∧
      (startDrain e r k t s).acceptCounter = s.acceptCounter ∧ (startDrain e r k t s).chains = s.chains ∧
      (startDrain e r k t s).ports = s.ports ∧ (startDrain e r k t s).stations = s.stations ∧
      (startDrain e r k t s).line = s.line ∧ (startDrain e r k t s).events = s.events := by simp [startDrain]

@[simp] theorem claimRetireRegion_frame (b : Byte) (k : Initiator) (t : Tag) (s : State) :
    (claimRetireRegion b k t s).state.pending = s.pending ∧ (claimRetireRegion b k t s).state.link = s.link ∧
      (claimRetireRegion b k t s).state.slots = s.slots ∧ (claimRetireRegion b k t s).state.initiators = s.initiators ∧
      (claimRetireRegion b k t s).state.acceptCounter = s.acceptCounter ∧
      (claimRetireRegion b k t s).state.chains = s.chains ∧ (claimRetireRegion b k t s).state.ports = s.ports ∧
      (claimRetireRegion b k t s).state.stations = s.stations ∧ (claimRetireRegion b k t s).state.line = s.line ∧
      (claimRetireRegion b k t s).state.events = s.events := by
  unfold claimRetireRegion
  try dsimp only
  (repeat' split) <;> simp [unchanged, badValue, carriedOut, returned]

@[simp] theorem claimAlterRights_frame (b : Byte) (rs ws : InitiatorSet) (s : State) :
    (claimAlterRights b rs ws s).state.pending = s.pending ∧ (claimAlterRights b rs ws s).state.link = s.link ∧
      (claimAlterRights b rs ws s).state.slots = s.slots ∧ (claimAlterRights b rs ws s).state.initiators = s.initiators ∧
      (claimAlterRights b rs ws s).state.acceptCounter = s.acceptCounter ∧
      (claimAlterRights b rs ws s).state.chains = s.chains ∧ (claimAlterRights b rs ws s).state.ports = s.ports ∧
      (claimAlterRights b rs ws s).state.stations = s.stations ∧ (claimAlterRights b rs ws s).state.line = s.line ∧
      (claimAlterRights b rs ws s).state.events = s.events ∧ (claimAlterRights b rs ws s).state.management = s.management := by
  unfold claimAlterRights
  try dsimp only
  (repeat' split) <;> simp [unchanged, badValue, carriedOut, returned]

@[simp] theorem claimReadRegion_frame (b : Byte) (s : State) :
    (claimReadRegion b s).state.pending = s.pending ∧ (claimReadRegion b s).state.link = s.link ∧
      (claimReadRegion b s).state.regions = s.regions ∧ (claimReadRegion b s).state.slots = s.slots ∧
      (claimReadRegion b s).state.initiators = s.initiators ∧ (claimReadRegion b s).state.acceptCounter = s.acceptCounter ∧
      (claimReadRegion b s).state.chains = s.chains ∧ (claimReadRegion b s).state.ports = s.ports ∧
      (claimReadRegion b s).state.stations = s.stations ∧ (claimReadRegion b s).state.line = s.line ∧
      (claimReadRegion b s).state.events = s.events ∧ (claimReadRegion b s).state.management = s.management := by
  unfold claimReadRegion
  try dsimp only
  (repeat' split) <;> simp [unchanged, badValue, carriedOut, returned]

@[simp] theorem applySetting_frame (p : PortId) (n : Setting) (s : State) :
    (applySetting p n s).pending = s.pending ∧ (applySetting p n s).acceptCounter = s.acceptCounter ∧
      (applySetting p n s).stations = s.stations ∧ (applySetting p n s).line = s.line := by
  unfold applySetting
  try dsimp only
  (repeat' split) <;> simp

@[simp] theorem applySetPort_frame (p : PortId) (n : Setting) (a b : Nat) (s : State) :
    (applySetPort p n a b s).pending = s.pending ∧ (applySetPort p n a b s).acceptCounter = s.acceptCounter ∧
      (applySetPort p n a b s).stations = s.stations ∧ (applySetPort p n a b s).line = s.line := by simp [applySetPort]

@[simp] theorem claimSetPort_frame (p n l h : Byte) (s : State) :
    (claimSetPort p n l h s).state.pending = s.pending ∧ (claimSetPort p n l h s).state.acceptCounter = s.acceptCounter ∧
      (claimSetPort p n l h s).state.stations = s.stations ∧ (claimSetPort p n l h s).state.line = s.line := by
  unfold claimSetPort
  try dsimp only
  (repeat' split) <;> simp [unchanged, badValue, carriedOut, returned]

@[simp] theorem claimReadPort_frame (b : Byte) (s : State) :
    (claimReadPort b s).state.pending = s.pending ∧ (claimReadPort b s).state.link = s.link ∧
      (claimReadPort b s).state.regions = s.regions ∧ (claimReadPort b s).state.slots = s.slots ∧
      (claimReadPort b s).state.initiators = s.initiators ∧ (claimReadPort b s).state.acceptCounter = s.acceptCounter ∧
      (claimReadPort b s).state.chains = s.chains ∧ (claimReadPort b s).state.ports = s.ports ∧
      (claimReadPort b s).state.stations = s.stations ∧ (claimReadPort b s).state.line = s.line ∧
      (claimReadPort b s).state.events = s.events ∧ (claimReadPort b s).state.management = s.management := by
  unfold claimReadPort
  try dsimp only
  (repeat' split) <;> simp [unchanged, badValue, carriedOut, returned]

@[simp] theorem claimSetStation_frame (o : StationOperands) (s : State) :
    (claimSetStation o s).state.pending = s.pending ∧ (claimSetStation o s).state.acceptCounter = s.acceptCounter ∧
      (claimSetStation o s).state.ports = s.ports ∧ (claimSetStation o s).state.events = s.events := by
  unfold claimSetStation
  try dsimp only
  (repeat' split) <;> simp [unchanged, badValue, carriedOut, returned]

@[simp] theorem claimReadStation_frame (b : Byte) (s : State) :
    (claimReadStation b s).state.pending = s.pending ∧ (claimReadStation b s).state.link = s.link ∧
      (claimReadStation b s).state.regions = s.regions ∧ (claimReadStation b s).state.slots = s.slots ∧
      (claimReadStation b s).state.initiators = s.initiators ∧
      (claimReadStation b s).state.acceptCounter = s.acceptCounter ∧ (claimReadStation b s).state.chains = s.chains ∧
      (claimReadStation b s).state.ports = s.ports ∧ (claimReadStation b s).state.stations = s.stations ∧
      (claimReadStation b s).state.line = s.line ∧ (claimReadStation b s).state.events = s.events ∧
      (claimReadStation b s).state.management = s.management := by
  unfold claimReadStation
  try dsimp only
  (repeat' split) <;> simp [unchanged, badValue, carriedOut, returned]

@[simp] theorem claimSetScan_frame (b : Byte) (s : State) :
    (claimSetScan b s).state.pending = s.pending ∧ (claimSetScan b s).state.link = s.link ∧
      (claimSetScan b s).state.regions = s.regions ∧ (claimSetScan b s).state.slots = s.slots ∧
      (claimSetScan b s).state.initiators = s.initiators ∧ (claimSetScan b s).state.acceptCounter = s.acceptCounter ∧
      (claimSetScan b s).state.chains = s.chains ∧ (claimSetScan b s).state.ports = s.ports ∧
      (claimSetScan b s).state.stations = s.stations ∧ (claimSetScan b s).state.events = s.events ∧
      (claimSetScan b s).state.management = s.management := by
  unfold claimSetScan
  try dsimp only
  (repeat' split) <;> simp [unchanged, badValue, carriedOut, returned]

@[simp] theorem claimSetEvent_frame (a b : Byte) (s : State) :
    (claimSetEvent a b s).state.pending = s.pending ∧ (claimSetEvent a b s).state.link = s.link ∧
      (claimSetEvent a b s).state.regions = s.regions ∧ (claimSetEvent a b s).state.slots = s.slots ∧
      (claimSetEvent a b s).state.initiators = s.initiators ∧ (claimSetEvent a b s).state.acceptCounter = s.acceptCounter ∧
      (claimSetEvent a b s).state.chains = s.chains ∧ (claimSetEvent a b s).state.ports = s.ports ∧
      (claimSetEvent a b s).state.stations = s.stations ∧ (claimSetEvent a b s).state.line = s.line ∧
      (claimSetEvent a b s).state.management = s.management := by
  unfold claimSetEvent
  try dsimp only
  (repeat' split) <;> simp [unchanged, badValue, carriedOut, returned]

@[simp] theorem claimSetEventTarget_frame (a b : Byte) (s : State) :
    (claimSetEventTarget a b s).state.pending = s.pending ∧ (claimSetEventTarget a b s).state.link = s.link ∧
      (claimSetEventTarget a b s).state.regions = s.regions ∧ (claimSetEventTarget a b s).state.slots = s.slots ∧
      (claimSetEventTarget a b s).state.initiators = s.initiators ∧
      (claimSetEventTarget a b s).state.acceptCounter = s.acceptCounter ∧
      (claimSetEventTarget a b s).state.chains = s.chains ∧ (claimSetEventTarget a b s).state.ports = s.ports ∧
      (claimSetEventTarget a b s).state.line = s.line ∧ (claimSetEventTarget a b s).state.management = s.management := by
  unfold claimSetEventTarget
  try dsimp only
  (repeat' split) <;> simp [unchanged, badValue, carriedOut, returned]

@[simp] theorem claimEventAck_frame (a b : Byte) (k : Initiator) (s : State) :
    (claimEventAck a b k s).state.pending = s.pending ∧ (claimEventAck a b k s).state.link = s.link ∧
      (claimEventAck a b k s).state.regions = s.regions ∧ (claimEventAck a b k s).state.slots = s.slots ∧
      (claimEventAck a b k s).state.initiators = s.initiators ∧
      (claimEventAck a b k s).state.acceptCounter = s.acceptCounter ∧ (claimEventAck a b k s).state.chains = s.chains ∧
      (claimEventAck a b k s).state.ports = s.ports ∧ (claimEventAck a b k s).state.line = s.line ∧
      (claimEventAck a b k s).state.management = s.management := by
  unfold claimEventAck
  try dsimp only
  (repeat' split) <;> simp [unchanged, badValue, carriedOut, returned]

@[simp] theorem claimEventResume_frame (k : Initiator) (s : State) :
    (claimEventResume k s).state.pending = s.pending ∧ (claimEventResume k s).state.regions = s.regions ∧
      (claimEventResume k s).state.slots = s.slots ∧ (claimEventResume k s).state.initiators = s.initiators ∧
      (claimEventResume k s).state.acceptCounter = s.acceptCounter ∧ (claimEventResume k s).state.chains = s.chains ∧
      (claimEventResume k s).state.ports = s.ports ∧ (claimEventResume k s).state.stations = s.stations ∧
      (claimEventResume k s).state.line = s.line ∧ (claimEventResume k s).state.management = s.management := by
  unfold claimEventResume
  try dsimp only
  (repeat' split) <;> simp [unchanged, badValue, carriedOut, returned]

@[simp] theorem clearIncident_frame (k : IncidentKind) (s : State) :
    (clearIncident k s).pending = s.pending ∧ (clearIncident k s).link = s.link ∧ (clearIncident k s).regions = s.regions ∧
      (clearIncident k s).slots = s.slots ∧ (clearIncident k s).initiators = s.initiators ∧
      (clearIncident k s).acceptCounter = s.acceptCounter ∧ (clearIncident k s).chains = s.chains ∧
      (clearIncident k s).ports = s.ports ∧ (clearIncident k s).line = s.line ∧
      (clearIncident k s).management = s.management := by
  unfold clearIncident
  try dsimp only
  (repeat' split) <;> simp

@[simp] theorem claimReadIncident_frame (a b : Byte) (s : State) :
    (claimReadIncident a b s).state.pending = s.pending ∧ (claimReadIncident a b s).state.link = s.link ∧
      (claimReadIncident a b s).state.regions = s.regions ∧ (claimReadIncident a b s).state.slots = s.slots ∧
      (claimReadIncident a b s).state.initiators = s.initiators ∧
      (claimReadIncident a b s).state.acceptCounter = s.acceptCounter ∧ (claimReadIncident a b s).state.chains = s.chains ∧
      (claimReadIncident a b s).state.ports = s.ports ∧ (claimReadIncident a b s).state.line = s.line ∧
      (claimReadIncident a b s).state.management = s.management := by
  unfold claimReadIncident
  try dsimp only
  (repeat' split) <;> simp [unchanged, badValue, carriedOut, returned]

@[simp] theorem claimSetManagers_frame (m : InitiatorSet) (k : Initiator) (s : State) :
    (claimSetManagers m k s).state.pending = s.pending ∧ (claimSetManagers m k s).state.link = s.link ∧
      (claimSetManagers m k s).state.regions = s.regions ∧ (claimSetManagers m k s).state.slots = s.slots ∧
      (claimSetManagers m k s).state.initiators = s.initiators ∧
      (claimSetManagers m k s).state.acceptCounter = s.acceptCounter ∧ (claimSetManagers m k s).state.chains = s.chains ∧
      (claimSetManagers m k s).state.ports = s.ports ∧ (claimSetManagers m k s).state.stations = s.stations ∧
      (claimSetManagers m k s).state.line = s.line ∧ (claimSetManagers m k s).state.events = s.events := by
  unfold claimSetManagers
  try dsimp only
  (repeat' split) <;> simp [unchanged, badValue, carriedOut, returned]

@[simp] theorem claimReadOccupancy_frame (s : State) :
    (claimReadOccupancy s).state.pending = s.pending ∧ (claimReadOccupancy s).state.link = s.link ∧
      (claimReadOccupancy s).state.regions = s.regions ∧ (claimReadOccupancy s).state.slots = s.slots ∧
      (claimReadOccupancy s).state.initiators = s.initiators ∧
      (claimReadOccupancy s).state.acceptCounter = s.acceptCounter ∧ (claimReadOccupancy s).state.chains = s.chains ∧
      (claimReadOccupancy s).state.ports = s.ports ∧ (claimReadOccupancy s).state.stations = s.stations ∧
      (claimReadOccupancy s).state.line = s.line ∧ (claimReadOccupancy s).state.events = s.events ∧
      (claimReadOccupancy s).state.management = s.management := by
  unfold claimReadOccupancy
  try dsimp only
  (repeat' split) <;> simp [unchanged, badValue, carriedOut, returned]

@[simp] theorem claimOf_frame (o : ManageOp) (k : Initiator) (t : Tag) (s : State) :
    (claimOf o k t s).state.pending = s.pending ∧ (claimOf o k t s).state.acceptCounter = s.acceptCounter := by
  unfold claimOf
  split <;> simp

@[simp] theorem takeManageSlot_frame (i : SlotId) (s : State) :
    (takeManageSlot i s).pending = s.pending ∧ (takeManageSlot i s).link = s.link ∧
      (takeManageSlot i s).regions = s.regions ∧ (takeManageSlot i s).initiators = s.initiators ∧
      (takeManageSlot i s).acceptCounter = s.acceptCounter ∧ (takeManageSlot i s).chains = s.chains ∧
      (takeManageSlot i s).ports = s.ports ∧ (takeManageSlot i s).stations = s.stations ∧
      (takeManageSlot i s).line = s.line ∧ (takeManageSlot i s).events = s.events := by simp [takeManageSlot]

@[simp] theorem concludeClaim_frame (i : SlotId) (c : Claim) :
    (concludeClaim i c).pending = c.state.pending ∧ (concludeClaim i c).acceptCounter = c.state.acceptCounter ∧ (concludeClaim i c).ports = c.state.ports ∧ (concludeClaim i c).line = c.state.line := by
  unfold concludeClaim
  split <;> simp

@[simp] theorem acceptManage_frame (h : ReqHeader) (o : ManageOp) (s : State) :
    (acceptManage h o s).pending = s.pending := by
  unfold acceptManage
  try dsimp only
  (repeat' split) <;> simp

@[simp] theorem State.setFraming_frame (f : Framing) (s : State) :
    (s.setFraming f).pending = s.pending ∧ (s.setFraming f).regions = s.regions ∧ (s.setFraming f).slots = s.slots ∧
      (s.setFraming f).initiators = s.initiators ∧ (s.setFraming f).acceptCounter = s.acceptCounter ∧
      (s.setFraming f).chains = s.chains ∧ (s.setFraming f).ports = s.ports ∧ (s.setFraming f).stations = s.stations ∧
      (s.setFraming f).line = s.line ∧ (s.setFraming f).events = s.events ∧ (s.setFraming f).management = s.management := by simp [State.setFraming]

@[simp] theorem raiseLinkError_frame (c : LinkErrorCause) (s : State) :
    (raiseLinkError c s).pending = s.pending ∧ (raiseLinkError c s).link = s.link ∧
      (raiseLinkError c s).regions = s.regions ∧ (raiseLinkError c s).slots = s.slots ∧
      (raiseLinkError c s).initiators = s.initiators ∧ (raiseLinkError c s).acceptCounter = s.acceptCounter ∧
      (raiseLinkError c s).chains = s.chains ∧ (raiseLinkError c s).ports = s.ports ∧
      (raiseLinkError c s).stations = s.stations ∧ (raiseLinkError c s).line = s.line ∧
      (raiseLinkError c s).management = s.management := by simp [raiseLinkError]

@[simp] theorem bufferBody_frame (b : List Byte) (s : State) :
    (bufferBody b s).pending = s.pending ∧ (bufferBody b s).regions = s.regions ∧ (bufferBody b s).slots = s.slots ∧
      (bufferBody b s).initiators = s.initiators ∧ (bufferBody b s).acceptCounter = s.acceptCounter ∧
      (bufferBody b s).chains = s.chains ∧ (bufferBody b s).ports = s.ports ∧ (bufferBody b s).stations = s.stations ∧
      (bufferBody b s).line = s.line ∧ (bufferBody b s).events = s.events ∧ (bufferBody b s).management = s.management := by
  unfold bufferBody
  try dsimp only
  (repeat' split) <;> simp

@[simp] theorem takeFrame_frame (n : Nat) (b : List Byte) (s : State) :
    (takeFrame n b s).pending = s.pending ∧ (takeFrame n b s).regions = s.regions ∧ (takeFrame n b s).slots = s.slots ∧
      (takeFrame n b s).initiators = s.initiators ∧ (takeFrame n b s).acceptCounter = s.acceptCounter ∧
      (takeFrame n b s).chains = s.chains ∧ (takeFrame n b s).ports = s.ports ∧ (takeFrame n b s).stations = s.stations ∧
      (takeFrame n b s).line = s.line ∧ (takeFrame n b s).management = s.management := by
  unfold takeFrame
  try dsimp only
  (repeat' split) <;> simp

@[simp] theorem takeSymbol_frame (y : LineSymbol) (s : State) :
    (takeSymbol y s).pending = s.pending ∧ (takeSymbol y s).regions = s.regions ∧ (takeSymbol y s).slots = s.slots ∧
      (takeSymbol y s).initiators = s.initiators ∧ (takeSymbol y s).acceptCounter = s.acceptCounter ∧
      (takeSymbol y s).chains = s.chains ∧ (takeSymbol y s).ports = s.ports ∧ (takeSymbol y s).stations = s.stations ∧
      (takeSymbol y s).line = s.line ∧ (takeSymbol y s).management = s.management := by
  unfold takeSymbol
  try dsimp only
  (repeat' split) <;> simp

@[simp] theorem takeSymbols_frame (l : List LineSymbol) (s : State) :
    (takeSymbols l s).pending = s.pending ∧ (takeSymbols l s).regions = s.regions ∧ (takeSymbols l s).slots = s.slots ∧
      (takeSymbols l s).initiators = s.initiators ∧ (takeSymbols l s).acceptCounter = s.acceptCounter ∧
      (takeSymbols l s).chains = s.chains ∧ (takeSymbols l s).ports = s.ports ∧ (takeSymbols l s).line = s.line ∧
      (takeSymbols l s).management = s.management := by
  induction l generalizing s with
  | nil => simp [takeSymbols]
  | cons i l ih => simp [takeSymbols, ih]

@[simp] theorem carryVerdict_frame (h : ReqHeader) (v : Verdict) (s : State) :
    (carryVerdict h v s).pending = s.pending := by
  unfold carryVerdict
  try dsimp only
  (repeat' split) <;> simp

@[simp] theorem handRequest_frame (h : ReqHeader) (q : Option Parsed) (s : State) :
    (handRequest h q s).pending = s.pending := by
  unfold handRequest
  try dsimp only
  (repeat' split) <;> simp

@[simp] theorem takeSync_frame (s : State) :
    (takeSync s).pending = s.pending ∧ (takeSync s).regions = s.regions ∧ (takeSync s).slots = s.slots ∧
      (takeSync s).initiators = s.initiators ∧ (takeSync s).acceptCounter = s.acceptCounter ∧
      (takeSync s).chains = s.chains ∧ (takeSync s).ports = s.ports ∧ (takeSync s).stations = s.stations ∧
      (takeSync s).line = s.line ∧ (takeSync s).events = s.events ∧ (takeSync s).management = s.management := by
  unfold takeSync
  try dsimp only
  (repeat' split) <;> simp

@[simp] theorem takeLinkReset_frame (s : State) :
    (takeLinkReset s).pending = s.pending ∧ (takeLinkReset s).acceptCounter = s.acceptCounter := by
  unfold takeLinkReset
  try dsimp only
  (repeat' split) <;> simp

@[simp] theorem answerUnknown_frame (h : ReqHeader) (s : State) :
    (answerUnknown h s).pending = s.pending ∧ (answerUnknown h s).regions = s.regions ∧
      (answerUnknown h s).slots = s.slots ∧ (answerUnknown h s).initiators = s.initiators ∧
      (answerUnknown h s).acceptCounter = s.acceptCounter ∧ (answerUnknown h s).chains = s.chains ∧
      (answerUnknown h s).ports = s.ports ∧ (answerUnknown h s).stations = s.stations ∧ (answerUnknown h s).line = s.line ∧
      (answerUnknown h s).events = s.events ∧ (answerUnknown h s).management = s.management := by
  unfold answerUnknown
  try dsimp only
  (repeat' split) <;> simp

@[simp] theorem fixedExpiryAt_frame (p : PortId) (b : SegmentBytes) (s : State) :
    (fixedExpiryAt p b s).pending = s.pending ∧ (fixedExpiryAt p b s).acceptCounter = s.acceptCounter ∧
      (fixedExpiryAt p b s).stations = s.stations := by
  unfold fixedExpiryAt
  try dsimp only
  (repeat' split) <;> simp

@[simp] theorem raiseStray_frame (p : PortId) (s : State) :
    (raiseStray p s).pending = s.pending ∧ (raiseStray p s).link = s.link ∧ (raiseStray p s).regions = s.regions ∧
      (raiseStray p s).slots = s.slots ∧ (raiseStray p s).initiators = s.initiators ∧
      (raiseStray p s).acceptCounter = s.acceptCounter ∧ (raiseStray p s).chains = s.chains ∧
      (raiseStray p s).ports = s.ports ∧ (raiseStray p s).stations = s.stations ∧ (raiseStray p s).line = s.line ∧
      (raiseStray p s).management = s.management := by simp [raiseStray]

@[simp] theorem readyAt_frame (p : PortId) (b : SegmentBytes) (s : State) :
    (readyAt p b s).pending = s.pending ∧ (readyAt p b s).acceptCounter = s.acceptCounter ∧
      (readyAt p b s).stations = s.stations := by
  unfold readyAt
  try dsimp only
  (repeat' split) <;> simp

@[simp] theorem readyExpiryAt_frame (p : PortId) (s : State) :
    (readyExpiryAt p s).pending = s.pending ∧ (readyExpiryAt p s).acceptCounter = s.acceptCounter ∧
      (readyExpiryAt p s).stations = s.stations := by
  unfold readyExpiryAt
  try dsimp only
  (repeat' split) <;> simp

@[simp] theorem takeWithdrawal_frame (p : PortId) (s : State) :
    (takeWithdrawal p s).pending = s.pending ∧ (takeWithdrawal p s).link = s.link ∧
      (takeWithdrawal p s).initiators = s.initiators ∧ (takeWithdrawal p s).acceptCounter = s.acceptCounter ∧
      (takeWithdrawal p s).chains = s.chains ∧ (takeWithdrawal p s).stations = s.stations ∧
      (takeWithdrawal p s).line = s.line ∧ (takeWithdrawal p s).events = s.events ∧
      (takeWithdrawal p s).management = s.management := by
  unfold takeWithdrawal
  try dsimp only
  (repeat' split) <;> simp

@[simp] theorem overrunHold_frame (p : PortId) (s : State) :
    (overrunHold p s).pending = s.pending ∧ (overrunHold p s).link = s.link ∧ (overrunHold p s).regions = s.regions ∧
      (overrunHold p s).slots = s.slots ∧ (overrunHold p s).initiators = s.initiators ∧
      (overrunHold p s).acceptCounter = s.acceptCounter ∧ (overrunHold p s).chains = s.chains ∧
      (overrunHold p s).stations = s.stations ∧ (overrunHold p s).line = s.line ∧
      (overrunHold p s).management = s.management := by simp [overrunHold]

@[simp] theorem freeLine_frame (s : State) :
    (freeLine s).pending = s.pending ∧ (freeLine s).acceptCounter = s.acceptCounter ∧ (freeLine s).ports = s.ports ∧
      (freeLine s).stations = s.stations ∧ (freeLine s).events = s.events := by simp [freeLine]

@[simp] theorem completeWithReply_frame (o : LineOp) (v : Positions) (s : State) :
    (completeWithReply o v s).pending = s.pending ∧ (completeWithReply o v s).acceptCounter = s.acceptCounter ∧
      (completeWithReply o v s).events = s.events := by
  unfold completeWithReply
  try dsimp only
  (repeat' split) <;> simp

@[simp] theorem timeoutStation_frame (n : StationId) (s : State) :
    (timeoutStation n s).pending = s.pending ∧ (timeoutStation n s).link = s.link ∧
      (timeoutStation n s).regions = s.regions ∧ (timeoutStation n s).slots = s.slots ∧
      (timeoutStation n s).initiators = s.initiators ∧ (timeoutStation n s).acceptCounter = s.acceptCounter ∧
      (timeoutStation n s).chains = s.chains ∧ (timeoutStation n s).ports = s.ports ∧ (timeoutStation n s).line = s.line ∧
      (timeoutStation n s).management = s.management := by
  unfold timeoutStation
  try dsimp only
  (repeat' split) <;> simp

@[simp] theorem completeWithTimeout_frame (o : LineOp) (s : State) :
    (completeWithTimeout o s).pending = s.pending ∧ (completeWithTimeout o s).acceptCounter = s.acceptCounter := by
  unfold completeWithTimeout
  try dsimp only
  (repeat' split) <;> simp

@[simp] theorem scanExpiry_frame (s : State) :
    (scanExpiry s).pending = s.pending ∧ (scanExpiry s).acceptCounter = s.acceptCounter ∧ (scanExpiry s).ports = s.ports ∧
      (scanExpiry s).stations = s.stations := by
  unfold scanExpiry
  try dsimp only
  (repeat' split) <;> simp

@[simp] theorem windowExpiry_frame (m : EventMessage) (s : State) :
    (windowExpiry m s).pending = s.pending ∧ (windowExpiry m s).regions = s.regions ∧ (windowExpiry m s).slots = s.slots ∧
      (windowExpiry m s).initiators = s.initiators ∧ (windowExpiry m s).acceptCounter = s.acceptCounter ∧
      (windowExpiry m s).chains = s.chains ∧ (windowExpiry m s).ports = s.ports ∧
      (windowExpiry m s).stations = s.stations ∧ (windowExpiry m s).line = s.line ∧
      (windowExpiry m s).management = s.management := by
  unfold windowExpiry
  try dsimp only
  (repeat' split) <;> simp

@[simp] theorem sampleHoldLine_frame (h : BitVec 4) (p : PortId) (s : State) :
    (sampleHoldLine h p s).pending = s.pending ∧ (sampleHoldLine h p s).link = s.link ∧
      (sampleHoldLine h p s).initiators = s.initiators ∧ (sampleHoldLine h p s).acceptCounter = s.acceptCounter ∧
      (sampleHoldLine h p s).chains = s.chains ∧ (sampleHoldLine h p s).stations = s.stations ∧
      (sampleHoldLine h p s).line = s.line ∧ (sampleHoldLine h p s).events = s.events ∧
      (sampleHoldLine h p s).management = s.management := by
  unfold sampleHoldLine
  try dsimp only
  (repeat' split) <;> simp

end Sys2Proof.Machine
end

