-- ==== Sys2Proof/Laws/Link.lean ====
section
/-! SUPPORT. What the shared operations do to the link interface: those that hand messages over keep its state, its receiver and its
count, and only append to the outbound list. -/

namespace Sys2Proof.Machine

@[simp] theorem beginFrame_frame (l : LinkUnit) :
    (beginFrame l).state = l.state ∧ (beginFrame l).signal = l.signal ∧ (beginFrame l).resetCount = l.resetCount ∧
      (beginFrame l).strap = l.strap ∧ (beginFrame l).framing = l.framing ∧ (beginFrame l).rx = l.rx ∧
      (beginFrame l).outbound = l.outbound ∧ (beginFrame l).farPause = l.farPause := by
  unfold beginFrame
  (repeat' split) <;> simp

theorem enqueue_outbound (l : LinkUnit) (m : Message) :
    (enqueue l m).outbound = if l.state = .up then l.outbound ++ [m] else l.outbound := by
  unfold enqueue
  split <;> simp_all

@[simp] theorem enqueue_frame (l : LinkUnit) (m : Message) :
    (enqueue l m).state = l.state ∧ (enqueue l m).signal = l.signal ∧ (enqueue l m).resetCount = l.resetCount ∧
      (enqueue l m).strap = l.strap ∧ (enqueue l m).framing = l.framing ∧ (enqueue l m).rx = l.rx ∧
      (enqueue l m).farPause = l.farPause := by
  unfold enqueue
  split <;> simp

theorem handOver_outbound_up (m : Message) (s : State) (h : s.link.state = .up) :
    (handOver m s).link.outbound = s.link.outbound ++ [m] := by
  simp [handOver, enqueue_outbound, h]

theorem handOver_outbound_down (m : Message) (s : State) (h : s.link.state = .down) :
    (handOver m s).link = s.link := by
  simp [handOver, enqueue, h]

@[simp] theorem handOver_link (m : Message) (s : State) :
    (handOver m s).link.state = s.link.state ∧ (handOver m s).link.signal = s.link.signal ∧
      (handOver m s).link.resetCount = s.link.resetCount ∧ (handOver m s).link.strap = s.link.strap ∧
      (handOver m s).link.framing = s.link.framing ∧ (handOver m s).link.rx = s.link.rx ∧
      (handOver m s).link.farPause = s.link.farPause := by simp [handOver]

theorem handOver_grows (m : Message) (s : State) {old : List Message} (g : old <+: s.link.outbound) :
    old <+: (handOver m s).link.outbound := by
  simp only [handOver, State.setLink_link, enqueue_outbound]
  split
  · exact g.trans (List.prefix_append _ _)
  · exact g

@[simp] theorem respond_link (r : Response) (s : State) :
    (respond r s).link.state = s.link.state ∧ (respond r s).link.signal = s.link.signal ∧
      (respond r s).link.resetCount = s.link.resetCount ∧ (respond r s).link.strap = s.link.strap ∧
      (respond r s).link.framing = s.link.framing ∧ (respond r s).link.rx = s.link.rx ∧
      (respond r s).link.farPause = s.link.farPause := by simp [respond]

theorem respond_grows (r : Response) (s : State) {old : List Message} (g : old <+: s.link.outbound) :
    old <+: (respond r s).link.outbound := by
  unfold respond
  repeat first | with_reducible exact g | with_reducible apply handOver_grows

@[simp] theorem answerKey_link (k : Initiator) (t : Tag) (a : Answer) (sm : Option Summary) (s : State) :
    (answerKey k t a sm s).link.state = s.link.state ∧ (answerKey k t a sm s).link.signal = s.link.signal ∧
      (answerKey k t a sm s).link.resetCount = s.link.resetCount ∧ (answerKey k t a sm s).link.strap = s.link.strap ∧
      (answerKey k t a sm s).link.framing = s.link.framing ∧ (answerKey k t a sm s).link.rx = s.link.rx ∧
      (answerKey k t a sm s).link.farPause = s.link.farPause := by simp [answerKey]

theorem answerKey_grows (k : Initiator) (t : Tag) (a : Answer) (sm : Option Summary) (s : State) {old : List Message} (g : old <+: s.link.outbound) :
    old <+: (answerKey k t a sm s).link.outbound := by
  unfold answerKey
  repeat first | with_reducible exact g | with_reducible apply respond_grows

@[simp] theorem handNotice_link (s : State) :
    (handNotice s).link.state = s.link.state ∧ (handNotice s).link.signal = s.link.signal ∧
      (handNotice s).link.resetCount = s.link.resetCount ∧ (handNotice s).link.strap = s.link.strap ∧
      (handNotice s).link.framing = s.link.framing ∧ (handNotice s).link.rx = s.link.rx ∧
      (handNotice s).link.farPause = s.link.farPause := by simp [handNotice]

theorem handNotice_grows (s : State) {old : List Message} (g : old <+: s.link.outbound) :
    old <+: (handNotice s).link.outbound := by
  unfold handNotice
  repeat first | with_reducible exact g | with_reducible apply handOver_grows

@[simp] theorem endAbandonment_link (k : Initiator) (s : State) :
    (endAbandonment k s).link.state = s.link.state ∧ (endAbandonment k s).link.signal = s.link.signal ∧
      (endAbandonment k s).link.resetCount = s.link.resetCount ∧ (endAbandonment k s).link.strap = s.link.strap ∧
      (endAbandonment k s).link.framing = s.link.framing ∧ (endAbandonment k s).link.rx = s.link.rx ∧
      (endAbandonment k s).link.farPause = s.link.farPause := by
  unfold endAbandonment
  try dsimp only
  (repeat' split) <;> simp

theorem endAbandonment_grows (k : Initiator) (s : State) {old : List Message} (g : old <+: s.link.outbound) :
    old <+: (endAbandonment k s).link.outbound := by
  unfold endAbandonment
  try dsimp only
  (repeat' split) <;>
    (repeat first | with_reducible exact g | with_reducible apply answerKey_grows | simp only [State.setInitiator_link])

@[simp] theorem answerSlot_link (i : SlotId) (x : Slot) (a : Answer) (s : State) :
    (answerSlot i x a s).link.state = s.link.state ∧ (answerSlot i x a s).link.signal = s.link.signal ∧
      (answerSlot i x a s).link.resetCount = s.link.resetCount ∧ (answerSlot i x a s).link.strap = s.link.strap ∧
      (answerSlot i x a s).link.framing = s.link.framing ∧ (answerSlot i x a s).link.rx = s.link.rx ∧
      (answerSlot i x a s).link.farPause = s.link.farPause := by
  unfold answerSlot
  try dsimp only
  (repeat' split) <;> simp

theorem answerSlot_grows (i : SlotId) (x : Slot) (a : Answer) (s : State) {old : List Message} (g : old <+: s.link.outbound) :
    old <+: (answerSlot i x a s).link.outbound := by
  unfold answerSlot
  try dsimp only
  (repeat' split) <;>
    (repeat first | with_reducible exact g | with_reducible apply respond_grows | simp only [State.setSlot_link])

@[simp] theorem answerRetire_link (e : EntryId) (s : State) :
    (answerRetire e s).link.state = s.link.state ∧ (answerRetire e s).link.signal = s.link.signal ∧
      (answerRetire e s).link.resetCount = s.link.resetCount ∧ (answerRetire e s).link.strap = s.link.strap ∧
      (answerRetire e s).link.framing = s.link.framing ∧ (answerRetire e s).link.rx = s.link.rx ∧
      (answerRetire e s).link.farPause = s.link.farPause := by
  unfold answerRetire
  try dsimp only
  (repeat' split) <;> simp

theorem answerRetire_grows (e : EntryId) (s : State) {old : List Message} (g : old <+: s.link.outbound) :
    old <+: (answerRetire e s).link.outbound := by
  unfold answerRetire
  try dsimp only
  (repeat' split) <;>
    (repeat first | with_reducible exact g | with_reducible apply endAbandonment_grows | with_reducible apply answerSlot_grows | simp only [freeSlotOf_frame, State.setManagement_link])

@[simp] theorem lowerCount_link (e : EntryId) (s : State) :
    (lowerCount e s).link.state = s.link.state ∧ (lowerCount e s).link.signal = s.link.signal ∧
      (lowerCount e s).link.resetCount = s.link.resetCount ∧ (lowerCount e s).link.strap = s.link.strap ∧
      (lowerCount e s).link.framing = s.link.framing ∧ (lowerCount e s).link.rx = s.link.rx ∧
      (lowerCount e s).link.farPause = s.link.farPause := by
  unfold lowerCount
  try dsimp only
  (repeat' split) <;> simp

theorem lowerCount_grows (e : EntryId) (s : State) {old : List Message} (g : old <+: s.link.outbound) :
    old <+: (lowerCount e s).link.outbound := by
  unfold lowerCount
  try dsimp only
  (repeat' split) <;>
    (repeat first | with_reducible exact g | with_reducible apply answerRetire_grows | simp only [State.setRegion_link])

@[simp] theorem lowerWorkCount_link (w : Work) (s : State) :
    (lowerWorkCount w s).link.state = s.link.state ∧ (lowerWorkCount w s).link.signal = s.link.signal ∧
      (lowerWorkCount w s).link.resetCount = s.link.resetCount ∧ (lowerWorkCount w s).link.strap = s.link.strap ∧
      (lowerWorkCount w s).link.framing = s.link.framing ∧ (lowerWorkCount w s).link.rx = s.link.rx ∧
      (lowerWorkCount w s).link.farPause = s.link.farPause := by
  unfold lowerWorkCount
  try dsimp only
  (repeat' split) <;> simp

theorem lowerWorkCount_grows (w : Work) (s : State) {old : List Message} (g : old <+: s.link.outbound) :
    old <+: (lowerWorkCount w s).link.outbound := by
  unfold lowerWorkCount
  try dsimp only
  (repeat' split) <;>
    (repeat first | with_reducible exact g | with_reducible apply lowerCount_grows)

@[simp] theorem releaseSlot_link (i : SlotId) (x : Slot) (s : State) :
    (releaseSlot i x s).link.state = s.link.state ∧ (releaseSlot i x s).link.signal = s.link.signal ∧
      (releaseSlot i x s).link.resetCount = s.link.resetCount ∧ (releaseSlot i x s).link.strap = s.link.strap ∧
      (releaseSlot i x s).link.framing = s.link.framing ∧ (releaseSlot i x s).link.rx = s.link.rx ∧
      (releaseSlot i x s).link.farPause = s.link.farPause := by simp [releaseSlot]

theorem releaseSlot_grows (i : SlotId) (x : Slot) (s : State) {old : List Message} (g : old <+: s.link.outbound) :
    old <+: (releaseSlot i x s).link.outbound := by
  unfold releaseSlot
  repeat first | with_reducible exact g | with_reducible apply endAbandonment_grows | with_reducible apply lowerWorkCount_grows | simp only [freeSlotOf_frame, leaveChain_frame]

@[simp] theorem finishSlot_link (i : SlotId) (a : Answer) (s : State) :
    (finishSlot i a s).link.state = s.link.state ∧ (finishSlot i a s).link.signal = s.link.signal ∧
      (finishSlot i a s).link.resetCount = s.link.resetCount ∧ (finishSlot i a s).link.strap = s.link.strap ∧
      (finishSlot i a s).link.framing = s.link.framing ∧ (finishSlot i a s).link.rx = s.link.rx ∧
      (finishSlot i a s).link.farPause = s.link.farPause := by
  unfold finishSlot
  try dsimp only
  (repeat' split) <;> simp

theorem finishSlot_grows (i : SlotId) (a : Answer) (s : State) {old : List Message} (g : old <+: s.link.outbound) :
    old <+: (finishSlot i a s).link.outbound := by
  unfold finishSlot
  try dsimp only
  (repeat' split) <;>
    (repeat first | with_reducible exact g | with_reducible apply answerSlot_grows | with_reducible apply releaseSlot_grows | simp only [reportToChain_frame])

@[simp] theorem skipSlots_link (l : List SlotId) (s : State) :
    (skipSlots l s).link.state = s.link.state ∧ (skipSlots l s).link.signal = s.link.signal ∧
      (skipSlots l s).link.resetCount = s.link.resetCount ∧ (skipSlots l s).link.strap = s.link.strap ∧
      (skipSlots l s).link.framing = s.link.framing ∧ (skipSlots l s).link.rx = s.link.rx ∧
      (skipSlots l s).link.farPause = s.link.farPause := by
  induction l generalizing s with
  | nil => simp [skipSlots]
  | cons i l ih => simp [skipSlots, ih]

theorem skipSlots_grows (l : List SlotId) (s : State) {old : List Message} (g : old <+: s.link.outbound) :
    old <+: (skipSlots l s).link.outbound := by
  induction l generalizing s with
  | nil => exact g
  | cons i l ih => exact ih _ (finishSlot_grows _ _ _ g)

@[simp] theorem sweepChain_link (k : Initiator) (s : State) :
    (sweepChain k s).link.state = s.link.state ∧ (sweepChain k s).link.signal = s.link.signal ∧
      (sweepChain k s).link.resetCount = s.link.resetCount ∧ (sweepChain k s).link.strap = s.link.strap ∧
      (sweepChain k s).link.framing = s.link.framing ∧ (sweepChain k s).link.rx = s.link.rx ∧
      (sweepChain k s).link.farPause = s.link.farPause := by simp [sweepChain]

theorem sweepChain_grows (k : Initiator) (s : State) {old : List Message} (g : old <+: s.link.outbound) :
    old <+: (sweepChain k s).link.outbound := by
  unfold sweepChain
  repeat first | with_reducible exact g | with_reducible apply skipSlots_grows

@[simp] theorem failSlot_link (i : SlotId) (c : FaultCode) (s : State) :
    (failSlot i c s).link.state = s.link.state ∧ (failSlot i c s).link.signal = s.link.signal ∧
      (failSlot i c s).link.resetCount = s.link.resetCount ∧ (failSlot i c s).link.strap = s.link.strap ∧
      (failSlot i c s).link.framing = s.link.framing ∧ (failSlot i c s).link.rx = s.link.rx ∧
      (failSlot i c s).link.farPause = s.link.farPause := by
  unfold failSlot
  try dsimp only
  (repeat' split) <;> simp

theorem failSlot_grows (i : SlotId) (c : FaultCode) (s : State) {old : List Message} (g : old <+: s.link.outbound) :
    old <+: (failSlot i c s).link.outbound := by
  unfold failSlot
  try dsimp only
  (repeat' split) <;>
    (repeat first | with_reducible exact g | with_reducible apply finishSlot_grows | with_reducible apply sweepChain_grows)

@[simp] theorem joinPort_link (p : PortId) (i : SlotId) (s : State) :
    (joinPort p i s).link.state = s.link.state ∧ (joinPort p i s).link.signal = s.link.signal ∧
      (joinPort p i s).link.resetCount = s.link.resetCount ∧ (joinPort p i s).link.strap = s.link.strap ∧
      (joinPort p i s).link.framing = s.link.framing ∧ (joinPort p i s).link.rx = s.link.rx ∧
      (joinPort p i s).link.farPause = s.link.farPause := by
  unfold joinPort
  try dsimp only
  (repeat' split) <;> simp

theorem joinPort_grows (p : PortId) (i : SlotId) (s : State) {old : List Message} (g : old <+: s.link.outbound) :
    old <+: (joinPort p i s).link.outbound := by
  unfold joinPort
  try dsimp only
  (repeat' split) <;>
    (repeat first | with_reducible exact g | with_reducible apply failSlot_grows | simp only [arbiter_frame, State.setPort_link])

@[simp] theorem loseUnlocks_link (l : List SlotId) (s : State) :
    (loseUnlocks l s).link.state = s.link.state ∧ (loseUnlocks l s).link.signal = s.link.signal ∧
      (loseUnlocks l s).link.resetCount = s.link.resetCount ∧ (loseUnlocks l s).link.strap = s.link.strap ∧
      (loseUnlocks l s).link.framing = s.link.framing ∧ (loseUnlocks l s).link.rx = s.link.rx ∧
      (loseUnlocks l s).link.farPause = s.link.farPause := by
  induction l generalizing s with
  | nil => simp [loseUnlocks]
  | cons i l ih => simp [loseUnlocks, ih]

theorem loseUnlocks_grows (l : List SlotId) (s : State) {old : List Message} (g : old <+: s.link.outbound) :
    old <+: (loseUnlocks l s).link.outbound := by
  induction l generalizing s with
  | nil => exact g
  | cons i l ih => exact ih _ (finishSlot_grows _ _ _ g)

@[simp] theorem dropLock_link (p : PortId) (l : LockRecord) (x : Bool) (s : State) :
    (dropLock p l x s).link.state = s.link.state ∧ (dropLock p l x s).link.signal = s.link.signal ∧
      (dropLock p l x s).link.resetCount = s.link.resetCount ∧ (dropLock p l x s).link.strap = s.link.strap ∧
      (dropLock p l x s).link.framing = s.link.framing ∧ (dropLock p l x s).link.rx = s.link.rx ∧
      (dropLock p l x s).link.farPause = s.link.farPause := by
  unfold dropLock
  try dsimp only
  (repeat' split) <;> simp

theorem dropLock_grows (p : PortId) (l : LockRecord) (x : Bool) (s : State) {old : List Message} (g : old <+: s.link.outbound) :
    old <+: (dropLock p l x s).link.outbound := by
  unfold dropLock
  try dsimp only
  (repeat' split) <;>
    (repeat first | with_reducible exact g | with_reducible apply lowerCount_grows | with_reducible apply loseUnlocks_grows | simp only [raiseIncident_frame, State.setPort_link])

@[simp] theorem removeLock_link (p : PortId) (x : Bool) (s : State) :
    (removeLock p x s).link.state = s.link.state ∧ (removeLock p x s).link.signal = s.link.signal ∧
      (removeLock p x s).link.resetCount = s.link.resetCount ∧ (removeLock p x s).link.strap = s.link.strap ∧
      (removeLock p x s).link.framing = s.link.framing ∧ (removeLock p x s).link.rx = s.link.rx ∧
      (removeLock p x s).link.farPause = s.link.farPause := by
  unfold removeLock
  try dsimp only
  (repeat' split) <;> simp

theorem removeLock_grows (p : PortId) (x : Bool) (s : State) {old : List Message} (g : old <+: s.link.outbound) :
    old <+: (removeLock p x s).link.outbound := by
  unfold removeLock
  try dsimp only
  (repeat' split) <;>
    (repeat first | with_reducible exact g | with_reducible apply dropLock_grows | simp only [arbiter_frame])

@[simp] theorem takeBitSlot_link (i : SlotId) (s : State) :
    (takeBitSlot i s).link.state = s.link.state ∧ (takeBitSlot i s).link.signal = s.link.signal ∧
      (takeBitSlot i s).link.resetCount = s.link.resetCount ∧ (takeBitSlot i s).link.strap = s.link.strap ∧
      (takeBitSlot i s).link.framing = s.link.framing ∧ (takeBitSlot i s).link.rx = s.link.rx ∧
      (takeBitSlot i s).link.farPause = s.link.farPause := by
  unfold takeBitSlot
  try dsimp only
  (repeat' split) <;> simp

theorem takeBitSlot_grows (i : SlotId) (s : State) {old : List Message} (g : old <+: s.link.outbound) :
    old <+: (takeBitSlot i s).link.outbound := by
  unfold takeBitSlot
  try dsimp only
  (repeat' split) <;>
    (repeat first | with_reducible exact g | with_reducible apply failSlot_grows | simp only [State.setSlot_link, State.setLine_link])

@[simp] theorem lineArbiterFor_link (n : Nat) (s : State) :
    (lineArbiterFor n s).link.state = s.link.state ∧ (lineArbiterFor n s).link.signal = s.link.signal ∧
      (lineArbiterFor n s).link.resetCount = s.link.resetCount ∧ (lineArbiterFor n s).link.strap = s.link.strap ∧
      (lineArbiterFor n s).link.framing = s.link.framing ∧ (lineArbiterFor n s).link.rx = s.link.rx ∧
      (lineArbiterFor n s).link.farPause = s.link.farPause := by
  induction n generalizing s with
  | zero => simp [lineArbiterFor]
  | succ n ih =>
    unfold lineArbiterFor
    (repeat' split) <;> simp [ih]

theorem lineArbiterFor_grows (n : Nat) (s : State) {old : List Message} (g : old <+: s.link.outbound) :
    old <+: (lineArbiterFor n s).link.outbound := by
  induction n generalizing s with
  | zero => exact g
  | succ n ih =>
    unfold lineArbiterFor
    (repeat' split) <;> first | exact g | exact ih _ (takeBitSlot_grows _ _ (by simpa using g)) | simpa using g

@[simp] theorem lineArbiter_link (s : State) :
    (lineArbiter s).link.state = s.link.state ∧ (lineArbiter s).link.signal = s.link.signal ∧
      (lineArbiter s).link.resetCount = s.link.resetCount ∧ (lineArbiter s).link.strap = s.link.strap ∧
      (lineArbiter s).link.framing = s.link.framing ∧ (lineArbiter s).link.rx = s.link.rx ∧
      (lineArbiter s).link.farPause = s.link.farPause := by simp [lineArbiter]

theorem lineArbiter_grows (s : State) {old : List Message} (g : old <+: s.link.outbound) :
    old <+: (lineArbiter s).link.outbound := by
  unfold lineArbiter
  repeat first | with_reducible exact g | with_reducible apply lineArbiterFor_grows

@[simp] theorem joinLine_link (i : SlotId) (s : State) :
    (joinLine i s).link.state = s.link.state ∧ (joinLine i s).link.signal = s.link.signal ∧
      (joinLine i s).link.resetCount = s.link.resetCount ∧ (joinLine i s).link.strap = s.link.strap ∧
      (joinLine i s).link.framing = s.link.framing ∧ (joinLine i s).link.rx = s.link.rx ∧
      (joinLine i s).link.farPause = s.link.farPause := by simp [joinLine]

theorem joinLine_grows (i : SlotId) (s : State) {old : List Message} (g : old <+: s.link.outbound) :
    old <+: (joinLine i s).link.outbound := by
  unfold joinLine
  repeat first | with_reducible exact g | with_reducible apply lineArbiter_grows | simp only [State.setLine_link]

@[simp] theorem joinDestination_link (i : SlotId) (w : Work) (s : State) :
    (joinDestination i w s).link.state = s.link.state ∧ (joinDestination i w s).link.signal = s.link.signal ∧
      (joinDestination i w s).link.resetCount = s.link.resetCount ∧ (joinDestination i w s).link.strap = s.link.strap ∧
      (joinDestination i w s).link.framing = s.link.framing ∧ (joinDestination i w s).link.rx = s.link.rx ∧
      (joinDestination i w s).link.farPause = s.link.farPause := by
  unfold joinDestination
  try dsimp only
  (repeat' split) <;> simp

theorem joinDestination_grows (i : SlotId) (w : Work) (s : State) {old : List Message} (g : old <+: s.link.outbound) :
    old <+: (joinDestination i w s).link.outbound := by
  unfold joinDestination
  try dsimp only
  (repeat' split) <;>
    (repeat first | with_reducible exact g | with_reducible apply joinPort_grows | with_reducible apply joinLine_grows | simp only [setSlotState_frame, State.setSlot_link, State.setManagement_link])

@[simp] theorem advanceChain_link (k : Initiator) (s : State) :
    (advanceChain k s).link.state = s.link.state ∧ (advanceChain k s).link.signal = s.link.signal ∧
      (advanceChain k s).link.resetCount = s.link.resetCount ∧ (advanceChain k s).link.strap = s.link.strap ∧
      (advanceChain k s).link.framing = s.link.framing ∧ (advanceChain k s).link.rx = s.link.rx ∧
      (advanceChain k s).link.farPause = s.link.farPause := by
  unfold advanceChain
  try dsimp only
  (repeat' split) <;> simp

theorem advanceChain_grows (k : Initiator) (s : State) {old : List Message} (g : old <+: s.link.outbound) :
    old <+: (advanceChain k s).link.outbound := by
  unfold advanceChain
  try dsimp only
  (repeat' split) <;>
    (repeat first | with_reducible exact g | with_reducible apply sweepChain_grows | with_reducible apply joinDestination_grows)

@[simp] theorem completeSlot_link (i : SlotId) (a : Answer) (s : State) :
    (completeSlot i a s).link.state = s.link.state ∧ (completeSlot i a s).link.signal = s.link.signal ∧
      (completeSlot i a s).link.resetCount = s.link.resetCount ∧ (completeSlot i a s).link.strap = s.link.strap ∧
      (completeSlot i a s).link.framing = s.link.framing ∧ (completeSlot i a s).link.rx = s.link.rx ∧
      (completeSlot i a s).link.farPause = s.link.farPause := by
  unfold completeSlot
  try dsimp only
  (repeat' split) <;> simp

theorem completeSlot_grows (i : SlotId) (a : Answer) (s : State) {old : List Message} (g : old <+: s.link.outbound) :
    old <+: (completeSlot i a s).link.outbound := by
  unfold completeSlot
  try dsimp only
  (repeat' split) <;>
    (repeat first | with_reducible exact g | with_reducible apply finishSlot_grows | with_reducible apply advanceChain_grows)

@[simp] theorem buildMessage_link (src : Source) (s : State) :
    (buildMessage src s).link.state = s.link.state ∧ (buildMessage src s).link.signal = s.link.signal ∧
      (buildMessage src s).link.resetCount = s.link.resetCount ∧ (buildMessage src s).link.strap = s.link.strap ∧
      (buildMessage src s).link.framing = s.link.framing ∧ (buildMessage src s).link.rx = s.link.rx ∧
      (buildMessage src s).link.farPause = s.link.farPause := by simp [buildMessage]

theorem buildMessage_grows (src : Source) (s : State) {old : List Message} (g : old <+: s.link.outbound) :
    old <+: (buildMessage src s).link.outbound := by
  unfold buildMessage
  repeat first | with_reducible exact g | with_reducible apply handOver_grows | simp only [copyForSource_frame, State.setEvents_link]

@[simp] theorem selectEvent_link (s : State) :
    (selectEvent s).link.state = s.link.state ∧ (selectEvent s).link.signal = s.link.signal ∧
      (selectEvent s).link.resetCount = s.link.resetCount ∧ (selectEvent s).link.strap = s.link.strap ∧
      (selectEvent s).link.framing = s.link.framing ∧ (selectEvent s).link.rx = s.link.rx ∧
      (selectEvent s).link.farPause = s.link.farPause := by
  unfold selectEvent
  try dsimp only
  (repeat' split) <;> simp

theorem selectEvent_grows (s : State) {old : List Message} (g : old <+: s.link.outbound) :
    old <+: (selectEvent s).link.outbound := by
  unfold selectEvent
  try dsimp only
  (repeat' split) <;>
    (repeat first | with_reducible exact g | with_reducible apply buildMessage_grows)

@[simp] theorem resendMessage_link (m : EventMessage) (n : Nat) (s : State) :
    (resendMessage m n s).link.state = s.link.state ∧ (resendMessage m n s).link.signal = s.link.signal ∧
      (resendMessage m n s).link.resetCount = s.link.resetCount ∧ (resendMessage m n s).link.strap = s.link.strap ∧
      (resendMessage m n s).link.framing = s.link.framing ∧ (resendMessage m n s).link.rx = s.link.rx ∧
      (resendMessage m n s).link.farPause = s.link.farPause := by simp [resendMessage]

theorem resendMessage_grows (m : EventMessage) (n : Nat) (s : State) {old : List Message} (g : old <+: s.link.outbound) :
    old <+: (resendMessage m n s).link.outbound := by
  unfold resendMessage
  repeat first | with_reducible exact g | with_reducible apply handOver_grows | simp only [State.setEvents_link]

@[simp] theorem lockAtEnd_link (p : PortId) (w : PortWork) (b : Bool) (s : State) :
    (lockAtEnd p w b s).link.state = s.link.state ∧ (lockAtEnd p w b s).link.signal = s.link.signal ∧
      (lockAtEnd p w b s).link.resetCount = s.link.resetCount ∧ (lockAtEnd p w b s).link.strap = s.link.strap ∧
      (lockAtEnd p w b s).link.framing = s.link.framing ∧ (lockAtEnd p w b s).link.rx = s.link.rx ∧
      (lockAtEnd p w b s).link.farPause = s.link.farPause := by
  unfold lockAtEnd
  try dsimp only
  (repeat' split) <;> simp

theorem lockAtEnd_grows (p : PortId) (w : PortWork) (b : Bool) (s : State) {old : List Message} (g : old <+: s.link.outbound) :
    old <+: (lockAtEnd p w b s).link.outbound := by
  unfold lockAtEnd
  try dsimp only
  (repeat' split) <;>
    (repeat first | with_reducible exact g | with_reducible apply removeLock_grows)

@[simp] theorem endService_link (p : PortId) (i : SlotId) (a : Answer) (b : Bool) (s : State) :
    (endService p i a b s).link.state = s.link.state ∧ (endService p i a b s).link.signal = s.link.signal ∧
      (endService p i a b s).link.resetCount = s.link.resetCount ∧ (endService p i a b s).link.strap = s.link.strap ∧
      (endService p i a b s).link.framing = s.link.framing ∧ (endService p i a b s).link.rx = s.link.rx ∧
      (endService p i a b s).link.farPause = s.link.farPause := by
  unfold endService
  try dsimp only
  (repeat' split) <;> simp

theorem endService_grows (p : PortId) (i : SlotId) (a : Answer) (b : Bool) (s : State) {old : List Message} (g : old <+: s.link.outbound) :
    old <+: (endService p i a b s).link.outbound := by
  unfold endService
  try dsimp only
  (repeat' split) <;>
    (repeat first | with_reducible exact g | with_reducible apply completeSlot_grows | with_reducible apply lockAtEnd_grows | simp only [arbiter_frame, idlePort_frame, postedFailAtEnd_frame])

@[simp] theorem stepSucceeds_link (p : PortId) (cur : Issued) (b : SegmentBytes) (s : State) :
    (stepSucceeds p cur b s).link.state = s.link.state ∧ (stepSucceeds p cur b s).link.signal = s.link.signal ∧
      (stepSucceeds p cur b s).link.resetCount = s.link.resetCount ∧ (stepSucceeds p cur b s).link.strap = s.link.strap ∧
      (stepSucceeds p cur b s).link.framing = s.link.framing ∧ (stepSucceeds p cur b s).link.rx = s.link.rx ∧
      (stepSucceeds p cur b s).link.farPause = s.link.farPause := by
  unfold stepSucceeds
  try dsimp only
  (repeat' split) <;> simp

theorem stepSucceeds_grows (p : PortId) (cur : Issued) (b : SegmentBytes) (s : State) {old : List Message} (g : old <+: s.link.outbound) :
    old <+: (stepSucceeds p cur b s).link.outbound := by
  unfold stepSucceeds
  try dsimp only
  (repeat' split) <;>
    (repeat first | with_reducible exact g | with_reducible apply endService_grows | simp only [presentStepTwo_frame])

@[simp] theorem stepFails_link (p : PortId) (cur : Issued) (s : State) :
    (stepFails p cur s).link.state = s.link.state ∧ (stepFails p cur s).link.signal = s.link.signal ∧
      (stepFails p cur s).link.resetCount = s.link.resetCount ∧ (stepFails p cur s).link.strap = s.link.strap ∧
      (stepFails p cur s).link.framing = s.link.framing ∧ (stepFails p cur s).link.rx = s.link.rx ∧
      (stepFails p cur s).link.farPause = s.link.farPause := by simp [stepFails]

theorem stepFails_grows (p : PortId) (cur : Issued) (s : State) {old : List Message} (g : old <+: s.link.outbound) :
    old <+: (stepFails p cur s).link.outbound := by
  unfold stepFails
  repeat first | with_reducible exact g | with_reducible apply endService_grows | simp only [raiseIncident_frame]

@[simp] theorem flushQueue_link (p : PortId) (l : List SlotId) (s : State) :
    (flushQueue p l s).link.state = s.link.state ∧ (flushQueue p l s).link.signal = s.link.signal ∧
      (flushQueue p l s).link.resetCount = s.link.resetCount ∧ (flushQueue p l s).link.strap = s.link.strap ∧
      (flushQueue p l s).link.framing = s.link.framing ∧ (flushQueue p l s).link.rx = s.link.rx ∧
      (flushQueue p l s).link.farPause = s.link.farPause := by
  induction l generalizing s with
  | nil => simp [flushQueue]
  | cons i l ih =>
    unfold flushQueue
    (repeat' split) <;> simp [ih]

theorem flushQueue_grows (p : PortId) (l : List SlotId) (s : State) {old : List Message} (g : old <+: s.link.outbound) :
    old <+: (flushQueue p l s).link.outbound := by
  induction l generalizing s with
  | nil => exact g
  | cons i l ih =>
    unfold flushQueue
    (repeat' split)
    · exact ih _ (finishSlot_grows _ _ _ g)
    · exact ih _ (failSlot_grows _ _ _ g)
    · exact ih _ g

@[simp] theorem setPortDown_link (p : PortId) (s : State) :
    (setPortDown p s).link.state = s.link.state ∧ (setPortDown p s).link.signal = s.link.signal ∧
      (setPortDown p s).link.resetCount = s.link.resetCount ∧ (setPortDown p s).link.strap = s.link.strap ∧
      (setPortDown p s).link.framing = s.link.framing ∧ (setPortDown p s).link.rx = s.link.rx ∧
      (setPortDown p s).link.farPause = s.link.farPause := by simp [setPortDown]

theorem setPortDown_grows (p : PortId) (s : State) {old : List Message} (g : old <+: s.link.outbound) :
    old <+: (setPortDown p s).link.outbound := by
  unfold setPortDown
  repeat first | with_reducible exact g | with_reducible apply removeLock_grows | with_reducible apply flushQueue_grows | simp only [State.setPort_link]

@[simp] theorem closeAtRefusal_link (h : ReqHeader) (a : Answer) (s : State) :
    (closeAtRefusal h a s).link.state = s.link.state ∧ (closeAtRefusal h a s).link.signal = s.link.signal ∧
      (closeAtRefusal h a s).link.resetCount = s.link.resetCount ∧ (closeAtRefusal h a s).link.strap = s.link.strap ∧
      (closeAtRefusal h a s).link.framing = s.link.framing ∧ (closeAtRefusal h a s).link.rx = s.link.rx ∧
      (closeAtRefusal h a s).link.farPause = s.link.farPause := by simp [closeAtRefusal]

theorem closeAtRefusal_grows (h : ReqHeader) (a : Answer) (s : State) {old : List Message} (g : old <+: s.link.outbound) :
    old <+: (closeAtRefusal h a s).link.outbound := by
  unfold closeAtRefusal
  repeat first | with_reducible exact g | with_reducible apply answerKey_grows | with_reducible apply sweepChain_grows | simp only [State.setChain_link]

@[simp] theorem answerMember_link (h : ReqHeader) (a : Answer) (s : State) :
    (answerMember h a s).link.state = s.link.state ∧ (answerMember h a s).link.signal = s.link.signal ∧
      (answerMember h a s).link.resetCount = s.link.resetCount ∧ (answerMember h a s).link.strap = s.link.strap ∧
      (answerMember h a s).link.framing = s.link.framing ∧ (answerMember h a s).link.rx = s.link.rx ∧
      (answerMember h a s).link.farPause = s.link.farPause := by
  unfold answerMember
  try dsimp only
  (repeat' split) <;> simp

theorem answerMember_grows (h : ReqHeader) (a : Answer) (s : State) {old : List Message} (g : old <+: s.link.outbound) :
    old <+: (answerMember h a s).link.outbound := by
  unfold answerMember
  try dsimp only
  (repeat' split) <;>
    (repeat first | with_reducible exact g | with_reducible apply answerKey_grows | with_reducible apply closeAtRefusal_grows)

@[simp] theorem refuseSkipped_link (h : ReqHeader) (s : State) :
    (refuseSkipped h s).link.state = s.link.state ∧ (refuseSkipped h s).link.signal = s.link.signal ∧
      (refuseSkipped h s).link.resetCount = s.link.resetCount ∧ (refuseSkipped h s).link.strap = s.link.strap ∧
      (refuseSkipped h s).link.framing = s.link.framing ∧ (refuseSkipped h s).link.rx = s.link.rx ∧
      (refuseSkipped h s).link.farPause = s.link.farPause := by simp [refuseSkipped]

theorem refuseSkipped_grows (h : ReqHeader) (s : State) {old : List Message} (g : old <+: s.link.outbound) :
    old <+: (refuseSkipped h s).link.outbound := by
  unfold refuseSkipped
  repeat first | with_reducible exact g | with_reducible apply answerMember_grows | simp only [State.setChain_link]

@[simp] theorem refuseChainLong_link (h : ReqHeader) (s : State) :
    (refuseChainLong h s).link.state = s.link.state ∧ (refuseChainLong h s).link.signal = s.link.signal ∧
      (refuseChainLong h s).link.resetCount = s.link.resetCount ∧ (refuseChainLong h s).link.strap = s.link.strap ∧
      (refuseChainLong h s).link.framing = s.link.framing ∧ (refuseChainLong h s).link.rx = s.link.rx ∧
      (refuseChainLong h s).link.farPause = s.link.farPause := by simp [refuseChainLong]

theorem refuseChainLong_grows (h : ReqHeader) (s : State) {old : List Message} (g : old <+: s.link.outbound) :
    old <+: (refuseChainLong h s).link.outbound := by
  unfold refuseChainLong
  repeat first | with_reducible exact g | with_reducible apply answerMember_grows | simp only [State.setChain_link]

@[simp] theorem refuseFailed_link (h : ReqHeader) (c : FaultCode) (s : State) :
    (refuseFailed h c s).link.state = s.link.state ∧ (refuseFailed h c s).link.signal = s.link.signal ∧
      (refuseFailed h c s).link.resetCount = s.link.resetCount ∧ (refuseFailed h c s).link.strap = s.link.strap ∧
      (refuseFailed h c s).link.framing = s.link.framing ∧ (refuseFailed h c s).link.rx = s.link.rx ∧
      (refuseFailed h c s).link.farPause = s.link.farPause := by simp [refuseFailed]

theorem refuseFailed_grows (h : ReqHeader) (c : FaultCode) (s : State) {old : List Message} (g : old <+: s.link.outbound) :
    old <+: (refuseFailed h c s).link.outbound := by
  unfold refuseFailed
  repeat first | with_reducible exact g | with_reducible apply answerMember_grows | simp only [State.setChain_link]

@[simp] theorem answerPosted_link (i : SlotId) (h : ReqHeader) (s : State) :
    (answerPosted i h s).link.state = s.link.state ∧ (answerPosted i h s).link.signal = s.link.signal ∧
      (answerPosted i h s).link.resetCount = s.link.resetCount ∧ (answerPosted i h s).link.strap = s.link.strap ∧
      (answerPosted i h s).link.framing = s.link.framing ∧ (answerPosted i h s).link.rx = s.link.rx ∧
      (answerPosted i h s).link.farPause = s.link.farPause := by
  unfold answerPosted
  try dsimp only
  (repeat' split) <;> simp

theorem answerPosted_grows (i : SlotId) (h : ReqHeader) (s : State) {old : List Message} (g : old <+: s.link.outbound) :
    old <+: (answerPosted i h s).link.outbound := by
  unfold answerPosted
  try dsimp only
  (repeat' split) <;>
    (repeat first | with_reducible exact g | with_reducible apply answerKey_grows | simp only [State.setSlot_link])

@[simp] theorem routeSlot_link (i : SlotId) (w : Work) (b : Bool) (s : State) :
    (routeSlot i w b s).link.state = s.link.state ∧ (routeSlot i w b s).link.signal = s.link.signal ∧
      (routeSlot i w b s).link.resetCount = s.link.resetCount ∧ (routeSlot i w b s).link.strap = s.link.strap ∧
      (routeSlot i w b s).link.framing = s.link.framing ∧ (routeSlot i w b s).link.rx = s.link.rx ∧
      (routeSlot i w b s).link.farPause = s.link.farPause := by
  unfold routeSlot
  try dsimp only
  (repeat' split) <;> simp

theorem routeSlot_grows (i : SlotId) (w : Work) (b : Bool) (s : State) {old : List Message} (g : old <+: s.link.outbound) :
    old <+: (routeSlot i w b s).link.outbound := by
  unfold routeSlot
  try dsimp only
  (repeat' split) <;>
    (repeat first | with_reducible exact g | with_reducible apply joinDestination_grows)

@[simp] theorem acceptWork_link (h : ReqHeader) (w : Work) (s : State) :
    (acceptWork h w s).link.state = s.link.state ∧ (acceptWork h w s).link.signal = s.link.signal ∧
      (acceptWork h w s).link.resetCount = s.link.resetCount ∧ (acceptWork h w s).link.strap = s.link.strap ∧
      (acceptWork h w s).link.framing = s.link.framing ∧ (acceptWork h w s).link.rx = s.link.rx ∧
      (acceptWork h w s).link.farPause = s.link.farPause := by
  unfold acceptWork
  try dsimp only
  (repeat' split) <;> simp

theorem acceptWork_grows (h : ReqHeader) (w : Work) (s : State) {old : List Message} (g : old <+: s.link.outbound) :
    old <+: (acceptWork h w s).link.outbound := by
  unfold acceptWork
  try dsimp only
  (repeat' split) <;>
    (repeat first | with_reducible exact g | with_reducible apply answerPosted_grows | with_reducible apply routeSlot_grows | simp only [allocateSlot_frame])

@[simp] theorem dropSlot_link (who : InitiatorSet) (i : SlotId) (s : State) :
    (dropSlot who i s).link.state = s.link.state ∧ (dropSlot who i s).link.signal = s.link.signal ∧
      (dropSlot who i s).link.resetCount = s.link.resetCount ∧ (dropSlot who i s).link.strap = s.link.strap ∧
      (dropSlot who i s).link.framing = s.link.framing ∧ (dropSlot who i s).link.rx = s.link.rx ∧
      (dropSlot who i s).link.farPause = s.link.farPause := by
  unfold dropSlot
  try dsimp only
  (repeat' split) <;> simp

theorem dropSlot_grows (who : InitiatorSet) (i : SlotId) (s : State) {old : List Message} (g : old <+: s.link.outbound) :
    old <+: (dropSlot who i s).link.outbound := by
  unfold dropSlot
  try dsimp only
  (repeat' split) <;>
    (repeat first | with_reducible exact g | with_reducible apply lowerWorkCount_grows | simp only [freeSlotOf_frame, leaveQueues_frame])

@[simp] theorem dropOwnedLock_link (who : InitiatorSet) (p : PortId) (s : State) :
    (dropOwnedLock who p s).link.state = s.link.state ∧ (dropOwnedLock who p s).link.signal = s.link.signal ∧
      (dropOwnedLock who p s).link.resetCount = s.link.resetCount ∧ (dropOwnedLock who p s).link.strap = s.link.strap ∧
      (dropOwnedLock who p s).link.framing = s.link.framing ∧ (dropOwnedLock who p s).link.rx = s.link.rx ∧
      (dropOwnedLock who p s).link.farPause = s.link.farPause := by
  unfold dropOwnedLock
  try dsimp only
  (repeat' split) <;> simp

theorem dropOwnedLock_grows (who : InitiatorSet) (p : PortId) (s : State) {old : List Message} (g : old <+: s.link.outbound) :
    old <+: (dropOwnedLock who p s).link.outbound := by
  unfold dropOwnedLock
  try dsimp only
  (repeat' split) <;>
    (repeat first | with_reducible exact g | with_reducible apply removeLock_grows)

theorem forEach_grows {α : Type} {old : List Message} {f : α → State → State}
    (hf : ∀ x s, old <+: s.link.outbound → old <+: (f x s).link.outbound) (l : List α) :
    ∀ s, old <+: s.link.outbound → old <+: (forEach f l s).link.outbound := by
  induction l with
  | nil => exact fun _ h => h
  | cons x l ih => exact fun s h => ih _ (hf x s h)

@[simp] theorem abandonWork_link (who : InitiatorSet) (tag : Option Tag) (s : State) :
    (abandonWork who tag s).link.state = s.link.state ∧ (abandonWork who tag s).link.signal = s.link.signal ∧
      (abandonWork who tag s).link.resetCount = s.link.resetCount ∧ (abandonWork who tag s).link.strap = s.link.strap ∧
      (abandonWork who tag s).link.framing = s.link.framing ∧ (abandonWork who tag s).link.rx = s.link.rx ∧
      (abandonWork who tag s).link.farPause = s.link.farPause := by
  unfold abandonWork
  refine ⟨?_, ?_, ?_, ?_, ?_, ?_, ?_⟩
  · simp [forEach_keeps fun s => s.link.state]
  · simp [forEach_keeps fun s => s.link.signal]
  · simp [forEach_keeps fun s => s.link.resetCount]
  · simp [forEach_keeps fun s => s.link.strap]
  · simp [forEach_keeps fun s => s.link.framing]
  · simp [forEach_keeps fun s => s.link.rx]
  · simp [forEach_keeps fun s => s.link.farPause]

theorem abandonWork_grows (who : InitiatorSet) (tag : Option Tag) (s : State) {old : List Message} (g : old <+: s.link.outbound) :
    old <+: (abandonWork who tag s).link.outbound := by
  unfold abandonWork
  dsimp only
  have h1 := forEach_grows (f := startMode tag) (fun _ _ h => by simpa [startMode] using h) (initiatorsOf who) s g
  have h2 := forEach_grows (f := suppressSlot who) (fun _ _ h => by simpa using h) (List.finRange 32) _ h1
  have h3 := forEach_grows (f := clearChain) (fun _ _ h => by simpa [clearChain] using h) (initiatorsOf who) _ h2
  have h4 := forEach_grows (f := dropSlot who) (fun _ _ h => dropSlot_grows _ _ _ h) (List.finRange 32) _ h3
  exact forEach_grows (f := dropOwnedLock who) (fun _ _ h => dropOwnedLock_grows _ _ _ h) (List.finRange 4) _ h4

@[simp] theorem abandonInitiator_link (k : Initiator) (tag : Tag) (s : State) :
    (abandonInitiator k tag s).link.state = s.link.state ∧ (abandonInitiator k tag s).link.signal = s.link.signal ∧
      (abandonInitiator k tag s).link.resetCount = s.link.resetCount ∧
      (abandonInitiator k tag s).link.strap = s.link.strap ∧ (abandonInitiator k tag s).link.framing = s.link.framing ∧
      (abandonInitiator k tag s).link.rx = s.link.rx ∧ (abandonInitiator k tag s).link.farPause = s.link.farPause := by
  unfold abandonInitiator
  try dsimp only
  (repeat' split) <;> simp

theorem abandonInitiator_grows (k : Initiator) (tag : Tag) (s : State) {old : List Message} (g : old <+: s.link.outbound) :
    old <+: (abandonInitiator k tag s).link.outbound := by
  unfold abandonInitiator
  try dsimp only
  (repeat' split) <;>
    (repeat first | with_reducible exact g | with_reducible apply endAbandonment_grows | with_reducible apply abandonWork_grows | simp only [withdrawMessage_frame])

@[simp] theorem abandonAll_link (s : State) :
    (abandonAll s).link.state = s.link.state ∧ (abandonAll s).link.signal = s.link.signal ∧
      (abandonAll s).link.resetCount = s.link.resetCount ∧ (abandonAll s).link.strap = s.link.strap ∧
      (abandonAll s).link.framing = s.link.framing ∧ (abandonAll s).link.rx = s.link.rx ∧
      (abandonAll s).link.farPause = s.link.farPause := by
  unfold abandonAll
  refine ⟨?_, ?_, ?_, ?_, ?_, ?_, ?_⟩
  · simp [forEach_keeps fun s => s.link.state]
  · simp [forEach_keeps fun s => s.link.signal]
  · simp [forEach_keeps fun s => s.link.resetCount]
  · simp [forEach_keeps fun s => s.link.strap]
  · simp [forEach_keeps fun s => s.link.framing]
  · simp [forEach_keeps fun s => s.link.rx]
  · simp [forEach_keeps fun s => s.link.farPause]

theorem abandonAll_grows (s : State) {old : List Message} (g : old <+: s.link.outbound) :
    old <+: (abandonAll s).link.outbound := by
  unfold abandonAll
  have h1 := abandonWork_grows everyInitiator none s g
  have h2 : old <+: (withdrawMessage (abandonWork everyInitiator none s)).link.outbound := by
    rw [(withdrawMessage_frame _).2.1]; exact h1
  exact forEach_grows (f := endAbandonment) (fun _ _ h => endAbandonment_grows _ _ h) (List.finRange 8) _ h2

@[simp] theorem applySetting_link (p : PortId) (n : Setting) (s : State) :
    (applySetting p n s).link.state = s.link.state ∧ (applySetting p n s).link.signal = s.link.signal ∧
      (applySetting p n s).link.resetCount = s.link.resetCount ∧ (applySetting p n s).link.strap = s.link.strap ∧
      (applySetting p n s).link.framing = s.link.framing ∧ (applySetting p n s).link.rx = s.link.rx ∧
      (applySetting p n s).link.farPause = s.link.farPause := by
  unfold applySetting
  try dsimp only
  (repeat' split) <;> simp

theorem applySetting_grows (p : PortId) (n : Setting) (s : State) {old : List Message} (g : old <+: s.link.outbound) :
    old <+: (applySetting p n s).link.outbound := by
  unfold applySetting
  try dsimp only
  (repeat' split) <;>
    (repeat first | with_reducible exact g | with_reducible apply setPortDown_grows | simp only [setPortUp_frame, State.setPort_link])

@[simp] theorem applySetPort_link (p : PortId) (n : Setting) (a b : Nat) (s : State) :
    (applySetPort p n a b s).link.state = s.link.state ∧ (applySetPort p n a b s).link.signal = s.link.signal ∧
      (applySetPort p n a b s).link.resetCount = s.link.resetCount ∧ (applySetPort p n a b s).link.strap = s.link.strap ∧
      (applySetPort p n a b s).link.framing = s.link.framing ∧ (applySetPort p n a b s).link.rx = s.link.rx ∧
      (applySetPort p n a b s).link.farPause = s.link.farPause := by simp [applySetPort]

theorem applySetPort_grows (p : PortId) (n : Setting) (a b : Nat) (s : State) {old : List Message} (g : old <+: s.link.outbound) :
    old <+: (applySetPort p n a b s).link.outbound := by
  unfold applySetPort
  repeat first | with_reducible exact g | with_reducible apply applySetting_grows | simp only [State.setPort_link]

@[simp] theorem claimSetPort_link (p n l h : Byte) (s : State) :
    (claimSetPort p n l h s).state.link.state = s.link.state ∧ (claimSetPort p n l h s).state.link.signal = s.link.signal ∧
      (claimSetPort p n l h s).state.link.resetCount = s.link.resetCount ∧
      (claimSetPort p n l h s).state.link.strap = s.link.strap ∧
      (claimSetPort p n l h s).state.link.framing = s.link.framing ∧ (claimSetPort p n l h s).state.link.rx = s.link.rx ∧
      (claimSetPort p n l h s).state.link.farPause = s.link.farPause := by
  unfold claimSetPort
  try dsimp only
  (repeat' split) <;> simp [unchanged, badValue, carriedOut, returned]

theorem claimSetPort_grows (p n l h : Byte) (s : State) {old : List Message} (g : old <+: s.link.outbound) :
    old <+: (claimSetPort p n l h s).state.link.outbound := by
  unfold claimSetPort
  try dsimp only
  (repeat' split) <;>
    (repeat first | with_reducible exact g | with_reducible apply applySetPort_grows | simp only [unchanged, badValue, carriedOut])

@[simp] theorem claimSetStation_link (o : StationOperands) (s : State) :
    (claimSetStation o s).state.link.state = s.link.state ∧ (claimSetStation o s).state.link.signal = s.link.signal ∧
      (claimSetStation o s).state.link.resetCount = s.link.resetCount ∧
      (claimSetStation o s).state.link.strap = s.link.strap ∧ (claimSetStation o s).state.link.framing = s.link.framing ∧
      (claimSetStation o s).state.link.rx = s.link.rx ∧ (claimSetStation o s).state.link.farPause = s.link.farPause := by
  unfold claimSetStation
  try dsimp only
  (repeat' split) <;> simp [unchanged, badValue, carriedOut, returned]

theorem claimSetStation_grows (o : StationOperands) (s : State) {old : List Message} (g : old <+: s.link.outbound) :
    old <+: (claimSetStation o s).state.link.outbound := by
  unfold claimSetStation
  try dsimp only
  (repeat' split) <;>
    (repeat first | with_reducible exact g | with_reducible apply lineArbiter_grows | simp only [checkCycleEnd_frame, State.setStation_link, unchanged, badValue, carriedOut])

@[simp] theorem claimEventResume_link (k : Initiator) (s : State) :
    (claimEventResume k s).state.link.state = s.link.state ∧ (claimEventResume k s).state.link.signal = s.link.signal ∧
      (claimEventResume k s).state.link.resetCount = s.link.resetCount ∧
      (claimEventResume k s).state.link.strap = s.link.strap ∧ (claimEventResume k s).state.link.framing = s.link.framing ∧
      (claimEventResume k s).state.link.rx = s.link.rx ∧ (claimEventResume k s).state.link.farPause = s.link.farPause := by
  unfold claimEventResume
  try dsimp only
  (repeat' split) <;> simp [unchanged, badValue, carriedOut, returned]

theorem claimEventResume_grows (k : Initiator) (s : State) {old : List Message} (g : old <+: s.link.outbound) :
    old <+: (claimEventResume k s).state.link.outbound := by
  unfold claimEventResume
  try dsimp only
  (repeat' split) <;>
    (repeat first | with_reducible exact g | with_reducible apply resendMessage_grows | simp only [unchanged, badValue, carriedOut])

@[simp] theorem claimOf_link (o : ManageOp) (k : Initiator) (t : Tag) (s : State) :
    (claimOf o k t s).state.link.state = s.link.state ∧ (claimOf o k t s).state.link.signal = s.link.signal ∧
      (claimOf o k t s).state.link.resetCount = s.link.resetCount ∧ (claimOf o k t s).state.link.strap = s.link.strap ∧
      (claimOf o k t s).state.link.framing = s.link.framing ∧ (claimOf o k t s).state.link.rx = s.link.rx ∧
      (claimOf o k t s).state.link.farPause = s.link.farPause := by
  unfold claimOf
  split <;> simp

theorem claimOf_grows (o : ManageOp) (k : Initiator) (t : Tag) (s : State) {old : List Message} (g : old <+: s.link.outbound) :
    old <+: (claimOf o k t s).state.link.outbound := by
  unfold claimOf
  try dsimp only
  (repeat' split) <;>
    (repeat first | with_reducible exact g | with_reducible apply claimSetPort_grows | with_reducible apply claimSetStation_grows | with_reducible apply claimEventResume_grows | simp only [claimLoadRegion_frame, claimRetireRegion_frame, claimAlterRights_frame, claimReadRegion_frame, claimReadPort_frame, claimReadStation_frame, claimSetScan_frame, claimSetEvent_frame, claimSetEventTarget_frame, claimEventAck_frame, claimReadIncident_frame, claimSetManagers_frame, claimReadOccupancy_frame, State.setPort_link, State.setStation_link])

@[simp] theorem concludeClaim_link (i : SlotId) (c : Claim) :
    (concludeClaim i c).link.state = c.state.link.state ∧ (concludeClaim i c).link.signal = c.state.link.signal ∧
      (concludeClaim i c).link.resetCount = c.state.link.resetCount ∧ (concludeClaim i c).link.strap = c.state.link.strap ∧
      (concludeClaim i c).link.framing = c.state.link.framing ∧ (concludeClaim i c).link.rx = c.state.link.rx ∧
      (concludeClaim i c).link.farPause = c.state.link.farPause := by
  unfold concludeClaim
  split <;> simp

theorem concludeClaim_grows (i : SlotId) (c : Claim) {old : List Message} (g : old <+: c.state.link.outbound) :
    old <+: (concludeClaim i c).link.outbound := by
  unfold concludeClaim
  try dsimp only
  (repeat' split) <;>
    (repeat first | with_reducible exact g | with_reducible apply finishSlot_grows | with_reducible apply selectEvent_grows)

@[simp] theorem acceptManage_link (h : ReqHeader) (o : ManageOp) (s : State) :
    (acceptManage h o s).link.state = s.link.state ∧ (acceptManage h o s).link.signal = s.link.signal ∧
      (acceptManage h o s).link.resetCount = s.link.resetCount ∧ (acceptManage h o s).link.strap = s.link.strap ∧
      (acceptManage h o s).link.framing = s.link.framing ∧ (acceptManage h o s).link.rx = s.link.rx ∧
      (acceptManage h o s).link.farPause = s.link.farPause := by
  unfold acceptManage
  try dsimp only
  (repeat' split) <;> simp

theorem acceptManage_grows (h : ReqHeader) (o : ManageOp) (s : State) {old : List Message} (g : old <+: s.link.outbound) :
    old <+: (acceptManage h o s).link.outbound := by
  unfold acceptManage
  try dsimp only
  (repeat' split) <;>
    (repeat first | with_reducible exact g | with_reducible apply joinDestination_grows | with_reducible apply claimOf_grows | with_reducible apply concludeClaim_grows | simp only [allocateSlot_frame, takeManageSlot_frame])

@[simp] theorem carryVerdict_link (h : ReqHeader) (v : Verdict) (s : State) :
    (carryVerdict h v s).link.state = s.link.state ∧ (carryVerdict h v s).link.signal = s.link.signal ∧
      (carryVerdict h v s).link.resetCount = s.link.resetCount ∧ (carryVerdict h v s).link.strap = s.link.strap ∧
      (carryVerdict h v s).link.framing = s.link.framing ∧ (carryVerdict h v s).link.rx = s.link.rx ∧
      (carryVerdict h v s).link.farPause = s.link.farPause := by
  unfold carryVerdict
  try dsimp only
  (repeat' split) <;> simp

theorem carryVerdict_grows (h : ReqHeader) (v : Verdict) (s : State) {old : List Message} (g : old <+: s.link.outbound) :
    old <+: (carryVerdict h v s).link.outbound := by
  unfold carryVerdict
  try dsimp only
  (repeat' split) <;>
    (repeat first | with_reducible exact g | with_reducible apply answerKey_grows | with_reducible apply refuseSkipped_grows | with_reducible apply refuseChainLong_grows | with_reducible apply refuseFailed_grows | with_reducible apply acceptWork_grows | with_reducible apply abandonInitiator_grows | with_reducible apply acceptManage_grows)

@[simp] theorem handRequest_link (h : ReqHeader) (q : Option Parsed) (s : State) :
    (handRequest h q s).link.state = s.link.state ∧ (handRequest h q s).link.signal = s.link.signal ∧
      (handRequest h q s).link.resetCount = s.link.resetCount ∧ (handRequest h q s).link.strap = s.link.strap ∧
      (handRequest h q s).link.framing = s.link.framing ∧ (handRequest h q s).link.rx = s.link.rx ∧
      (handRequest h q s).link.farPause = s.link.farPause := by
  unfold handRequest
  try dsimp only
  (repeat' split) <;> simp

theorem handRequest_grows (h : ReqHeader) (q : Option Parsed) (s : State) {old : List Message} (g : old <+: s.link.outbound) :
    old <+: (handRequest h q s).link.outbound := by
  unfold handRequest
  try dsimp only
  (repeat' split) <;>
    (repeat first | with_reducible exact g | with_reducible apply carryVerdict_grows)

@[simp] theorem answerUnknown_link (h : ReqHeader) (s : State) :
    (answerUnknown h s).link.state = s.link.state ∧ (answerUnknown h s).link.signal = s.link.signal ∧
      (answerUnknown h s).link.resetCount = s.link.resetCount ∧ (answerUnknown h s).link.strap = s.link.strap ∧
      (answerUnknown h s).link.framing = s.link.framing ∧ (answerUnknown h s).link.rx = s.link.rx ∧
      (answerUnknown h s).link.farPause = s.link.farPause := by
  unfold answerUnknown
  try dsimp only
  (repeat' split) <;> simp

theorem answerUnknown_grows (h : ReqHeader) (s : State) {old : List Message} (g : old <+: s.link.outbound) :
    old <+: (answerUnknown h s).link.outbound := by
  unfold answerUnknown
  try dsimp only
  (repeat' split) <;>
    (repeat first | with_reducible exact g | with_reducible apply answerKey_grows)

@[simp] theorem fixedExpiryAt_link (p : PortId) (b : SegmentBytes) (s : State) :
    (fixedExpiryAt p b s).link.state = s.link.state ∧ (fixedExpiryAt p b s).link.signal = s.link.signal ∧
      (fixedExpiryAt p b s).link.resetCount = s.link.resetCount ∧ (fixedExpiryAt p b s).link.strap = s.link.strap ∧
      (fixedExpiryAt p b s).link.framing = s.link.framing ∧ (fixedExpiryAt p b s).link.rx = s.link.rx ∧
      (fixedExpiryAt p b s).link.farPause = s.link.farPause := by
  unfold fixedExpiryAt
  try dsimp only
  (repeat' split) <;> simp

theorem fixedExpiryAt_grows (p : PortId) (b : SegmentBytes) (s : State) {old : List Message} (g : old <+: s.link.outbound) :
    old <+: (fixedExpiryAt p b s).link.outbound := by
  unfold fixedExpiryAt
  try dsimp only
  (repeat' split) <;>
    (repeat first | with_reducible exact g | with_reducible apply stepSucceeds_grows)

@[simp] theorem readyAt_link (p : PortId) (b : SegmentBytes) (s : State) :
    (readyAt p b s).link.state = s.link.state ∧ (readyAt p b s).link.signal = s.link.signal ∧
      (readyAt p b s).link.resetCount = s.link.resetCount ∧ (readyAt p b s).link.strap = s.link.strap ∧
      (readyAt p b s).link.framing = s.link.framing ∧ (readyAt p b s).link.rx = s.link.rx ∧
      (readyAt p b s).link.farPause = s.link.farPause := by
  unfold readyAt
  try dsimp only
  (repeat' split) <;> simp

theorem readyAt_grows (p : PortId) (b : SegmentBytes) (s : State) {old : List Message} (g : old <+: s.link.outbound) :
    old <+: (readyAt p b s).link.outbound := by
  unfold readyAt
  try dsimp only
  (repeat' split) <;>
    (repeat first | with_reducible exact g | with_reducible apply stepSucceeds_grows | simp only [raiseStray_frame])

@[simp] theorem readyExpiryAt_link (p : PortId) (s : State) :
    (readyExpiryAt p s).link.state = s.link.state ∧ (readyExpiryAt p s).link.signal = s.link.signal ∧
      (readyExpiryAt p s).link.resetCount = s.link.resetCount ∧ (readyExpiryAt p s).link.strap = s.link.strap ∧
      (readyExpiryAt p s).link.framing = s.link.framing ∧ (readyExpiryAt p s).link.rx = s.link.rx ∧
      (readyExpiryAt p s).link.farPause = s.link.farPause := by
  unfold readyExpiryAt
  try dsimp only
  (repeat' split) <;> simp

theorem readyExpiryAt_grows (p : PortId) (s : State) {old : List Message} (g : old <+: s.link.outbound) :
    old <+: (readyExpiryAt p s).link.outbound := by
  unfold readyExpiryAt
  try dsimp only
  (repeat' split) <;>
    (repeat first | with_reducible exact g | with_reducible apply stepFails_grows)

@[simp] theorem freeLine_link (s : State) :
    (freeLine s).link.state = s.link.state ∧ (freeLine s).link.signal = s.link.signal ∧
      (freeLine s).link.resetCount = s.link.resetCount ∧ (freeLine s).link.strap = s.link.strap ∧
      (freeLine s).link.framing = s.link.framing ∧ (freeLine s).link.rx = s.link.rx ∧
      (freeLine s).link.farPause = s.link.farPause := by simp [freeLine]

theorem freeLine_grows (s : State) {old : List Message} (g : old <+: s.link.outbound) :
    old <+: (freeLine s).link.outbound := by
  unfold freeLine
  repeat first | with_reducible exact g | with_reducible apply lineArbiter_grows | simp only [checkCycleEnd_frame, State.setLine_link]

@[simp] theorem completeWithReply_link (o : LineOp) (v : Positions) (s : State) :
    (completeWithReply o v s).link.state = s.link.state ∧ (completeWithReply o v s).link.signal = s.link.signal ∧
      (completeWithReply o v s).link.resetCount = s.link.resetCount ∧ (completeWithReply o v s).link.strap = s.link.strap ∧
      (completeWithReply o v s).link.framing = s.link.framing ∧ (completeWithReply o v s).link.rx = s.link.rx ∧
      (completeWithReply o v s).link.farPause = s.link.farPause := by
  unfold completeWithReply
  try dsimp only
  (repeat' split) <;> simp

theorem completeWithReply_grows (o : LineOp) (v : Positions) (s : State) {old : List Message} (g : old <+: s.link.outbound) :
    old <+: (completeWithReply o v s).link.outbound := by
  unfold completeWithReply
  try dsimp only
  (repeat' split) <;>
    (repeat first | with_reducible exact g | with_reducible apply completeSlot_grows | with_reducible apply freeLine_grows | simp only [State.setStation_link])

@[simp] theorem completeWithTimeout_link (o : LineOp) (s : State) :
    (completeWithTimeout o s).link.state = s.link.state ∧ (completeWithTimeout o s).link.signal = s.link.signal ∧
      (completeWithTimeout o s).link.resetCount = s.link.resetCount ∧ (completeWithTimeout o s).link.strap = s.link.strap ∧
      (completeWithTimeout o s).link.framing = s.link.framing ∧ (completeWithTimeout o s).link.rx = s.link.rx ∧
      (completeWithTimeout o s).link.farPause = s.link.farPause := by
  unfold completeWithTimeout
  try dsimp only
  (repeat' split) <;> simp

theorem completeWithTimeout_grows (o : LineOp) (s : State) {old : List Message} (g : old <+: s.link.outbound) :
    old <+: (completeWithTimeout o s).link.outbound := by
  unfold completeWithTimeout
  try dsimp only
  (repeat' split) <;>
    (repeat first | with_reducible exact g | with_reducible apply completeSlot_grows | with_reducible apply freeLine_grows | simp only [timeoutStation_frame])

@[simp] theorem scanExpiry_link (s : State) :
    (scanExpiry s).link.state = s.link.state ∧ (scanExpiry s).link.signal = s.link.signal ∧
      (scanExpiry s).link.resetCount = s.link.resetCount ∧ (scanExpiry s).link.strap = s.link.strap ∧
      (scanExpiry s).link.framing = s.link.framing ∧ (scanExpiry s).link.rx = s.link.rx ∧
      (scanExpiry s).link.farPause = s.link.farPause := by
  unfold scanExpiry
  try dsimp only
  (repeat' split) <;> simp

theorem scanExpiry_grows (s : State) {old : List Message} (g : old <+: s.link.outbound) :
    old <+: (scanExpiry s).link.outbound := by
  unfold scanExpiry
  try dsimp only
  (repeat' split) <;>
    (repeat first | with_reducible exact g | with_reducible apply lineArbiter_grows | simp only [raiseIncident_frame, beginCycle_frame, State.setLine_link])

@[simp] theorem windowExpiry_link (m : EventMessage) (s : State) :
    (windowExpiry m s).link.state = s.link.state ∧ (windowExpiry m s).link.signal = s.link.signal ∧
      (windowExpiry m s).link.resetCount = s.link.resetCount ∧ (windowExpiry m s).link.strap = s.link.strap ∧
      (windowExpiry m s).link.framing = s.link.framing ∧ (windowExpiry m s).link.rx = s.link.rx ∧
      (windowExpiry m s).link.farPause = s.link.farPause := by
  unfold windowExpiry
  try dsimp only
  (repeat' split) <;> simp

theorem windowExpiry_grows (m : EventMessage) (s : State) {old : List Message} (g : old <+: s.link.outbound) :
    old <+: (windowExpiry m s).link.outbound := by
  unfold windowExpiry
  try dsimp only
  (repeat' split) <;>
    (repeat first | with_reducible exact g | with_reducible apply resendMessage_grows | simp only [State.setEvents_link])

end Sys2Proof.Machine
end

