-- ==== Sys2Proof/Laws/Requests.lean ====
section
/-! SUPPORT. How a request reaches its meaning: what its body is read as, when its message is taken, and what the searches of the
slot table find. -/

namespace Sys2Proof.Machine

/-! ### Bytes -/

theorem addrOf_addrBytes (a : Addr) : addrOf (a.extractLsb' 16 8) (a.extractLsb' 8 8) (a.extractLsb' 0 8) = a := by
  apply BitVec.eq_of_getLsbD_eq
  intro i hi
  simp only [addrOf, BitVec.getLsbD_append, BitVec.getLsbD_extractLsb']
  by_cases h1 : i < 8
  · simp [h1]
  · by_cases h2 : i - 8 < 8
    · simp [h1, h2]; congr 1; omega
    · simp [h1, h2, show i - 8 - 8 < 8 by omega]; congr 1; omega

theorem addrBytes_addrOf (a b c : Byte) : addrBytes (addrOf a b c) = [a, b, c] := by
  simp only [addrBytes, addrOf, List.cons.injEq, and_true]
  refine ⟨?_, ?_, ?_⟩ <;>
    (apply BitVec.eq_of_getLsbD_eq; intro i hi; simp only [BitVec.getLsbD_extractLsb', BitVec.getLsbD_append, hi])
  · simp [show ¬(16 + i < 8) by omega, show ¬(16 + i - 8 < 8) by omega, show 16 + i - 8 - 8 = i by omega]
  · simp [show ¬(8 + i < 8) by omega]; omega
  · simp; omega

theorem wordOf_bytes (d : BitVec 16) : wordOf (hiByte d) (loByte d) = d := by
  apply BitVec.eq_of_getLsbD_eq
  intro i hi
  simp only [wordOf, hiByte, loByte, BitVec.getLsbD_append, BitVec.getLsbD_extractLsb']
  by_cases h1 : i < 8
  · simp [h1]
  · simp [h1, show i - 8 < 8 by omega]; congr 1; omega

theorem loByte_wordOf (a b : Byte) : loByte (wordOf a b) = b := by
  apply BitVec.eq_of_getLsbD_eq
  intro i hi
  simp only [wordOf, loByte, BitVec.getLsbD_extractLsb', BitVec.getLsbD_append, hi]
  simp; omega

theorem hiByte_wordOf (a b : Byte) : hiByte (wordOf a b) = a := by
  apply BitVec.eq_of_getLsbD_eq
  intro i hi
  simp only [wordOf, hiByte, BitVec.getLsbD_extractLsb', BitVec.getLsbD_append, hi]
  simp [show ¬(8 + i < 8) by omega]

theorem wordOf_zero_loByte (d : BitVec 16) (h : d.toNat < 256) : wordOf 0 (loByte d) = d := by
  have : hiByte d = 0 := by
    apply BitVec.eq_of_toNat_eq
    simp only [hiByte, BitVec.extractLsb'_toNat, Nat.shiftRight_eq_div_pow]
    have : d.toNat / 2 ^ 8 = 0 := by omega
    rw [this]; rfl
  rw [← this, wordOf_bytes]

theorem wordOf_zero_lt (b : Byte) : (wordOf 0 b).toNat < 256 := by
  have := b.isLt
  simp only [wordOf, BitVec.toNat_append]
  simp
  omega

theorem positionsOf_bytes (s : Positions) :
    positionsOf (s.extractLsb' 0 8) (s.extractLsb' 8 8) (s.extractLsb' 16 8) (s.extractLsb' 24 8) = s := by
  apply BitVec.eq_of_getLsbD_eq
  intro i hi
  simp only [positionsOf, BitVec.getLsbD_append, BitVec.getLsbD_extractLsb']
  by_cases h1 : i < 8
  · simp [h1]
  · by_cases h2 : i - 8 < 8
    · simp [h1, h2]; congr 1; omega
    · by_cases h3 : i - 8 - 8 < 8
      · simp [h1, h2, h3]; congr 1; omega
      · simp [h1, h2, h3, show i - 8 - 8 - 8 < 8 by omega]; congr 1; omega

theorem positionsBytes_positionsOf (a b c d : Byte) : positionsBytes (positionsOf a b c d) = [a, b, c, d] := by
  simp only [positionsBytes, positionsOf, List.cons.injEq, and_true]
  refine ⟨?_, ?_, ?_, ?_⟩ <;>
    (apply BitVec.eq_of_getLsbD_eq; intro i hi; simp only [BitVec.getLsbD_extractLsb', BitVec.getLsbD_append, hi])
  · simp; omega
  · simp [show ¬(8 + i < 8) by omega]; omega
  · simp [show ¬(16 + i < 8) by omega, show ¬(16 + i - 8 < 8) by omega, show 16 + i - 8 - 8 = i by omega]; omega
  · simp [show ¬(24 + i < 8) by omega, show ¬(24 + i - 8 < 8) by omega, show ¬(24 + i - 8 - 8 < 8) by omega,
      show 24 + i - 8 - 8 - 8 = i by omega]

/-! ### Taking a message -/

theorem takeMessage_arrives {body : List Byte} {s u : State} (a : Arrives body s u) (f : State → State) :
    takeMessage body f s = f u := by
  obtain ⟨hl, ⟨hr, hs, rfl⟩ | ⟨later, hr, rfl⟩⟩ := a
  · simp [takeMessage, hr, hs, takesFrames, Config.takeBelow, hl]
  · simp [takeMessage, hr, takesFrames, Config.takeBelow, hl]

/-- What an arrival leaves: the message is out of the receive buffer, and nothing else has changed. -/
theorem Arrives.same {body : List Byte} {s u : State} (a : Arrives body s u) :
    u = s.setLink { s.link with rx := u.link.rx } := by
  obtain ⟨-, ⟨-, -, rfl⟩ | ⟨later, -, rfl⟩⟩ := a <;> rfl

/-! ### Searches of the slot table -/

theorem slotOfKey_eq_none_iff (s : State) (k : Initiator) (t : Tag) :
    slotOfKey s k t = none ↔ ∀ i x, row s.slots i = some x → ¬(x.initiator = k ∧ x.tag = t) := by
  simp only [slotOfKey, List.find?_eq_none, List.mem_finRange, true_implies]
  refine forall_congr' fun i => ?_
  cases h : row s.slots i <;> simp [hasKey]

theorem slotOfKey_some {s : State} {k : Initiator} {t : Tag} {i : SlotId} (h : slotOfKey s k t = some i) :
    ∃ x, row s.slots i = some x ∧ x.initiator = k ∧ x.tag = t := by
  have := List.find?_some h
  cases hr : row s.slots i <;> simp_all [hasKey]

theorem slotOfKey_isSome_iff (s : State) (k : Initiator) (t : Tag) :
    (slotOfKey s k t).isSome = true ↔ ∃ i x, row s.slots i = some x ∧ x.initiator = k ∧ x.tag = t := by
  rw [← not_iff_not]
  simp only [Bool.not_eq_true, Option.isSome_eq_false_iff, Option.isNone_iff_eq_none, slotOfKey_eq_none_iff]
  push Not
  rfl

theorem freeSlot_some {s : State} {i : SlotId} (h : freeSlot s = some i) : row s.slots i = none := by
  have := List.find?_some h
  simpa using this

theorem freeSlot_eq_none_iff (s : State) : freeSlot s = none ↔ ∀ i, row s.slots i ≠ none := by
  simp [freeSlot, List.find?_eq_none]

theorem freeSlot_isSome {s : State} (h : ∃ i, row s.slots i = none) : ∃ i, freeSlot s = some i := by
  cases hf : freeSlot s with
  | some i => exact ⟨i, rfl⟩
  | none => obtain ⟨i, hi⟩ := h; exact absurd hi ((freeSlot_eq_none_iff s).mp hf i)

/-! ### What a request's body is read as -/

/-- What the body of a request command is read as. -/
def parsedOf : Instr → Option Parsed
  | .powerOnReset _ _ => none
  | .frameReceived _ => none
  | .farEndPauseMark => none
  | .messageSent => none
  | .signalFound => none
  | .signalLost => none
  | .sync _ => none
  | .linkReset _ => none
  | .unknownMessageType _ _ _ => none
  | .read _ rest => parseAccessRead .read rest
  | .write _ rest => parseAccessWrite .write rest
  | .lockRead _ rest => parseAccessRead .lockRead rest
  | .unlockWrite _ rest => parseAccessWrite .unlockWrite rest
  | .bitSet _ rest => parseSingleBit .set rest
  | .bitClear _ rest => parseSingleBit .clear rest
  | .bitTest _ rest => parseSingleBit .test rest
  | .fieldRead _ rest => parseFieldRead rest
  | .fieldWrite _ rest => parseFieldWrite rest
  | .abandon _ rest => parseAbandon rest
  | .loadRegion _ o => (parseLoadRegion o).map .manage
  | .retireRegion _ o => (parseRetireRegion o).map .manage
  | .alterRights _ o => (parseAlterRights o).map .manage
  | .readRegion _ o => (parseReadRegion o).map .manage
  | .setPort _ o => (parseSetPort o).map .manage
  | .readPort _ o => (parseReadPort o).map .manage
  | .setStation _ o => (parseSetStation o).map .manage
  | .readStation _ o => (parseReadStation o).map .manage
  | .setScan _ o => (parseSetScan o).map .manage
  | .setEvent _ o => (parseSetEvent o).map .manage
  | .setEventTarget _ o => (parseSetEventTarget o).map .manage
  | .eventAck _ o => (parseEventAck o).map .manage
  | .eventResume _ o => (parseEventResume o).map .manage
  | .readIncident _ o => (parseReadIncident o).map .manage
  | .setManagers _ o => (parseSetManagers o).map .manage
  | .readOccupancy _ o => (parseReadOccupancy o).map .manage
  | .fixedDelayExpiry _ _ => none
  | .readyIndication _ _ => none
  | .readyTimerExpiry _ => none
  | .lockLifetimeExpiry _ => none
  | .holdRequestRaise _ => none
  | .holdRequestWithdrawal _ => none
  | .holdLimitExpiry _ => none
  | .stationReply _ => none
  | .lineTimerExpiry => none
  | .scanTimerExpiry => none
  | .ackWindowExpiry => none
  | .farEndPauseMarkGone => none

/-- Every request command takes its message and hands its request to the slot table. -/
theorem exec_request {c : Instr} {h : ReqHeader} (hc : requestOf c = some h) (s : State) :
    ∃ body, bodyOf c = some body ∧ exec c s = endEvent (takeMessage body (handRequest h (parsedOf c)) s) := by
  cases c <;> simp only [requestOf, Option.some.injEq, reduceCtorEq] at hc <;> subst hc <;> exact ⟨_, rfl, rfl⟩

theorem exec_arrives {c : Instr} {h : ReqHeader} {body : List Byte} {s u : State} (hc : requestOf c = some h)
    (hb : bodyOf c = some body) (a : Arrives body s u) (hup : s.link.state = .up) :
    exec c s = endEvent (carryVerdict h (judge u h (parsedOf c)) u) := by
  obtain ⟨body', hb', he⟩ := exec_request hc s
  rw [hb] at hb'; cases hb'
  have hu : u.link.state = .up := by rw [a.same]; simpa using hup
  rw [he, takeMessage_arrives a]
  simp [handRequest, hu]

theorem requestOf_portCommand (h : ReqHeader) (kind : PortKind) (addr : Addr) (width : Width) :
    requestOf (portCommand h kind addr width) = some h := by cases kind <;> rfl

theorem requestOf_bitCommand (h : ReqHeader) (kind : BitKind) (addr : Addr) :
    requestOf (bitCommand h kind addr) = some h := by cases kind <;> rfl

theorem requestOf_manageCommand (h : ReqHeader) (op : ManageOp) : requestOf (manageCommand h op) = some h := by
  cases op <;> rfl

theorem parsedOf_portCommand (h : ReqHeader) (kind : PortKind) (addr : Addr) (width : Width) (fit : dataFits width kind) :
    parsedOf (portCommand h kind addr width) = some (.port kind addr width) := by
  cases kind <;> cases width <;>
    simp [portCommand, parsedOf, parseAccessRead, parseAccessWrite, addrBytes, dataFor, widthCode, widthOf,
      addrOf_addrBytes, wordOf_bytes]
  all_goals
    simp only [dataFits, true_implies] at fit
    exact wordOf_zero_loByte _ fit

theorem parsedOf_bitCommand (h : ReqHeader) (kind : BitKind) (addr : Addr) (fit : bitKindFits kind) :
    parsedOf (bitCommand h kind addr) = some (.bit kind addr) := by
  cases kind <;>
    simp_all [bitCommand, parsedOf, parseSingleBit, parseFieldRead, parseFieldWrite, addrBytes, addrOf_addrBytes,
      bitKindFits, fieldWidthOk, byteOf, wordOf_bytes]
  case fieldRead w => rw [Nat.mod_eq_of_lt (by omega)]; omega
  case fieldWrite w v => rw [Nat.mod_eq_of_lt (by omega)]; omega

theorem parsedOf_manageCommand (h : ReqHeader) (op : ManageOp) :
    parsedOf (manageCommand h op) = some (.manage op) := by
  cases op <;>
    simp [manageCommand, parsedOf, parseLoadRegion, parseRetireRegion, parseAlterRights, parseReadRegion, parseSetPort,
      parseReadPort, parseSetStation, parseReadStation, parseSetScan, parseSetEvent, parseSetEventTarget, parseEventAck,
      parseEventResume, parseReadIncident, parseSetManagers, parseReadOccupancy, loadBytes, stationBytes, addrBytes,
      positionsBytes, addrOf_addrBytes, positionsOf_bytes]

end Sys2Proof.Machine
end

