-- ==== Sys2Proof/Laws/Acceptance.lean ====
section
/-! SUPPORT. What the acceptance order decides (R25), for requests whose conditions are stated in the terms of
`Sys2Proof.Safety`, and what the allocation of a slot leaves. -/

namespace Sys2Proof.Machine

theorem odd_iff (a : Addr) : a.getLsbD 0 = true ↔ a.toNat % 2 = 1 := by
  simp [BitVec.getLsbD, Nat.testBit_zero]

theorem translate_eq (f : RegionFields) (width : Width) (addr : Addr) : translate f width addr = targetAddress f width addr :=
  rfl

theorem lockCheck_allows {s : State} {k : Initiator} {p : PortId} {addr : Addr} {width : Width} {kind : PortKind}
    (l : LockAllows s k p addr width kind) : lockCheck s k p kind addr width = none := by
  cases kind with
  | read => rfl
  | write d => rfl
  | lockRead =>
    obtain ⟨h1, h2⟩ := l
    have : hasLockClaim s k p = false := by
      simp only [hasLockClaim, Bool.or_eq_false_iff]
      refine ⟨?_, ?_⟩
      · cases hl : (row s.ports p).lock with
        | none => rfl
        | some l => simpa using h1 l hl
      · rw [List.any_eq_false]
        intro i _
        cases hs : row s.slots i with
        | none => simp
        | some x =>
          simp only [Option.any_some, isLockReadOf, Bool.and_eq_true, decide_eq_true_eq, not_and]
          intro hx
          cases hw : x.work with
          | bit w => simp
          | manage op => simp
          | port w => simpa using h2 i x w hs hw hx
    simp [lockCheck, this]
  | unlockWrite d =>
    obtain ⟨l, hl, ho, ha, hw⟩ := l
    simp [lockCheck, unlockCheck, hl, ho, ha, hw]

theorem portCheck_allows {s : State} {k : Initiator} {kind : PortKind} {addr : Addr} {width : Width} {e : EntryId}
    {r : RegionRecord} (a : RegionAllows s k kind addr width e r) :
    portCheck s k kind addr width =
      .passed (.port { kind := kind, addr := addr, width := width, entry := e,
                       target := targetAddress r.fields width addr, port := r.fields.port }) := by
  obtain ⟨hl, hr, hp, hu, hg, ha, hk, hc⟩ := a
  have hodd : ¬(width = .word ∧ addr.getLsbD 0 = true) := by
    rintro ⟨hw, ho⟩
    have := ha hw
    rw [odd_iff] at ho
    omega
  have hlock : ¬(kind = .lockRead ∧ r.fields.lockable = false) := by
    rintro ⟨h1, h2⟩
    simp [hk h1] at h2
  unfold portCheck
  rw [hl]
  dsimp only
  rw [hr]
  dsimp only
  rw [if_neg (by simp [hp]), if_neg (by simp [hu]), if_neg (by simp [hg]), if_neg hodd, if_neg hlock, lockCheck_allows hc]
  rfl

theorem bitCheck_fits {kind : BitKind} {addr : Addr} (f : BitFits kind addr) :
    bitCheck kind addr = .passed (.bit { kind := kind, addr := BitVec.ofNat 9 addr.toNat }) := by
  obtain ⟨h1, h2⟩ := f
  unfold bitCheck
  rw [if_neg (by omega), if_neg (by omega)]
  rfl

/-- What a request whose step 7 passes is read as, and what its checks come to. -/
theorem Passes.check {s : State} {h : ReqHeader} {c : Instr} {w : Work} (p : Passes s h c w) :
    ∃ r, parsedOf c = some r ∧ requestOf c = some h ∧ r ≠ .abandon ∧ kindCheck s h.initiator r = .passed w ∧
      (h.mark = .none → badMark h.mark r = false) := by
  obtain ⟨kind, addr, width, e, r, rfl, fit, a, rfl⟩ | ⟨kind, addr, rfl, fit, b, rfl⟩ := p
  · exact ⟨_, parsedOf_portCommand _ _ _ _ fit, requestOf_portCommand _ _ _ _, by simp, portCheck_allows a,
      fun hm => by simp [badMark, hm, isMemberMark]⟩
  · exact ⟨_, parsedOf_bitCommand _ _ _ fit, requestOf_bitCommand _ _ _, by simp, bitCheck_fits b,
      fun hm => by simp [badMark, hm, isMemberMark]⟩

theorem judge_from3 {s : State} {h : ReqHeader} {r : Parsed} (hm : (row s.initiators h.initiator).mode = .normal)
    (hb : badMark h.mark r = false) (ha : r ≠ .abandon) :
    judge s h (some r) = verdictFrom3 s h (kindCheck s h.initiator r) := by
  cases r <;> simp_all [judge]

theorem KeyFree.slotOfKey {s : State} {h : ReqHeader} (k : KeyFree s h) : slotOfKey s h.initiator h.tag = none :=
  (slotOfKey_eq_none_iff _ _ _).mpr k

theorem judge_served {s : State} {h : ReqHeader} {r : Parsed} (sv : Served s h) (hb : badMark h.mark r = false)
    (ha : r ≠ .abandon) : judge s h (some r) = verdictOfCheck h.mark (kindCheck s h.initiator r) := by
  obtain ⟨-, hm, hn, hk, hf⟩ := sv
  obtain ⟨i, hi⟩ := freeSlot_isSome hf
  rw [judge_from3 hm hb ha]
  simp [verdictFrom3, hk.slotOfKey, hn, isMemberMark, lateVerdict, hi]

/-- A request outside any chain that passes every check is accepted with its work. -/
theorem judge_accepted {s : State} {h : ReqHeader} {c : Instr} {w : Work} (sv : Served s h) (p : Passes s h c w) :
    requestOf c = some h ∧ judge s h (parsedOf c) = .accepted w := by
  obtain ⟨r, hr, hq, ha, hc, hb⟩ := p.check
  refine ⟨hq, ?_⟩
  rw [hr, judge_served sv (hb sv.2.2.1) ha, hc]
  rfl

/-- A MANAGE request that is served by a manager is accepted. -/
theorem judge_manage {s : State} {h : ReqHeader} {op : ManageOp} (sv : ManageServed s h) :
    judge s h (parsedOf (manageCommand h op)) = .accepted (.manage op) := by
  obtain ⟨sv, hm⟩ := sv
  rw [parsedOf_manageCommand, judge_served sv (by simp [badMark, sv.2.2.1, isMemberMark]) (by simp)]
  simp [kindCheck, manageCheck, hm, verdictOfCheck]

/-- The conditions of a request do not depend on the receive buffer. -/
theorem Served.arrives {body : List Byte} {s u : State} {h : ReqHeader} (a : Arrives body s u) (sv : Served s h) :
    Served u h := by
  rw [a.same]; exact sv

theorem ManageServed.arrives {body : List Byte} {s u : State} {h : ReqHeader} (a : Arrives body s u)
    (sv : ManageServed s h) : ManageServed u h := by
  rw [a.same]; exact sv

theorem Passes.arrives {body : List Byte} {s u : State} {h : ReqHeader} {c : Instr} {w : Work} (a : Arrives body s u)
    (p : Passes s h c w) : Passes u h c w := by
  rw [a.same]; exact p

/-! ### Allocation -/

@[simp] theorem allocateSlot_slots (i : SlotId) (h : ReqHeader) (w : Work) (s : State) :
    (allocateSlot i h w s).slots =
      putRow s.slots i (some (newSlot h w (roleFor h.mark (receiveMember (row s.chains h.initiator))) s.acceptCounter)) := by
  simp [allocateSlot]

@[simp] theorem allocateSlot_acceptCounter (i : SlotId) (h : ReqHeader) (w : Work) (s : State) :
    (allocateSlot i h w s).acceptCounter = s.acceptCounter + 1 := by
  simp [allocateSlot]

@[simp] theorem allocateSlot_initiators (i : SlotId) (h : ReqHeader) (w : Work) (s : State) :
    (allocateSlot i h w s).initiators =
      putRow s.initiators h.initiator
        { row s.initiators h.initiator with occupancy := (row s.initiators h.initiator).occupancy + 1 } := by
  simp [allocateSlot, raiseOccupancy]

theorem allocateSlot_chains_none {i : SlotId} {h : ReqHeader} (w : Work) (s : State) (hm : h.mark = .none) :
    (allocateSlot i h w s).chains = s.chains := by
  simp [allocateSlot, receiveSlot, hm, isMemberMark]

theorem allocateSlot_chains_member {i : SlotId} {h : ReqHeader} (w : Work) (s : State) (hm : isMemberMark h.mark = true) :
    (allocateSlot i h w s).chains =
      putRow s.chains h.initiator (joinChain (receiveMember (row s.chains h.initiator)) h.mark i) := by
  simp [allocateSlot, receiveSlot, hm]

theorem raiseCount_regions {e : EntryId} {s : State} {r : RegionRecord} (h : row s.regions e = some r) :
    (raiseCount e s).regions = putRow s.regions e (some { r with inFlight := r.inFlight + 1 }) := by
  simp [raiseCount, h]

theorem allocateSlot_regions_port {i : SlotId} {h : ReqHeader} {w : PortWork} {s : State} {r : RegionRecord}
    (hr : row s.regions w.entry = some r) :
    (allocateSlot i h (.port w) s).regions =
      putRow s.regions w.entry (some { r with inFlight := r.inFlight + 1 }) := by
  simp [allocateSlot, raiseWorkCount, workEntry, raiseCount, hr]

@[simp] theorem allocateSlot_regions_bit (i : SlotId) (h : ReqHeader) (w : BitWork) (s : State) :
    (allocateSlot i h (.bit w) s).regions = s.regions := by
  simp [allocateSlot, raiseWorkCount, workEntry]

@[simp] theorem allocateSlot_regions_manage (i : SlotId) (h : ReqHeader) (op : ManageOp) (s : State) :
    (allocateSlot i h (.manage op) s).regions = s.regions := by
  simp [allocateSlot, raiseWorkCount, workEntry]

/-! ### Queues -/

theorem placeInQueue_tail {s : State} {i : SlotId} (queue : List SlotId)
    (h : ∀ q ∈ queue, ¬ behind s q < behind s i) : placeInQueue s i queue = queue ++ [i] := by
  induction queue with
  | nil => rfl
  | cons q rest ih =>
    simp only [placeInQueue, h q (by simp), if_false, List.cons_append, List.cons.injEq, true_and]
    exact ih fun p hp => h p (by simp [hp])

@[simp] theorem mem_placeInQueue (s : State) (i q : SlotId) (queue : List SlotId) :
    q ∈ placeInQueue s i queue ↔ q = i ∨ q ∈ queue := by
  induction queue with
  | nil => simp [placeInQueue]
  | cons p rest ih =>
    simp only [placeInQueue]
    split
    · simp
    · simp only [List.mem_cons, ih]; tauto

end Sys2Proof.Machine
end

