-- ==== Sys2Proof/Laws/PerInstr.lean ====
section
/-! SUPPORT. Facts about every command as syntax, one lemma for each constructor of `Instr`. -/

namespace Sys2Proof.Laws

/-- A well-formed command that is a received message has a body of 2 to 48 bytes, which one frame carries (R155); a command that is
no message has no body. -/
def BodyFits.Statement (i : Instr) : Prop :=
  i.wellFormed = true → ∀ body, Machine.bodyOf i = some body → Config.minBody ≤ body.length ∧ body.length ≤ Config.maxBody

/-- A request whose bytes after the header fit a frame has a body that fits it. -/
theorem requestBody_fits (kind : Byte) (h : ReqHeader) (rest : List Byte) (hf : fitsFrame rest.length = true) :
    ∀ body, some (Machine.requestBody kind h rest) = some body →
      Config.minBody ≤ body.length ∧ body.length ≤ Config.maxBody := by
  rintro _ ⟨rfl⟩
  have hf : 2 + rest.length ≤ 48 := of_decide_eq_true hf
  simp only [Machine.requestBody, List.length_cons, Config.minBody, Config.maxBody]
  omega

/-- The same of a MANAGE request, whose operation code comes first. -/
theorem manageBody_fits (code : Byte) (h : ReqHeader) (rest : List Byte) (hf : fitsFrame (rest.length + 1) = true) :
    ∀ body, some (Machine.manageBody code h rest) = some body →
      Config.minBody ≤ body.length ∧ body.length ≤ Config.maxBody :=
  requestBody_fits _ _ _ hf

theorem BodyFits.powerOnReset (strap : BitVec 3) (lines : BitVec 4) : BodyFits.Statement (.powerOnReset strap lines) := by
  simp [BodyFits.Statement, Machine.bodyOf]

theorem BodyFits.frameReceived (symbols : List LineSymbol) : BodyFits.Statement (.frameReceived symbols) := by
  simp [BodyFits.Statement, Machine.bodyOf]

theorem BodyFits.farEndPauseMark : BodyFits.Statement (.farEndPauseMark) := by
  simp [BodyFits.Statement, Machine.bodyOf]

theorem BodyFits.messageSent : BodyFits.Statement (.messageSent) := by
  simp [BodyFits.Statement, Machine.bodyOf]

theorem BodyFits.signalFound : BodyFits.Statement (.signalFound) := by
  simp [BodyFits.Statement, Machine.bodyOf]

theorem BodyFits.signalLost : BodyFits.Statement (.signalLost) := by
  simp [BodyFits.Statement, Machine.bodyOf]

theorem BodyFits.sync (rest : List Byte) : BodyFits.Statement (.sync rest) := by
  simp [BodyFits.Statement, Instr.wellFormed, Machine.bodyOf, Config.minBody, Config.maxBody]
  omega

theorem BodyFits.linkReset (rest : List Byte) : BodyFits.Statement (.linkReset rest) := by
  simp [BodyFits.Statement, Instr.wellFormed, Machine.bodyOf, Config.minBody, Config.maxBody]
  omega

theorem BodyFits.unknownMessageType (first : Byte) (h : ReqHeader) (rest : List Byte) : BodyFits.Statement (.unknownMessageType first h rest) := fun hw =>
  requestBody_fits _ _ _ (by simp only [Instr.wellFormed, Bool.and_eq_true] at hw; exact hw.2)

theorem BodyFits.read (h : ReqHeader) (rest : List Byte) : BodyFits.Statement (.read h rest) := requestBody_fits _ _ _

theorem BodyFits.write (h : ReqHeader) (rest : List Byte) : BodyFits.Statement (.write h rest) := requestBody_fits _ _ _

theorem BodyFits.lockRead (h : ReqHeader) (rest : List Byte) : BodyFits.Statement (.lockRead h rest) := requestBody_fits _ _ _

theorem BodyFits.unlockWrite (h : ReqHeader) (rest : List Byte) : BodyFits.Statement (.unlockWrite h rest) := requestBody_fits _ _ _

theorem BodyFits.bitSet (h : ReqHeader) (rest : List Byte) : BodyFits.Statement (.bitSet h rest) := requestBody_fits _ _ _

theorem BodyFits.bitClear (h : ReqHeader) (rest : List Byte) : BodyFits.Statement (.bitClear h rest) := requestBody_fits _ _ _

theorem BodyFits.bitTest (h : ReqHeader) (rest : List Byte) : BodyFits.Statement (.bitTest h rest) := requestBody_fits _ _ _

theorem BodyFits.fieldRead (h : ReqHeader) (rest : List Byte) : BodyFits.Statement (.fieldRead h rest) := requestBody_fits _ _ _

theorem BodyFits.fieldWrite (h : ReqHeader) (rest : List Byte) : BodyFits.Statement (.fieldWrite h rest) := requestBody_fits _ _ _

theorem BodyFits.abandon (h : ReqHeader) (rest : List Byte) : BodyFits.Statement (.abandon h rest) := requestBody_fits _ _ _

theorem BodyFits.loadRegion (h : ReqHeader) (rest : List Byte) : BodyFits.Statement (.loadRegion h rest) := manageBody_fits _ _ _

theorem BodyFits.retireRegion (h : ReqHeader) (rest : List Byte) : BodyFits.Statement (.retireRegion h rest) := manageBody_fits _ _ _

theorem BodyFits.alterRights (h : ReqHeader) (rest : List Byte) : BodyFits.Statement (.alterRights h rest) := manageBody_fits _ _ _

theorem BodyFits.readRegion (h : ReqHeader) (rest : List Byte) : BodyFits.Statement (.readRegion h rest) := manageBody_fits _ _ _

theorem BodyFits.setPort (h : ReqHeader) (rest : List Byte) : BodyFits.Statement (.setPort h rest) := manageBody_fits _ _ _

theorem BodyFits.readPort (h : ReqHeader) (rest : List Byte) : BodyFits.Statement (.readPort h rest) := manageBody_fits _ _ _

theorem BodyFits.setStation (h : ReqHeader) (rest : List Byte) : BodyFits.Statement (.setStation h rest) := manageBody_fits _ _ _

theorem BodyFits.readStation (h : ReqHeader) (rest : List Byte) : BodyFits.Statement (.readStation h rest) := manageBody_fits _ _ _

theorem BodyFits.setScan (h : ReqHeader) (rest : List Byte) : BodyFits.Statement (.setScan h rest) := manageBody_fits _ _ _

theorem BodyFits.setEvent (h : ReqHeader) (rest : List Byte) : BodyFits.Statement (.setEvent h rest) := manageBody_fits _ _ _

theorem BodyFits.setEventTarget (h : ReqHeader) (rest : List Byte) : BodyFits.Statement (.setEventTarget h rest) := manageBody_fits _ _ _

theorem BodyFits.eventAck (h : ReqHeader) (rest : List Byte) : BodyFits.Statement (.eventAck h rest) := manageBody_fits _ _ _

theorem BodyFits.eventResume (h : ReqHeader) (rest : List Byte) : BodyFits.Statement (.eventResume h rest) := manageBody_fits _ _ _

theorem BodyFits.readIncident (h : ReqHeader) (rest : List Byte) : BodyFits.Statement (.readIncident h rest) := manageBody_fits _ _ _

theorem BodyFits.setManagers (h : ReqHeader) (rest : List Byte) : BodyFits.Statement (.setManagers h rest) := manageBody_fits _ _ _

theorem BodyFits.readOccupancy (h : ReqHeader) (rest : List Byte) : BodyFits.Statement (.readOccupancy h rest) := manageBody_fits _ _ _

theorem BodyFits.fixedDelayExpiry (p : PortId) (b : SegmentBytes) : BodyFits.Statement (.fixedDelayExpiry p b) := by
  simp [BodyFits.Statement, Machine.bodyOf]

theorem BodyFits.readyIndication (p : PortId) (b : SegmentBytes) : BodyFits.Statement (.readyIndication p b) := by
  simp [BodyFits.Statement, Machine.bodyOf]

theorem BodyFits.readyTimerExpiry (p : PortId) : BodyFits.Statement (.readyTimerExpiry p) := by
  simp [BodyFits.Statement, Machine.bodyOf]

theorem BodyFits.lockLifetimeExpiry (p : PortId) : BodyFits.Statement (.lockLifetimeExpiry p) := by
  simp [BodyFits.Statement, Machine.bodyOf]

theorem BodyFits.holdRequestRaise (p : PortId) : BodyFits.Statement (.holdRequestRaise p) := by
  simp [BodyFits.Statement, Machine.bodyOf]

theorem BodyFits.holdRequestWithdrawal (p : PortId) : BodyFits.Statement (.holdRequestWithdrawal p) := by
  simp [BodyFits.Statement, Machine.bodyOf]

theorem BodyFits.holdLimitExpiry (p : PortId) : BodyFits.Statement (.holdLimitExpiry p) := by
  simp [BodyFits.Statement, Machine.bodyOf]

theorem BodyFits.stationReply (r : StationReply) : BodyFits.Statement (.stationReply r) := by
  simp [BodyFits.Statement, Machine.bodyOf]

theorem BodyFits.lineTimerExpiry : BodyFits.Statement (.lineTimerExpiry) := by
  simp [BodyFits.Statement, Machine.bodyOf]

theorem BodyFits.scanTimerExpiry : BodyFits.Statement (.scanTimerExpiry) := by
  simp [BodyFits.Statement, Machine.bodyOf]

theorem BodyFits.ackWindowExpiry : BodyFits.Statement (.ackWindowExpiry) := by
  simp [BodyFits.Statement, Machine.bodyOf]

theorem BodyFits.farEndPauseMarkGone : BodyFits.Statement (.farEndPauseMarkGone) := by
  simp [BodyFits.Statement, Machine.bodyOf]

end Sys2Proof.Laws
end

