-- ==== Sys2Proof/Tests/Slice0.lean ====
section
/-! SUPPORT. Tests of the model: the well-formedness checks, one or two steps of each command with results taken from the rules and
the worked sequences of spec/, and for each statement with hypotheses a state that meets them together. -/

namespace Sys2Proof.Tests
open Sys2Proof Sys2Proof.Machine

set_option Elab.async false

/-! ### Helpers -/

/-- The state after a command. -/
def after (c : Instr) (s : State) : State :=
  match exec c s with
  | .next t => t
  | .fault _ => s
  | .refused _ => s

/-- The messages that a command handed over. -/
def sent (c : Instr) (s : State) : List Message := (after c s).link.outbound.drop s.link.outbound.length

/-- Reset, with signal present and the link UP. -/
def upState : State := State.reset.setLink { State.reset.link with state := .up, signal := true }

/-- A request header outside any chain. -/
def key (k : Initiator) (t : Tag) : ReqHeader := ⟨k, t, .none⟩

/-- A port-kind request. -/
def ask (k : Initiator) (t : Tag) (kind : PortKind) (a : Addr) (w : Width) : Instr := portCommand (key k t) kind a w

/-- A bit request. -/
def askBit (k : Initiator) (t : Tag) (kind : BitKind) (a : Addr) : Instr := bitCommand (key k t) kind a

/-- A MANAGE request. -/
def order (k : Initiator) (t : Tag) (op : ManageOp) : Instr := manageCommand (key k t) op

/-- A refusal or an answer with a fault. -/
def faulted (k : Initiator) (t : Tag) (c : FaultCode) : Message := plainResponse k t (.fault c)

/-- The fields of a window, all initiators in both sets. -/
def window (base limit : Addr) (p : PortId) (c : Completion) (posted : Bool) (lanes : LaneRule) (target : Addr) :
    RegionFields where
  base := base
  limit := limit
  port := p
  completion := c
  posted := posted
  lanes := lanes
  lockable := true
  readSet := 0xFF
  writeSet := 0xFF
  targetBase := target

/-- Entry 2 of the worked sequence of 3.6: P1, FIXED with delay 8, STRAIGHT. -/
def fixedWindow : RegionFields := window 0x200000 0x20FFFF 1 (.fixed 8) false .straight 0

/-- Entry 3 of the worked sequence of 3.6: P1, READY with timeout 12, posted, NARROW. -/
def narrowWindow : RegionFields := window 0x210000 0x2100FF 1 (.ready 12) true .narrow 0x4000

/-- The two entries of the worked sequence of 3.6. -/
def mapped : State := (upState.setRegion 2 (some ⟨.active, fixedWindow, 0⟩)).setRegion 3 (some ⟨.active, narrowWindow, 0⟩)

/-- A present station: positions 8 to 15 are outputs, 3 inverted, 0 watched for a rise and 3 for a fall (the worked sequence of
chapter 7, station 4). -/
def station4 : Station where
  presence := .present
  timeouts := 0
  direction := 0xFF00
  inversion := 0x8
  rise := 0x1
  fall := 0x8
  lastSample := some 0x8
  image := 0
  latched := 0
  delivered := none

/-- Station 4 of the worked sequence is the only enabled one. -/
def stationed : State := upState.setStation 4 station4

/-- Two bytes on a segment. -/
def onSegment (even odd : Byte) : SegmentBytes := ⟨even, odd⟩

/-- The state with one port's record changed. -/
def withPort (p : PortId) (f : Port → Port) (s : State) : State := s.setPort p (f (row s.ports p))

/-! ### Well-formedness: an ill-formed term for each check is refused -/

theorem test_wf_frame_empty : Instr.wellFormed (.frameReceived []) = false := by decide
theorem test_wf_frame_too_long : Instr.wellFormed (.frameReceived (List.replicate 53 (.byte 0))) = false := by decide
theorem test_wf_sync_too_long : Instr.wellFormed (.sync [0, 0]) = false := by decide
theorem test_wf_sync : Instr.wellFormed (.sync [0xFF]) = true := by decide
theorem test_wf_link_reset_too_short : Instr.wellFormed (.linkReset []) = false := by decide
theorem test_wf_unknown_known_type : Instr.wellFormed (.unknownMessageType 0x01 (key 0 0) []) = false := by decide
theorem test_wf_unknown_known_operation : Instr.wellFormed (.unknownMessageType 0x0A (key 0 0) [0x10]) = false := by decide
theorem test_wf_unknown_operation : Instr.wellFormed (.unknownMessageType 0x0A (key 0 0) [0x11]) = true := by decide
theorem test_wf_unknown_too_long : Instr.wellFormed (.unknownMessageType 0x0C (key 0 0) (List.replicate 47 0)) = false := by
  decide
theorem test_wf_request_too_long : Instr.wellFormed (.read (key 0 0) (List.replicate 47 0)) = false := by decide
theorem test_wf_request_longest : Instr.wellFormed (.read (key 0 0) (List.replicate 46 0)) = true := by decide
theorem test_wf_manage_too_long : Instr.wellFormed (.setScan (key 0 0) (List.replicate 46 0)) = false := by decide

/-! ### Layouts: the words written out from R154, R155 and R163 -/

/-- The check word of R154 is the one of the well-known polynomial 0x1021 from 0xFFFF, whose value over the nine digits is 0x29B1. -/
theorem test_check_word : checkWord [0x31, 0x32, 0x33, 0x34, 0x35, 0x36, 0x37, 0x38, 0x39] = 0x29B1 := by decide +kernel

/-- Initiator 5, tag 2, mark LAST: 101 010 10. -/
theorem test_header : headerByte ⟨5, 2, .last⟩ = 0b10101010 := by decide
theorem test_header_back : headerOf 0b10101010 = ⟨5, 2, .last⟩ := by decide

/-- A READ of the WORD at 0x123456 by (1,3): kind 0x01, header, width 2, address high byte first. -/
theorem test_read_body : bodyOf (ask 1 3 .read 0x123456 .word) = some [0x01, 0b00101100, 2, 0x12, 0x34, 0x56] := by decide

/-- A WRITE of 0x1234 carries its low byte first. -/
theorem test_write_body :
    bodyOf (ask 1 3 (.write 0x1234) 0x123456 .word) = some [0x02, 0b00101100, 2, 0x12, 0x34, 0x56, 0x34, 0x12] := by decide

/-- The body of a LINK-NOTICE: type 0x83, the strap value in bits 2 to 0, the count low byte first. -/
theorem test_notice_body : noticeBody (fun _ => 0) 5 0x0102 = [0x83, 5, 0x02, 0x01] := by decide

/-- The body of a FAULT BADREQ response: type 0x81, key, outcome 0x11. -/
theorem test_response_body :
    messageBody (fun _ => 0) (faulted 1 3 .badReq) = [0x81, 0b00101100, 0x11, 0] := by decide

/-- No row of the opcode table gives bits, so no word spells a command. -/
theorem test_no_table_word : decodeTableWord 8 0x70 = none := rfl

/-! ### Power-on and the link -/

/-- R165: strap 5 names the manager and the event target; R83: the asserted line of segment 1 is granted at once. -/
theorem test_power_on :
    (after (.powerOnReset 5 2) mapped).management.managers = 0x20 ∧ (after (.powerOnReset 5 2) mapped).events.target = 5 ∧
      ∀ p, (row (after (.powerOnReset 5 2) mapped).ports p).state = (if p.val = 1 then .held else .idle) := by
  decide +kernel

/-- The frame of SYNC (0x70, 0x00): its check word is 0x1556 by hand calculation; the body reaches the buffer. -/
theorem test_frame :
    (after (.frameReceived ([.delimiter] ++ [0x02, 0x70, 0x00, 0x15, 0x56].map .byte)) upState).link.rx = [[0x70, 0x00]] := by
  decide +kernel

/-- A frame whose check word is wrong raises LINK-ERROR CHECK (source 22). -/
theorem test_frame_check :
    row (after (.frameReceived ([.delimiter] ++ [0x02, 0x70, 0x00, 0x15, 0x57].map .byte)) upState).events.incidents 6 =
      ⟨1, 0, some (.cause .check)⟩ := by
  decide +kernel

/-- A pause mark keeps the next message from being begun (R159). -/
theorem test_pause_mark : (after (.sync [0]) (after .farEndPauseMark upState)).link.sending = none := by decide +kernel

theorem test_pause_mark_gone :
    (after .farEndPauseMarkGone (after (.sync [0]) (after .farEndPauseMark upState))).link.sending.isSome = true := by
  decide +kernel

/-- The message at the head leaves whole (R159). -/
theorem test_message_sent : (after .messageSent (after (.sync [0]) upState)).link.outbound = [] := by decide +kernel

/-- Signal found leaves the link DOWN (R157), and a SYNC brings it UP with a LINK-NOTICE (R158). -/
theorem test_signal_found :
    (after .signalFound State.reset).link.state = .down ∧
      sent (.sync [0]) (after .signalFound State.reset) = [.linkNotice 0 0] := by decide +kernel

/-- Loss of signal while UP raises the reset count and empties the list (R157, R161). -/
theorem test_signal_lost :
    (after .signalLost (after (.sync [0]) upState)).link.resetCount = 1 ∧
      (after .signalLost (after (.sync [0]) upState)).link.outbound = [] := by decide +kernel

theorem test_sync_while_up : sent (.sync [0]) upState = [.linkNotice 0 0] := by decide +kernel

/-- LINK-RESET is answered by a LINK-NOTICE with the raised count; the list is kept (R161). -/
theorem test_link_reset :
    (after (.linkReset [0]) (after (.sync [0]) upState)).link.outbound = [.linkNotice 0 0, .linkNotice 0 1] := by
  decide +kernel

theorem test_unknown : sent (.unknownMessageType 0x0C (key 3 1) []) upState = [faulted 3 1 .badReq] := by decide +kernel

/-- A MANAGE that names no known operation is refused BADREQ (R26). -/
theorem test_unknown_operation :
    sent (.unknownMessageType 0x0A (key 3 1) [0x11]) upState = [faulted 3 1 .badReq] := by decide +kernel

/-! ### Port requests: the worked sequence of 3.6 -/

/-- (1,0) is issued at once: a WORD read step at 0x000400 with the delay timer at 8. -/
theorem test_read :
    (row (after (ask 1 0 .read 0x200400 .word) mapped).ports 1).state =
      .issued ⟨0, .one, none, .delay 8, ⟨0x400, .word, none⟩⟩ := by decide +kernel

/-- A misaligned word is refused ALIGN (R7). -/
theorem test_read_align : sent (ask 1 0 .read 0x200401 .word) mapped = [faulted 1 0 .align] := by decide +kernel

/-- (2,3) is posted: DONE at acceptance, and a BYTE write of the low byte 0x7E at 0x004010 (NARROW). -/
theorem test_write :
    sent (ask 2 3 (.write 0x017E) 0x210010 .word) mapped = [plainResponse 2 3 .done] ∧
      (row (after (ask 2 3 (.write 0x017E) 0x210010 .word) mapped).ports 1).state =
        .issued ⟨0, .one, none, .ready 12, ⟨0x4010, .byte, some (.byte 0x7E)⟩⟩ := by decide +kernel

/-- CROSSED exchanges the bytes of a word (the worked example of 1.4). -/
theorem test_write_crossed :
    (row (after (ask 3 0 (.write 0x1234) 0x041234 .word)
      (upState.setRegion 0 (some ⟨.active, window 0x040000 0x04FFFF 1 (.fixed 8) false .crossed 0x100000, 0⟩))).ports 1).state =
      .issued ⟨0, .one, none, .delay 8, ⟨0x101234, .word, some (.word 0x12 0x34)⟩⟩ := by decide +kernel

/-- A LOCK-READ's issue creates the lock record, and the entry counts the slot and the record (R14, R16, R72). -/
theorem test_lock_read :
    (row (after (ask 2 0 .lockRead 0x200040 .word) mapped).ports 1).lock = some ⟨2, 0x200040, .word, 2, .running 64⟩ ∧
      (row (after (ask 2 0 .lockRead 0x200040 .word) mapped).regions 2).map RegionRecord.inFlight = some 2 := by
  decide +kernel

/-- A second LOCK-READ of the owner is refused LOCKNEST (R70). -/
theorem test_lock_read_nest :
    sent (ask 2 1 .lockRead 0x200040 .word) (after (ask 2 0 .lockRead 0x200040 .word) mapped) = [faulted 2 1 .lockNest] := by
  decide +kernel

/-- P1 holds a lock of initiator 2 at 0x200040. -/
def locked : State :=
  withPort 1 (fun x => { x with lock := some ⟨2, 0x200040, .word, 2, .running 64⟩ })
    (mapped.setRegion 2 (some ⟨.active, fixedWindow, 1⟩))

/-- The owner's UNLOCK-WRITE is issued, and the lifetime timer stops (R75). -/
theorem test_unlock_write :
    (row (after (ask 2 1 (.unlockWrite 7) 0x200040 .word) locked).ports 1).lock = some ⟨2, 0x200040, .word, 2, .stopped⟩ := by
  decide +kernel

theorem test_unlock_write_wrong_address :
    sent (ask 2 1 (.unlockWrite 7) 0x200042 .word) locked = [faulted 2 1 .lockAddr] := by decide +kernel

/-! ### Bit requests: the worked sequences of chapter 7 -/

/-- The BIT-SET at bit address 137 sends a WRITE-STATION to station 4 with position 9 at 1. -/
theorem test_bit_set :
    (after (askBit 1 0 .set 137) stationed).line.op =
      some ⟨4, .writeStation 0xFF00 0x200 0x200, .request 0⟩ := by decide +kernel

theorem test_bit_set_direction : sent (askBit 1 0 .set 130) stationed = [faulted 1 0 .direction] := by decide +kernel

/-- A BIT-CLEAR of position 9 from an image with positions 8 and 9 at 1. -/
theorem test_bit_clear :
    (after (askBit 1 0 .clear 137) (upState.setStation 4 { station4 with image := 0x300 })).line.op =
      some ⟨4, .writeStation 0xFF00 0x100 0x100, .request 0⟩ := by decide +kernel

theorem test_bit_test : (after (askBit 1 1 .test 130) stationed).line.op = some ⟨4, .readStation, .request 0⟩ := by
  decide +kernel

/-- Bit address 512 is refused BADREQ (R29). -/
theorem test_bit_test_range : sent (askBit 1 1 .test 512) stationed = [faulted 1 1 .badReq] := by decide +kernel

/-- Station 7 of the second worked sequence: FIELD-WRITE of 2, two bits wide, at bit address 228. -/
def stationSeven : State :=
  upState.setStation 7 { station4 with direction := 0x30, inversion := 0, rise := 0x1000, fall := 0, lastSample := some 0,
                                       image := 0x10 }

theorem test_field_write :
    (after (askBit 2 3 (.fieldWrite 2 2) 228) stationSeven).line.op =
      some ⟨7, .writeStation 0x30 0x20 0x20, .request 0⟩ := by decide +kernel

theorem test_field_read : (after (askBit 2 3 (.fieldRead 2) 228) stationSeven).line.op = some ⟨7, .readStation, .request 0⟩ := by
  decide +kernel

/-- A field that leaves its station is refused FIELDSPAN: position 31 of station 7, two bits wide (R29). -/
theorem test_field_read_span : sent (askBit 2 3 (.fieldRead 2) 255) stationSeven = [faulted 2 3 .fieldSpan] := by decide +kernel

/-- ABANDON with nothing occupied is answered DONE at once (R42). -/
theorem test_abandon : sent (.abandon (key 3 7) []) mapped = [plainResponse 3 7 .done] := by decide +kernel

/-- ABANDON with a slot on its port: no answer until it ends, and the slot is suppressed (R40, R41). -/
theorem test_abandon_active :
    sent (.abandon (key 1 7) []) (after (ask 1 0 .read 0x200400 .word) mapped) = [] ∧
      (row (after (.abandon (key 1 7) []) (after (ask 1 0 .read 0x200400 .word) mapped)).slots 0).map Slot.suppressed =
        some true := by decide +kernel

/-! ### MANAGE requests -/

theorem test_load_region :
    row (after (order 0 0 (.loadRegion (loadOperandsFor 2 fixedWindow))) upState).regions 2 = some ⟨.active, fixedWindow, 0⟩ := by
  decide +kernel

/-- A window that shares a byte with a present entry's is refused OVERLAP (R3, R142). -/
theorem test_load_region_overlap :
    sent (order 0 0 (.loadRegion (loadOperandsFor 5 { fixedWindow with limit := 0x2000FF }))) mapped = [faulted 0 0 .overlap] := by
  decide +kernel

theorem test_retire_region :
    row (after (order 0 0 (.retireRegion 2)) mapped).regions 2 = none ∧
      sent (order 0 0 (.retireRegion 2)) mapped = [plainResponse 0 0 .done] := by decide +kernel

/-- A retire with a reference left is not answered (R143). -/
theorem test_retire_region_drains :
    sent (order 0 0 (.retireRegion 2)) (after (ask 1 0 .read 0x200400 .word) mapped) = [] := by decide +kernel

theorem test_alter_rights :
    (row (after (order 0 0 (.alterRights 2 0x02 0x04)) mapped).regions 2).map RegionRecord.fields =
      some { fixedWindow with readSet := 0x02, writeSet := 0x04 } := by decide +kernel

theorem test_read_region :
    sent (order 0 0 (.readRegion 5)) mapped = [plainResponse 0 0 (.data (.record (.region none)))] := by decide +kernel

theorem test_set_port :
    row (after (order 0 0 (.setPort 2 1 20 5)) mapped).ports 2 =
      { Port.powerOn with setting := .down, lockLifetime := 20, holdLimit := 5 } := by decide +kernel

/-- A lock lifetime of 0 is refused BADVALUE (R140). -/
theorem test_set_port_lifetime : sent (order 0 0 (.setPort 2 1 0 5)) mapped = [faulted 0 0 .badValue] := by decide +kernel

theorem test_read_port :
    sent (order 0 0 (.readPort 1)) locked =
      [plainResponse 0 0 (.data (.record (.port
        ⟨.up, .idle, 0, .none, 64, 0, some ⟨2, 0x200040, .word, 2, .running 64⟩⟩)))] := by decide +kernel

/-- A new direction set clears the image positions that change (R108). -/
theorem test_set_station :
    (row (after (order 0 0 (.setStation ⟨4, 1, 0x0F00, 0, 0, 0⟩)) (upState.setStation 4 { station4 with image := 0xFF00 })).stations
      4).image = 0x0F00 := by decide +kernel

/-- A watched position that is an output is refused BADVALUE (R148). -/
theorem test_set_station_watch : sent (order 0 0 (.setStation ⟨4, 1, 1, 0, 1, 0⟩)) stationed = [faulted 0 0 .badValue] := by
  decide +kernel

theorem test_read_station :
    sent (order 0 0 (.readStation 4)) stationed = [plainResponse 0 0 (.data (.record (.station station4)))] := by decide +kernel

theorem test_set_scan : (after (order 0 0 (.setScan 10)) stationed).line.scanTimer = .running 10 := by decide +kernel

theorem test_set_event : row (after (order 0 0 (.setEvent 23 15)) upState).events.priorities 23 = 15 := by decide +kernel

theorem test_set_event_range : sent (order 0 0 (.setEvent 24 15)) upState = [faulted 0 0 .badValue] := by decide +kernel

/-- A message of station 4 in flight, with position 0 latched and delivered. -/
def flying : EventMessage := ⟨7, .station 4, 3, .latched 1⟩

/-- That message in AWAIT-ACK, source 4 at priority 3. -/
def awaiting : State :=
  (upState.setStation 4 { station4 with latched := 1, delivered := some 1 }).setEvents
    { upState.events with
      priorities := putRow upState.events.priorities 4 3, delivery := .awaitAck flying, sequence := 7
      ackTimer := .running 10 }

/-- That message in STALLED. -/
def stalled : State :=
  awaiting.setEvents { awaiting.events with delivery := .stalled flying, resends := 3, ackTimer := .stopped }

/-- SET-EVENT-TARGET withdraws the message; a new one with the next number goes to the new target before the answer (R133, R150). -/
theorem test_set_event_target :
    sent (order 0 0 (.setEventTarget 6 20)) awaiting =
      [.event 6 ⟨8, .station 4, 3, .latched 1⟩, plainResponse 0 0 .done] := by decide +kernel

/-- A matching EVENT-ACK takes the delivered position out of the latched set (R131). -/
theorem test_event_ack :
    (row (after (order 0 0 (.eventAck 4 7)) awaiting).stations 4).latched = 0 ∧
      sent (order 0 0 (.eventAck 4 7)) awaiting = [plainResponse 0 0 .done] := by decide +kernel

theorem test_event_ack_wrong_number : sent (order 0 0 (.eventAck 4 8)) awaiting = [faulted 0 0 .badAck] := by decide +kernel

/-- EVENT-RESUME in STALLED hands the same message over again, before the answer (R132). -/
theorem test_event_resume :
    sent (order 0 0 .eventResume) stalled = [.event 0 flying, plainResponse 0 0 .done] := by decide +kernel

theorem test_event_resume_stranger :
    sent (order 1 0 .eventResume) (stalled.setManagement { stalled.management with managers := 3 }) = [faulted 1 0 .badValue] := by
  decide +kernel

/-- Two raises of STRAY-READY counted, one acknowledged. -/
def counted : State :=
  upState.setEvents { upState.events with incidents := putRow upState.events.incidents 2 ⟨2, 1, some (.port 1)⟩ }

theorem test_read_incident :
    sent (order 0 0 (.readIncident 18 1)) counted = [plainResponse 0 0 (.data (.record (.incident ⟨2, 1, some (.port 1)⟩)))] ∧
      row (after (order 0 0 (.readIncident 18 1)) counted).events.incidents 2 = ⟨0, 0, some (.port 1)⟩ := by decide +kernel

/-- The hand-over of management (the worked sequence of 9.6): a set without its requester is refused. -/
theorem test_set_managers :
    (after (order 0 0 (.setManagers 5)) upState).management.managers = 5 ∧
      sent (order 0 0 (.setManagers 4)) upState = [faulted 0 0 .badValue] := by decide +kernel

/-- READ-OCCUPANCY counts its own slot (R153). -/
theorem test_read_occupancy :
    sent (order 0 0 .readOccupancy) upState =
      [plainResponse 0 0 (.data (.record (.occupancy
        [(1, .normal), (0, .normal), (0, .normal), (0, .normal), (0, .normal), (0, .normal), (0, .normal), (0, .normal)] 31)))] := by
  decide +kernel

/-! ### Events at the ports -/

/-- (1,0) is on P1. -/
def reading : State := after (ask 1 0 .read 0x200400 .word) mapped

/-- The delay expires: the word is taken, the slot released and the port IDLE. -/
theorem test_fixed_delay_expiry :
    sent (.fixedDelayExpiry 1 (onSegment 0x34 0x12)) reading = [plainResponse 1 0 (.data (.word 0x1234))] ∧
      (row (after (.fixedDelayExpiry 1 (onSegment 0x34 0x12)) reading).ports 1).state = .idle := by decide +kernel

/-- A ready indication during a FIXED step is stray (R57). -/
theorem test_ready_stray :
    row (after (.readyIndication 1 (onSegment 0 0)) reading).events.incidents 2 = ⟨1, 0, some (.port 1)⟩ := by decide +kernel

/-- (2,3) is on P1, step 1 of a NARROW word. -/
def writing : State := after (ask 2 3 (.write 0x017E) 0x210010 .word) mapped

/-- Ready: step 2 presents the high byte 0x01 at 0x004011. -/
theorem test_ready :
    (row (after (.readyIndication 1 (onSegment 0 0)) writing).ports 1).state =
      .issued ⟨0, .two, none, .ready 12, ⟨0x4011, .byte, some (.byte 0x01)⟩⟩ := by decide +kernel

/-- The ready timer expires at step 2: READY-TIMEOUT names 0x004011, POSTED-FAIL 0x004010, and nothing is sent. -/
theorem test_ready_timer :
    row (after (.readyTimerExpiry 1) (after (.readyIndication 1 (onSegment 0 0)) writing)).events.incidents 1 =
        ⟨1, 0, some (.portAddress 1 0x4011)⟩ ∧
      row (after (.readyTimerExpiry 1) (after (.readyIndication 1 (onSegment 0 0)) writing)).events.incidents 3 =
        ⟨1, 0, some (.portAddress 1 0x4010)⟩ ∧
      sent (.readyTimerExpiry 1) (after (.readyIndication 1 (onSegment 0 0)) writing) = [] := by decide +kernel

/-- The lifetime expires: the record goes and LOCK-EXPIRED names the port and the locked address (R76). -/
theorem test_lock_lifetime :
    (row (after (.lockLifetimeExpiry 1) locked).ports 1).lock = none ∧
      row (after (.lockLifetimeExpiry 1) locked).events.incidents 0 = ⟨1, 0, some (.portAddress 1 0x200040)⟩ := by
  decide +kernel

/-- A raise at an IDLE port without a lock is granted at once, with the limit timer (R85). -/
theorem test_hold_raise :
    (row (after (.holdRequestRaise 2) (withPort 2 (fun x => { x with holdLimit := 5 }) upState)).ports 2).gate = .granted ∧
      (row (after (.holdRequestRaise 2) (withPort 2 (fun x => { x with holdLimit := 5 }) upState)).ports 2).holdTimer =
        .running 5 := by decide +kernel

/-- A raise under a lock stays PENDING (R85). -/
theorem test_hold_raise_locked : (row (after (.holdRequestRaise 1) locked).ports 1).gate = .pending := by decide +kernel

/-- P2 is HELD with its limit timer running. -/
def granted : State :=
  withPort 2 (fun x => { x with holdLine := true, gate := .granted, state := .held, holdTimer := .running 5, holdLimit := 5 })
    upState

theorem test_hold_withdrawal : (row (after (.holdRequestWithdrawal 2) granted).ports 2).state = .idle := by decide +kernel

/-- The limit passes: HOLD-OVERRUN names P2, and the grant is kept (R88). -/
theorem test_hold_limit :
    row (after (.holdLimitExpiry 2) granted).events.incidents 4 = ⟨1, 0, some (.port 2)⟩ ∧
      (row (after (.holdLimitExpiry 2) granted).ports 2).state = .held := by decide +kernel

/-! ### Events at the bit line and of the event unit -/

/-- The poll of station 4 is on the line, the cycle's cursor past it. -/
def polling : State :=
  stationed.setLine { stationed.line with op := some ⟨4, .readStation, .poll⟩, cycle := some 5, scanPeriod := 10,
                                          scanTimer := .running 10 }

/-- The reply at 16 of the worked sequence: positions 0 and 3 are latched, and the cycle ends. -/
theorem test_station_reply :
    (row (after (.stationReply ⟨.readStation, 4, 0x9, true⟩) polling).stations 4).latched = 0x9 ∧
      (after (.stationReply ⟨.readStation, 4, 0x9, true⟩) polling).line.cycle = none := by decide +kernel

/-- BIT-TEST of position 2, whose pin is 1. -/
theorem test_station_reply_request :
    sent (.stationReply ⟨.readStation, 4, 0x4, true⟩) (after (askBit 1 1 .test 130) stationed) =
      [plainResponse 1 1 (.data (.byte 1))] := by decide +kernel

/-- A second timeout in a row: the station is ABSENT and STATION-LOST names it (R107). -/
theorem test_line_timer :
    (row (after .lineTimerExpiry (polling.setStation 4 { station4 with timeouts := 1 })).stations 4).presence = .absent ∧
      row (after .lineTimerExpiry (polling.setStation 4 { station4 with timeouts := 1 })).events.incidents 5 =
        ⟨1, 0, some (.station 4)⟩ := by decide +kernel

/-- The scan timer expires with no cycle running: station 4 is polled. -/
theorem test_scan_timer :
    (after .scanTimerExpiry (stationed.setLine { stationed.line with scanPeriod := 10, scanTimer := .running 10 })).line.op =
      some ⟨4, .readStation, .poll⟩ := by decide +kernel

/-- An expiry while the cycle runs: SCAN-OVERRUN names the station polled (R117). -/
theorem test_scan_overrun :
    row (after .scanTimerExpiry polling).events.incidents 7 = ⟨1, 0, some (.station 4)⟩ := by decide +kernel

/-- The window expires with resend count 3: the state is STALLED (R130). -/
theorem test_ack_window_stalls :
    (after .ackWindowExpiry (awaiting.setEvents { awaiting.events with resends := 3 })).events.delivery = .stalled flying := by
  decide +kernel

theorem test_ack_window_resends :
    sent .ackWindowExpiry awaiting = [.event 0 flying] ∧ (after .ackWindowExpiry awaiting).events.resends = 1 := by
  decide +kernel

/-! ### What the statements assume: a state that meets each statement's hypotheses together -/

/-- A message that arrives at an empty receive buffer. -/
theorem arrives_now {body : List Byte} {s : State} (hr : s.link.rx = []) (hs : s.link.signal = true)
    (ho : s.link.outbound.length < 16) : Arrives body s s := ⟨ho, .inl ⟨hr, hs, rfl⟩⟩

/-- A key is free when no slot of the table has it. -/
theorem key_free {s : State} {h : ReqHeader} (f : slotOfKey s h.initiator h.tag = none) : KeyFree s h :=
  fun i x hx => (slotOfKey_eq_none_iff s h.initiator h.tag).mp f i x hx

/-- A request is served. -/
theorem served {s : State} {h : ReqHeader} (hl : s.link.state = .up) (hm : (row s.initiators h.initiator).mode = .normal)
    (hk : h.mark = .none) (f : slotOfKey s h.initiator h.tag = none) (i : SlotId) (hi : row s.slots i = none) : Served s h :=
  ⟨hl, hm, hk, key_free f, i, hi⟩

/-- Whether no two occupied slots share a key. -/
def keysCheck (s : State) : Bool :=
  decide (∀ i j : SlotId, i = j ∨ (row s.slots i).all (fun x => (row s.slots j).all fun y =>
    !(decide (x.initiator = y.initiator) && decide (x.tag = y.tag))) = true)

theorem keys_of_check {s : State} (c : keysCheck s = true) (i j : SlotId) (x y : Slot) (hx : row s.slots i = some x)
    (hy : row s.slots j = some y) (hi : x.initiator = y.initiator) (ht : x.tag = y.tag) : i = j := by
  have := of_decide_eq_true c i j
  simpa [hx, hy, hi, ht] using this

/-- Whether a slot is answered only if it is a WRITE. -/
def answeredCheck (x : Slot) : Bool :=
  !x.answered || match x.work with
    | .port w =>
        match w.kind with
        | .write _ => true
        | .read => false
        | .lockRead => false
        | .unlockWrite _ => false
    | .bit _ => false
    | .manage _ => false

theorem answered_of_check {x : Slot} (c : answeredCheck x = true) (ha : x.answered = true) :
    ∃ w d, x.work = .port w ∧ w.kind = .write d := by
  unfold answeredCheck at c
  rw [ha] at c
  split at c
  · next w hw =>
    split at c
    · next d hd => exact ⟨w, d, hw, hd⟩
    all_goals exact absurd c (by decide)
  all_goals exact absurd c (by decide)

/-- Whether the slot table is sound. -/
def tableCheck (s : State) : Bool :=
  keysCheck s && decide (∀ k : Initiator, (row s.initiators k).occupancy = slotsOf s k) &&
    decide (∀ i : SlotId, (row s.slots i).all (fun x => decide (x.state ≠ .done) && answeredCheck x) = true)

theorem table_of_check {s : State} (c : tableCheck s = true) : SlotTableOk s := by
  obtain ⟨⟨hk, ho⟩, hd⟩ : (keysCheck s = true ∧ _) ∧ _ := by simpa only [tableCheck, Bool.and_eq_true] using c
  have hd := of_decide_eq_true hd
  refine ⟨keys_of_check hk, of_decide_eq_true ho, fun i x hx => ?_, fun i x hx ha => ?_⟩
  · have := hd i
    rw [hx] at this
    exact of_decide_eq_true ((Bool.and_eq_true _ _).mp this).1
  · have := hd i
    rw [hx] at this
    exact answered_of_check ((Bool.and_eq_true _ _).mp this).2 ha

/-- Whether a slot is a port's, in a state. -/
def portSlotCheck (st : SlotState) (p : PortId) (x : Slot) : Bool :=
  decide (x.state = st) && match x.work with
    | .port w => decide (w.port = p)
    | .bit _ => false
    | .manage _ => false

theorem portSlot_of_check {s : State} {st : SlotState} {p : PortId} {i : SlotId}
    (c : (row s.slots i).any (portSlotCheck st p) = true) :
    ∃ x w, row s.slots i = some x ∧ x.state = st ∧ x.work = .port w ∧ w.port = p := by
  obtain ⟨x, hx, h⟩ : ∃ x, row s.slots i = some x ∧ portSlotCheck st p x = true := by
    cases hx : row s.slots i with
    | none => rw [hx] at c; cases c
    | some x => rw [hx] at c; exact ⟨x, rfl, c⟩
  obtain ⟨h1, h2⟩ := (Bool.and_eq_true _ _).mp h
  split at h2
  · next w hw => exact ⟨x, w, hx, of_decide_eq_true h1, hw, of_decide_eq_true h2⟩
  all_goals exact absurd h2 (by decide)

/-- Whether a slot is a QUEUED bit slot. -/
def lineSlotCheck (x : Slot) : Bool :=
  decide (x.state = .queued) && match x.work with
    | .port _ => false
    | .bit _ => true
    | .manage _ => false

theorem lineSlot_of_check {s : State} {i : SlotId} (c : (row s.slots i).any lineSlotCheck = true) :
    ∃ x w, row s.slots i = some x ∧ x.state = .queued ∧ x.work = .bit w := by
  obtain ⟨x, hx, h⟩ := Option.any_eq_true _ _ |>.mp c
  obtain ⟨h1, h2⟩ := (Bool.and_eq_true _ _).mp h
  split at h2
  · exact absurd h2 (by decide)
  · next w hw => exact ⟨x, w, hx, of_decide_eq_true h1, hw⟩
  · exact absurd h2 (by decide)

/-- Whether the queues and the slot table agree, for a state with no pending retire and no request on the line. -/
def queuesCheck (s : State) : Bool :=
  keysCheck s && decide (∀ p : PortId, (row s.ports p).queue.Nodup) &&
    decide (∀ p : PortId, ∀ q ∈ (row s.ports p).queue, (row s.slots q).any (portSlotCheck .queued p) = true) &&
    decide (∀ p : PortId, (match (row s.ports p).state with
      | .issued cur => (row s.slots cur.slot).any (portSlotCheck .active p)
      | .idle => true
      | .held => true) = true) &&
    decide (∀ op, s.line.op = some op → op.origin = .poll) && decide (s.management.retires = []) &&
    decide s.line.queue.Nodup && decide (∀ q ∈ s.line.queue, (row s.slots q).any lineSlotCheck = true)

theorem queues_of_check {s : State} (c : queuesCheck s = true) : QueuesOk s := by
  obtain ⟨⟨⟨⟨⟨⟨⟨hk, hn⟩, hq⟩, hi⟩, hl⟩, hr⟩, hm⟩, hb⟩ : (((((((keysCheck s = true ∧ _) ∧ _) ∧ _) ∧ _) ∧ _) ∧ _) ∧ _) := by
    simpa only [queuesCheck, Bool.and_eq_true] using c
  have hl := of_decide_eq_true hl
  have hr := of_decide_eq_true hr
  refine ⟨keys_of_check hk, of_decide_eq_true hn, fun p q m => portSlot_of_check (of_decide_eq_true hq p q m),
    of_decide_eq_true hm, fun q m => lineSlot_of_check (of_decide_eq_true hb q m), fun p cur h => ?_, fun op i h g => ?_, fun r h => ?_, fun r q h => ?_⟩
  · have := of_decide_eq_true hi p
    rw [h] at this
    exact portSlot_of_check this
  · exact absurd ((hl op h).symm.trans g) (by simp)
  · exact absurd (hr ▸ h) (by simp)
  · exact absurd (hr ▸ h) (by simp)

/-- What holds of every occupied slot is checked slot by slot. -/
theorem all_slots {s : State} {P : SlotId → Slot → Prop} [∀ i x, Decidable (P i x)]
    (c : ∀ i : SlotId, (row s.slots i).all (fun x => decide (P i x)) = true) (i : SlotId) (x : Slot)
    (h : row s.slots i = some x) : P i x := by
  have := c i
  rw [h] at this
  exact of_decide_eq_true this

/-- What holds of every present region entry is checked entry by entry. -/
theorem all_regions {s : State} {P : EntryId → RegionRecord → Prop} [∀ e r, Decidable (P e r)]
    (c : ∀ e : EntryId, (row s.regions e).all (fun r => decide (P e r)) = true) (e : EntryId) (r : RegionRecord)
    (h : row s.regions e = some r) : P e r := by
  have := c e
  rw [h] at this
  exact of_decide_eq_true this

/-- Whether a slot can stand in a member list. -/
def memberCheck (k : Initiator) (x : Slot) : Bool :=
  decide (x.initiator = k) && decide (x.role ≠ .none) && match x.work with
    | .port _ => true
    | .bit _ => true
    | .manage _ => false

/-- Whether every member list is sound. -/
def membersCheck (s : State) : Bool :=
  decide (∀ k : Initiator, (row s.chains k).members.Nodup ∧
    (∀ i ∈ (row s.chains k).members, (row s.slots i).any (memberCheck k) = true) ∧
    ∀ i ∈ (row s.chains k).members.tail, (row s.slots i).any (fun x => decide (x.state = .waiting)) = true)

theorem members_of_check {s : State} (c : membersCheck s = true) : MemberListsOk s := by
  intro k
  obtain ⟨hn, hm, ht⟩ := of_decide_eq_true c k
  refine ⟨hn, fun i hi => ?_, fun i hi => ?_⟩
  · obtain ⟨x, hx, h⟩ := Option.any_eq_true _ _ |>.mp (hm i hi)
    obtain ⟨⟨h1, h2⟩, h3⟩ : (_ ∧ _) ∧ _ := by simpa only [memberCheck, Bool.and_eq_true] using h
    refine ⟨x, hx, of_decide_eq_true h1, of_decide_eq_true h2, fun op ho => ?_⟩
    rw [ho] at h3
    exact Bool.noConfusion h3
  · obtain ⟨x, hx, h⟩ := Option.any_eq_true _ _ |>.mp (ht i hi)
    exact ⟨x, hx, of_decide_eq_true h⟩

/-- Whether a queue stands in acceptance order. -/
def orderedCheck (s : State) (queue : List SlotId) : Bool :=
  decide (queue.Pairwise fun i j => (row s.slots i).all (fun x => (row s.slots j).all fun y =>
    decide ((s.acceptCounter - y.sequence).toNat < (s.acceptCounter - x.sequence).toNat)) = true)

theorem ordered_of_check {s : State} {queue : List SlotId} (c : orderedCheck s queue = true) : Ordered s queue :=
  (of_decide_eq_true c).imp fun h x y hx hy => by
    rw [hx, Option.all_some, hy] at h
    exact of_decide_eq_true h

/-! #### The block, the receiver and the link -/

theorem test_assumes_step : { polling with pending := [.lineTimerExpiry] }.pending = Instr.lineTimerExpiry :: [] := rfl

/-- Bodies of 2 and of 48 bytes, length bytes of 1 and 49, and a receiver inside a frame. -/
theorem test_assumes_frames :
    upState.link.signal = true ∧ upState.link.framing = .hunting ∧ [(0x70 : Byte), 0].length = 2 ∧
      (List.replicate 48 (0 : Byte)).length = 48 ∧ (1 : Byte).toNat < 2 ∧ 48 < (49 : Byte).toNat ∧
      (upState.setFraming .started).link.signal = true ∧ (upState.setFraming .started).link.framing ≠ .hunting ∧
      (upState.setFraming (.collecting 2 [0])).link.framing ≠ .hunting := by decide

/-- A message to send under a pause mark, two with the first on the line, and one on the line under a pause mark. -/
theorem test_assumes_transmitter :
    ((after (.sync [0]) (after .farEndPauseMark upState)).link.sending = none ∧
      (after (.sync [0]) (after .farEndPauseMark upState)).link.outbound = .linkNotice 0 0 :: []) ∧
    ((after (.sync [0]) (after (.sync [0]) upState)).link.sending.isSome = true ∧
      (after (.sync [0]) (after (.sync [0]) upState)).link.outbound = .linkNotice 0 0 :: [.linkNotice 0 0] ∧
      (after (.sync [0]) (after (.sync [0]) upState)).link.farPause = false) ∧
    ((after .farEndPauseMark (after (.sync [0]) upState)).link.sending.isSome = true ∧
      (after .farEndPauseMark (after (.sync [0]) upState)).link.outbound = .linkNotice 0 0 :: [] ∧
      (after .farEndPauseMark (after (.sync [0]) upState)).link.farPause = true) := by decide +kernel

/-- A SYNC that arrives while DOWN, and one that waits in the buffer while UP. -/
theorem test_assumes_sync :
    Arrives [0x70, 0] (after .signalFound State.reset) (after .signalFound State.reset) ∧
      (after .signalFound State.reset).link.signal = true ∧
      Arrives [0x70, 0] (upState.setLink { upState.link with rx := [[0x70, 0]] }) upState ∧
      (upState.setLink { upState.link with rx := [[0x70, 0]] }).link.signal = true :=
  ⟨arrives_now (by decide) (by decide) (by decide), by decide, ⟨by decide, .inr ⟨[], rfl, rfl⟩⟩, rfl⟩

/-- A link reset with a slot on its port. -/
theorem test_assumes_link_reset :
    reading.link.state = .up ∧ SlotTableOk reading ∧ QueuesOk reading ∧ (row reading.slots 0).isSome = true ∧
      Arrives [0x71, 0] reading reading :=
  ⟨by decide +kernel, table_of_check (by decide +kernel), queues_of_check (by decide +kernel), by decide +kernel,
    arrives_now (by decide +kernel) (by decide +kernel) (by decide +kernel)⟩

/-- The part with signal present and the link DOWN. -/
def downState : State := after .signalFound State.reset

/-- While DOWN: a LINK-RESET that arrives, and a sound link interface with signal. -/
theorem test_assumes_down :
    Arrives [0x71, 0] downState downState ∧ downState.link.state = .down ∧ downState.link.signal = true ∧
      LinkOk downState.link :=
  ⟨arrives_now (by decide) (by decide) (by decide), by decide, by decide, by decide, by decide, by decide,
    fun f h => absurd (show none = some f from h) (by simp)⟩

/-- The types beside the known ones. -/
theorem test_assumes_unknown :
    (∀ first ∈ [(0x00 : Byte), 0x0C, 0x6F, 0x72, 0xFF],
      ¬(1 ≤ first.toNat ∧ first.toNat ≤ 11) ∧ first ≠ 0x70 ∧ first ≠ 0x71) ∧
      (Arrives (0x0C :: headerByte (key 3 1) :: []) upState upState ∧ upState.link.state = .up) ∧
      Arrives (0x0C :: headerByte (key 3 1) :: []) downState downState ∧ downState.link.state = .down :=
  ⟨by decide, ⟨arrives_now rfl rfl (by decide), rfl⟩, arrives_now (by decide) (by decide) (by decide), by decide⟩

/-! #### Acceptance -/

/-- Initiator 1 is ABANDONING with its READ on P1. -/
def abandoning : State := after (.abandon (key 1 7) []) reading

theorem test_assumes_abandoning :
    requestOf (ask 1 5 .read 0x200400 .word) = some (key 1 5) ∧
      bodyOf (ask 1 5 .read 0x200400 .word) = some [0x01, 0b00110100, 2, 0x20, 0x04, 0x00] ∧
      Arrives [0x01, 0b00110100, 2, 0x20, 0x04, 0x00] abandoning abandoning ∧ abandoning.link.state = .up ∧
      (row abandoning.initiators 1).mode = .abandoning :=
  ⟨rfl, by decide, arrives_now (by decide +kernel) (by decide +kernel) (by decide +kernel), by decide +kernel,
    by decide +kernel⟩

/-- A READ without operands, and a LOCK-READ with a chain mark. -/
theorem test_assumes_malformed :
    (requestOf (.read (key 1 5) []) = some (key 1 5) ∧ bodyOf (.read (key 1 5) []) = some [0x01, 0b00110100] ∧
      Arrives [0x01, 0b00110100] mapped mapped ∧ mapped.link.state = .up ∧ (row mapped.initiators 1).mode = .normal ∧
      ¬ WellFormedRequest (key 1 5) (.read (key 1 5) [])) ∧
    ¬ WellFormedRequest ⟨1, 5, .member⟩ (portCommand ⟨1, 5, .member⟩ .lockRead 0x200400 .word) := by
  refine ⟨⟨rfl, by decide, arrives_now rfl rfl (by decide), rfl, by decide, ?_⟩, ?_⟩
  · rintro (⟨kind, addr, width, h, -⟩ | ⟨kind, addr, h, -⟩ | ⟨op, h, -⟩ | ⟨h, -⟩)
    · cases kind <;> simp [portCommand] at h
    · cases kind <;> simp [bitCommand] at h
    · cases op <;> simp [manageCommand] at h
    · simp at h
  · rintro (⟨kind, addr, width, h, -, m⟩ | ⟨kind, addr, h, -⟩ | ⟨op, -, m⟩ | ⟨h, -⟩)
    · cases kind <;> simp [portCommand] at h m
    · cases kind <;> simp [portCommand, bitCommand] at h
    · simp at m
    · simp [portCommand] at h

/-- MANAGE bodies without an operation code and with the codes below and above the known ones, to a NORMAL and an ABANDONING
initiator while UP, and while DOWN. -/
theorem test_assumes_no_operation :
    (∀ rest ∈ [([] : List Byte), [0], [17, 1]],
      rest = [] ∨ ∃ op operands, rest = op :: operands ∧ (op.toNat = 0 ∨ 16 < op.toNat)) ∧
    (Arrives [0x0A, headerByte (key 1 5)] mapped mapped ∧ mapped.link.state = .up ∧ (row mapped.initiators 1).mode = .normal) ∧
    (Arrives [0x0A, headerByte (key 1 5), 17, 1] abandoning abandoning ∧ abandoning.link.state = .up ∧
      (row abandoning.initiators 1).mode = .abandoning) ∧
    Arrives [0x0A, headerByte (key 1 5), 0] downState downState ∧ downState.link.state = .down := by
  refine ⟨fun rest h => ?_, ⟨arrives_now rfl rfl (by decide), rfl, by decide⟩,
    ⟨arrives_now (by decide +kernel) (by decide +kernel) (by decide +kernel), by decide +kernel, by decide +kernel⟩,
    arrives_now (by decide) (by decide) (by decide), by decide⟩
  simp only [List.mem_cons, List.not_mem_nil, or_false] at h
  rcases h with rfl | rfl | rfl
  · exact .inl rfl
  · exact .inr ⟨0, [], rfl, .inl rfl⟩
  · exact .inr ⟨17, [1], rfl, .inr (by decide)⟩

/-- Sixteen messages wait to leave. -/
def heldBack : State := upState.setLink { upState.link with outbound := List.replicate 16 (.linkNotice 0 0) }

/-- A request that is discarded while DOWN, and messages held back at an empty receive buffer and at one that holds a frame. -/
theorem test_assumes_not_taken :
    (requestOf (ask 1 5 .read 0x200400 .word) = some (key 1 5) ∧
      bodyOf (ask 1 5 .read 0x200400 .word) = some [0x01, 0b00110100, 2, 0x20, 0x04, 0x00] ∧
      Arrives [0x01, 0b00110100, 2, 0x20, 0x04, 0x00] downState downState ∧ downState.link.state = .down) ∧
    (bodyOf (.sync [0]) = some [0x70, 0] ∧ Instr.wellFormed (.sync [0]) = true ∧
      (ask 1 5 .read 0x200400 .word).wellFormed = true ∧ 16 ≤ heldBack.link.outbound.length ∧ heldBack.link.rx = [] ∧
      heldBack.link.signal = true) ∧
    16 ≤ (heldBack.setLink { heldBack.link with rx := [[0x70, 0]] }).link.outbound.length ∧
    (heldBack.setLink { heldBack.link with rx := [[0x70, 0]] }).link.rx ≠ [] :=
  ⟨⟨rfl, by decide, arrives_now (by decide) (by decide) (by decide), by decide⟩,
    ⟨by decide, by decide, by decide, by decide, by decide, by decide⟩, by decide, by decide⟩

/-- All 32 slots occupied, none by initiator 6. -/
def full : State :=
  { mapped with
    slots := uniform 32 (some ⟨5, 0, .bit ⟨.test, 0⟩, .none, .queued, .one, false, false, none, 0⟩) }

/-- A well-formed READ. -/
theorem read_wellFormed (k : Initiator) (t : Tag) (a : Addr) (w : Width) : WellFormedRequest (key k t) (ask k t .read a w) :=
  .inl ⟨.read, a, w, rfl, trivial, by simp [key]⟩

/-- A key in use, and a full table. -/
theorem test_assumes_key_and_table :
    (requestOf (ask 1 0 .read 0x200400 .word) = some (key 1 0) ∧
      bodyOf (ask 1 0 .read 0x200400 .word) = some [0x01, 0b00100000, 2, 0x20, 0x04, 0x00] ∧
      Arrives [0x01, 0b00100000, 2, 0x20, 0x04, 0x00] reading reading ∧ reading.link.state = .up ∧
      (row reading.initiators 1).mode = .normal ∧ WellFormedRequest (key 1 0) (ask 1 0 .read 0x200400 .word) ∧
      ask 1 0 .read 0x200400 .word ≠ .abandon (key 1 0) [] ∧ ¬ KeyFree reading (key 1 0)) ∧
    (Arrives [0x01, 0b11000100, 2, 0x20, 0x04, 0x00] full full ∧ full.link.state = .up ∧
      bodyOf (ask 6 1 .read 0x200400 .word) = some [0x01, 0b11000100, 2, 0x20, 0x04, 0x00] ∧
      (row full.initiators 6).mode = .normal ∧ WellFormedRequest (key 6 1) (ask 6 1 .read 0x200400 .word) ∧
      KeyFree full (key 6 1) ∧ ∀ i, row full.slots i ≠ none) := by
  refine ⟨⟨rfl, by decide, arrives_now (by decide +kernel) (by decide +kernel) (by decide +kernel), by decide +kernel,
    by decide +kernel, read_wellFormed 1 0 _ _, by decide, fun f => ?_⟩,
    arrives_now rfl rfl (by decide), rfl, by decide, by decide, read_wellFormed 6 1 _ _,
    key_free (by decide +kernel), by decide +kernel⟩
  have : slotOfKey reading 1 0 = none := (slotOfKey_eq_none_iff _ _ _).mpr fun i x hx => f i x hx
  exact absurd this (by decide +kernel)

theorem mapped_no_slots (i : SlotId) : row mapped.slots i = none := by revert i; decide

/-- Nothing is locked and nothing occupied in `mapped`, where every initiator is served. -/
theorem mapped_served (k : Initiator) (t : Tag) : Served mapped (key k t) :=
  served rfl (by change (row mapped.initiators k).mode = .normal; revert k; decide) rfl
    ((slotOfKey_eq_none_iff _ _ _).mpr fun i x hx => absurd ((mapped_no_slots i).symm.trans hx) (by simp)) 0 (by decide)

theorem mapped_no_locks (p : PortId) : (row mapped.ports p).lock = none := by revert p; decide

/-- What the lock checks ask in `mapped` of a LOCK-READ. -/
theorem mapped_lock_read (k : Initiator) (p : PortId) (a : Addr) (w : Width) : LockAllows mapped k p a w .lockRead :=
  ⟨fun l hl => absurd ((mapped_no_locks p).symm.trans hl) (by simp),
    fun i x w hx => absurd ((mapped_no_slots i).symm.trans hx) (by simp)⟩

/-- The addresses at the edges of a window, and beside it. -/
theorem test_assumes_inside :
    Inside fixedWindow 0x200000 ∧ Inside fixedWindow 0x20FFFF ∧ ¬ Inside fixedWindow 0x1FFFFF ∧
      ¬ Inside fixedWindow 0x210000 ∧ Entitled fixedWindow 7 .lockRead ∧
      ¬ Entitled { fixedWindow with writeSet := 0x7F } 7 (.unlockWrite 0) := by
  unfold Inside Entitled; decide

/-- The entry of P1 with another phase, write set or lockable field. -/
def entryWith (phase : RegionPhase) (writeSet : InitiatorSet) (lockable : Bool) : State :=
  mapped.setRegion 2 (some ⟨phase, { fixedWindow with writeSet := writeSet, lockable := lockable }, 1⟩)

/-- NOMAP one byte below the window. -/
theorem test_assumes_refuses_noMap : RegionRefuses mapped 1 .read 0x1FFFFF .byte (.fault .noMap) := .inl ⟨by decide, rfl⟩

theorem test_assumes_refuses_draining : RegionRefuses (entryWith .draining 0xFF true) 1 .read 0x200000 .byte .defer :=
  .inr ⟨2, ⟨.draining, { fixedWindow with writeSet := 0xFF, lockable := true }, 1⟩, by decide, by decide, .inl ⟨rfl, rfl⟩⟩

theorem test_assumes_refuses_portDown :
    RegionRefuses (withPort 1 (fun x => { x with setting := .down }) mapped) 1 .read 0x20FFFF .byte (.fault .portDown) :=
  .inr ⟨2, ⟨.active, fixedWindow, 0⟩, by decide, by decide, .inr (.inl ⟨rfl, by decide, rfl⟩)⟩

/-- DENIED to a LOCK-READ of initiator 0, which is in the read set alone. -/
theorem test_assumes_refuses_denied : RegionRefuses (entryWith .active 0xFE true) 0 .lockRead 0x200000 .word (.fault .denied) :=
  .inr ⟨2, ⟨.active, { fixedWindow with writeSet := 0xFE, lockable := true }, 1⟩, by decide, by decide,
    .inr (.inr ⟨rfl, by decide, .inl ⟨by decide, rfl⟩⟩)⟩

theorem test_assumes_refuses_align : RegionRefuses mapped 1 .read 0x20FFFF .word (.fault .align) :=
  .inr ⟨2, ⟨.active, fixedWindow, 0⟩, by decide, by decide,
    .inr (.inr ⟨rfl, by decide, .inr (.inl ⟨by decide, by decide, by decide, rfl⟩)⟩)⟩

theorem test_assumes_refuses_noLock : RegionRefuses (entryWith .active 0xFF false) 1 .lockRead 0x200000 .word (.fault .noLock) :=
  .inr ⟨2, ⟨.active, { fixedWindow with writeSet := 0xFF, lockable := false }, 1⟩, by decide, by decide,
    .inr (.inr ⟨rfl, by decide, .inr (.inr ⟨by decide, by decide, .inl ⟨rfl, rfl, rfl⟩⟩)⟩)⟩

/-- LOCKNEST to the owner of the lock, at another address. -/
theorem test_assumes_refuses_lockNest : RegionRefuses locked 2 .lockRead 0x200000 .word (.fault .lockNest) :=
  .inr ⟨2, ⟨.active, fixedWindow, 1⟩, by decide, by decide,
    .inr (.inr ⟨rfl, by decide, .inr (.inr ⟨by decide, by decide,
      .inr (.inl ⟨rfl, rfl, fun a => a.1 ⟨2, 0x200040, .word, 2, .running 64⟩ (by decide) rfl, rfl⟩)⟩)⟩)⟩

/-- LOCKLOST without a lock record, and under another initiator's. -/
theorem test_assumes_refuses_lockLost :
    RegionRefuses mapped 2 (.unlockWrite 7) 0x200040 .word (.fault .lockLost) ∧
      RegionRefuses locked 3 (.unlockWrite 7) 0x200040 .word (.fault .lockLost) := by
  refine ⟨.inr ⟨2, ⟨.active, fixedWindow, 0⟩, by decide, by decide,
      .inr (.inr ⟨rfl, by decide, .inr (.inr ⟨by decide, by decide,
        .inr (.inr (.inl ⟨7, rfl, fun l hl => ?_, rfl⟩))⟩)⟩)⟩,
    .inr ⟨2, ⟨.active, fixedWindow, 1⟩, by decide, by decide,
      .inr (.inr ⟨rfl, by decide, .inr (.inr ⟨by decide, by decide,
        .inr (.inr (.inl ⟨7, rfl, fun l hl => ?_, rfl⟩))⟩)⟩)⟩⟩
  · exact absurd ((mapped_no_locks 1).symm.trans hl) (by simp)
  · have : (row locked.ports 1).lock = some ⟨2, 0x200040, .word, 2, .running 64⟩ := by decide
    cases this.symm.trans hl
    decide

/-- LOCKADDR to the owner, one word further. -/
theorem test_assumes_refuses_lockAddr : RegionRefuses locked 2 (.unlockWrite 7) 0x200042 .word (.fault .lockAddr) :=
  .inr ⟨2, ⟨.active, fixedWindow, 1⟩, by decide, by decide,
    .inr (.inr ⟨rfl, by decide, .inr (.inr ⟨by decide, by decide,
      .inr (.inr (.inr ⟨7, ⟨2, 0x200040, .word, 2, .running 64⟩, rfl, by decide, rfl, by decide, rfl⟩))⟩)⟩)⟩

/-- The other hypotheses of the refusals: a bit request one above the range and one past the end of a station, and a MANAGE of
initiator 1, who is no manager. -/
theorem test_assumes_first_failed :
    (dataFits .byte .read ∧ bodyOf (ask 1 0 .read 0x1FFFFF .byte) = some [0x01, 0b00100000, 1, 0x1F, 0xFF, 0xFF] ∧
      Arrives [0x01, 0b00100000, 1, 0x1F, 0xFF, 0xFF] mapped mapped ∧ Served mapped (key 1 0)) ∧
    (bitKindFits .test ∧ ¬ BitFits .test 512 ∧ bitKindFits (.fieldRead 2) ∧ ¬ BitFits (.fieldRead 2) 511 ∧
      bodyOf (askBit 1 0 .test 512) = some [0x07, 0b00100000, 0, 0, 2, 0] ∧
      Arrives [0x07, 0b00100000, 0, 0, 2, 0] mapped mapped) ∧
    (bodyOf (order 1 0 .readOccupancy) = some [0x0A, 0b00100000, 0x10] ∧
      Arrives [0x0A, 0b00100000, 0x10] mapped mapped ∧ mapped.management.managers.has 1 = false) :=
  ⟨⟨trivial, by decide, arrives_now rfl rfl (by decide), mapped_served 1 0⟩,
    ⟨trivial, fun f => absurd f.1 (by decide), ⟨by decide, by decide⟩, fun f => absurd f.2 (by decide), by decide,
      arrives_now rfl rfl (by decide)⟩,
    by decide, arrives_now rfl rfl (by decide), by decide⟩

/-- A member that heads its chain is served. -/
theorem served_as_head {s : State} {h : ReqHeader} (hl : s.link.state = .up)
    (hm : (row s.initiators h.initiator).mode = .normal) (hk : MemberMark h.mark)
    (f : slotOfKey s h.initiator h.tag = none) (i : SlotId) (hi : row s.slots i = none)
    (hc : (row s.chains h.initiator).state ≠ .failed ∧ (row s.chains h.initiator).lastHeld = false ∧
      (row s.chains h.initiator).count < 255 ∧ (row s.chains h.initiator).members = []) : Admitted s h :=
  .inr ⟨hl, hm, hk, key_free f, ⟨i, hi⟩, hc.1, hc.2.1, hc.2.2.1, hc.2.2.2⟩

/-- P1 is HELD. -/
def heldPort : State := withPort 1 (fun x => { x with state := .held, gate := .granted, holdLine := true }) mapped

/-- A port-kind access that the region map allows at the top of P1's FIXED window. -/
theorem region_allows (s : State) (k : Initiator) (kind : PortKind) (hr : row s.regions 2 = some ⟨.active, fixedWindow, 0⟩)
    (hl : lookup s 0x20FFFE = some 2) (hp : (row s.ports 1).setting = .up) (hk : hasRight fixedWindow k kind = true)
    (hlock : LockAllows s k 1 0x20FFFE .word kind) :
    RegionAllows s k kind 0x20FFFE .word 2 ⟨.active, fixedWindow, 0⟩ :=
  ⟨hl, hr, rfl, hp, hk, fun _ => by decide, fun _ => rfl, hlock⟩

theorem test_assumes_port_busy :
    dataFits .word .read ∧ bodyOf (ask 1 0 .read 0x20FFFE .word) = some [0x01, 0b00100000, 2, 0x20, 0xFF, 0xFE] ∧
      Arrives [0x01, 0b00100000, 2, 0x20, 0xFF, 0xFE] heldPort heldPort ∧ Admitted heldPort (key 1 0) ∧
      RegionAllows heldPort 1 .read 0x20FFFE .word 2 ⟨.active, fixedWindow, 0⟩ ∧ (row heldPort.ports 1).state ≠ .idle ∧
      TailOpen heldPort (row heldPort.ports 1).queue :=
  ⟨trivial, by decide, arrives_now rfl rfl (by decide), .inl (served rfl (by decide) rfl (by decide +kernel) 0 (by decide)),
    region_allows heldPort 1 .read (by decide) (by decide) (by decide) (by decide) trivial, by decide,
    fun q hq => absurd hq (by revert q; decide)⟩

/-- Chain heads: the first member of a CLOSED chain at a busy and at an IDLE port, a LAST of a chain that has counted 254 members, and
bit requests at a busy and at a free line. -/
theorem test_assumes_heads :
    (Admitted heldPort ⟨3, 0, .member⟩ ∧ markFits ⟨3, 0, .member⟩ (.write 7)) ∧ Admitted mapped ⟨3, 0, .last⟩ ∧
      Admitted (mapped.setChain 3 ⟨.opened, 254, none, false, []⟩) ⟨3, 0, .last⟩ ∧ Admitted polling ⟨3, 0, .member⟩ ∧
      Admitted stationed ⟨3, 0, .last⟩ :=
  ⟨⟨served_as_head rfl (by decide) (.inl rfl) (by decide +kernel) 0 (by decide) (by decide), trivial⟩,
    served_as_head rfl (by decide) (.inr rfl) (by decide +kernel) 0 (by decide) (by decide),
    served_as_head rfl (by decide) (.inr rfl) (by decide +kernel) 0 (by decide) (by decide),
    served_as_head rfl (by decide) (.inl rfl) (by decide +kernel) 0 (by decide) (by decide),
    served_as_head rfl (by decide) (.inr rfl) (by decide +kernel) 0 (by decide) (by decide)⟩

/-- A queue behind a HELD port with another initiator's slot in it. -/
theorem test_assumes_port_queue :
    TailOpen (after (ask 1 0 .read 0x20FFFE .word) heldPort) [0] ∧
      (row (after (ask 1 0 .read 0x20FFFE .word) heldPort).ports 1).queue = [0] := by
  refine ⟨fun q hq => ?_, by decide +kernel⟩
  obtain rfl : q = 0 := by simpa using hq
  exact ⟨filledSlot heldPort (key 1 0) (.port ⟨.read, 0x20FFFE, .word, 2, 0xFFFE, 1⟩) .queued false, by decide +kernel,
    by decide +kernel⟩

/-- An IDLE port without a lock record, for every port kind that needs none, and one under the requester's own lock record. -/
theorem test_assumes_port_idle :
    (RegionAllows mapped 2 .read 0x20FFFE .word 2 ⟨.active, fixedWindow, 0⟩ ∧
      RegionAllows mapped 2 (.write 0xFFFF) 0x20FFFE .word 2 ⟨.active, fixedWindow, 0⟩ ∧
      RegionAllows mapped 2 .lockRead 0x20FFFE .word 2 ⟨.active, fixedWindow, 0⟩ ∧ (row mapped.ports 1).state = .idle ∧
      (row mapped.ports 1).queue = [] ∧ (row mapped.ports 1).lock = none ∧ (row mapped.ports 1).gate ≠ .pending) ∧
    (RegionAllows locked 2 (.unlockWrite 0xFFFF) 0x200040 .word 2 ⟨.active, fixedWindow, 1⟩ ∧
      dataFits .word (.unlockWrite 0xFFFF) ∧ Admitted locked (key 2 1) ∧ markFits (key 2 1) (.unlockWrite 0xFFFF) ∧
      bodyOf (ask 2 1 (.unlockWrite 0xFFFF) 0x200040 .word) = some [0x04, 0b01000100, 2, 0x20, 0x00, 0x40, 0xFF, 0xFF] ∧
      Arrives [0x04, 0b01000100, 2, 0x20, 0x00, 0x40, 0xFF, 0xFF] locked locked ∧ (row locked.ports 1).state = .idle ∧
      (row locked.ports 1).queue = [] ∧ ∃ l, (row locked.ports 1).lock = some l ∧ l.owner = (key 2 1).initiator) :=
  ⟨⟨region_allows mapped 2 .read (by decide) (by decide) (by decide) (by decide) trivial,
      region_allows mapped 2 (.write 0xFFFF) (by decide) (by decide) (by decide) (by decide) trivial,
      region_allows mapped 2 .lockRead (by decide) (by decide) (by decide) (by decide) (mapped_lock_read 2 1 _ _),
      by decide, by decide, by decide, by decide⟩,
    ⟨by decide, by decide, rfl, by decide, by decide, fun _ => by decide, fun h => absurd h (by decide),
      ⟨2, 0x200040, .word, 2, .running 64⟩, by decide, rfl, rfl, rfl⟩,
    fun h => absurd h (by decide), .inl (served rfl (by decide) rfl (by decide +kernel) 0 (by decide)), rfl, by decide,
    arrives_now rfl rfl (by decide), by decide, by decide, ⟨2, 0x200040, .word, 2, .running 64⟩, by decide, rfl⟩

/-- A word and a byte, at an even target, of the kinds that write and that read. -/
theorem test_assumes_lanes :
    (⟨.write 0x1234, 0x041234, .word, 0, 0x101234, 1⟩ : PortWork).kind = .write 0x1234 ∧
      (⟨.write 0x1234, 0x041234, .word, 0, 0x101234, 1⟩ : PortWork).width = .word ∧
      (⟨.write 0x1234, 0x041234, .word, 0, 0x101234, 1⟩ : PortWork).target.toNat % 2 = 0 ∧
      (⟨.write 0x56, 0x041235, .byte, 0, 0x101235, 1⟩ : PortWork).width = .byte ∧
      (⟨.unlockWrite 0x1234, 0x041234, .word, 0, 0x101234, 1⟩ : PortWork).kind = .unlockWrite 0x1234 ∧
      (⟨.lockRead, 0x041235, .byte, 0, 0x101235, 1⟩ : PortWork).kind = .lockRead ∧
      (⟨.read, 0x041234, .word, 0, 0x101234, 1⟩ : PortWork).kind = .read := by decide

/-! #### Bit requests -/

/-- A field of the greatest width at the last position that holds it. -/
theorem test_assumes_line_busy :
    bitKindFits (.fieldWrite 16 0xFFFF) ∧
      bodyOf (askBit 1 0 (.fieldWrite 16 0xFFFF) 496) = some [0x09, 0b00100000, 16, 0, 1, 0xF0, 0xFF, 0xFF] ∧
      Arrives [0x09, 0b00100000, 16, 0, 1, 0xF0, 0xFF, 0xFF] polling polling ∧ Admitted polling (key 1 0) ∧
      BitFits (.fieldWrite 16 0xFFFF) 496 ∧ polling.line.op ≠ none ∧ TailOpen polling polling.line.queue :=
  ⟨⟨by decide, by decide, by decide⟩, by decide, arrives_now rfl rfl (by decide),
    .inl (served rfl (by decide) rfl (by decide +kernel) 0 (by decide)), ⟨by decide, by decide⟩, by decide,
    fun q hq => absurd hq (by revert q; decide)⟩

/-- A station that is DISABLED, a write at an input, a write at an output and a read, each on a free line. -/
theorem test_assumes_bit_issue :
    (bitKindFits .set ∧ bodyOf (askBit 1 0 .set 511) = some [0x05, 0b00100000, 0, 0, 1, 0xFF] ∧
      Arrives [0x05, 0b00100000, 0, 0, 1, 0xFF] stationed stationed ∧ Admitted stationed (key 1 0) ∧ (key 1 0).mark = .none ∧ BitFits .set 511 ∧
      stationed.line.op = none ∧ stationed.line.queue = [] ∧ stationed.line.cycle = none ∧
      (15 : StationId).val = (511 : Addr).toNat / 32 ∧ (row stationed.stations 15).presence = .disabled) ∧
    (BitFits .set 128 ∧ (4 : StationId).val = (128 : Addr).toNat / 32 ∧ (row stationed.stations 4).presence = .present ∧
      isBitWrite .set = true ∧
      ∃ j, j < bitWidth .set ∧ (row stationed.stations 4).direction.getLsbD ((128 : Addr).toNat % 32 + j) = false) ∧
    (BitFits (.fieldWrite 8 0xFF) 136 ∧ isBitWrite (.fieldWrite 8 0xFF) = true ∧
      ∀ j, j < bitWidth (.fieldWrite 8 0xFF) →
        (row stationed.stations 4).direction.getLsbD ((136 : Addr).toNat % 32 + j) = true) ∧
    (BitFits .test 159 ∧ isBitWrite .test = false) :=
  ⟨⟨trivial, by decide, arrives_now rfl rfl (by decide), .inl (served rfl (by decide) rfl (by decide +kernel) 0 (by decide)),
      rfl, ⟨by decide, by decide⟩, by decide, by decide, by decide, by decide, by decide⟩,
    ⟨⟨by decide, by decide⟩, by decide, by decide, by decide, 0, by decide, by decide⟩,
    ⟨⟨by decide, by decide⟩, by decide, by decide⟩, ⟨by decide, by decide⟩, by decide⟩

/-! #### Chains -/

/-- Initiator 3's chain is OPEN with its first member on P1. -/
def chained : State := after (portCommand ⟨3, 0, .member⟩ .read 0x200400 .word) mapped

/-- A second member, and a LAST. -/
theorem test_assumes_chain_waits :
    (Passes chained ⟨3, 1, .last⟩ (bitCommand ⟨3, 1, .last⟩ .set 137) (.bit ⟨.set, 137⟩) ∧
      WellFormedRequest ⟨3, 1, .last⟩ (bitCommand ⟨3, 1, .last⟩ .set 137) ∧
      bodyOf (bitCommand ⟨3, 1, .last⟩ .set 137) = some [0x05, 0b01100110, 0, 0, 0, 137] ∧
      Arrives [0x05, 0b01100110, 0, 0, 0, 137] chained chained ∧ chained.link.state = .up ∧
      (row chained.initiators 3).mode = .normal ∧ KeyFree chained ⟨3, 1, .last⟩ ∧ row chained.slots 1 = none ∧
      (row chained.chains 3).state = .opened ∧ (row chained.chains 3).lastHeld = false ∧
      (row chained.chains 3).count < 255 ∧ (row chained.chains 3).members ≠ []) ∧
    Passes chained ⟨3, 1, .member⟩ (portCommand ⟨3, 1, .member⟩ .read 0x20FFFE .word)
      (.port ⟨.read, 0x20FFFE, .word, 2, 0xFFFE, 1⟩) :=
  ⟨⟨.inr ⟨.set, 137, rfl, trivial, ⟨by decide, by decide⟩, by decide⟩,
      .inr (.inl ⟨.set, 137, rfl, trivial, by decide⟩), by decide,
      arrives_now (by decide +kernel) (by decide +kernel) (by decide +kernel), by decide +kernel, by decide +kernel,
      key_free (by decide +kernel), by decide +kernel, by decide +kernel, by decide +kernel, by decide +kernel,
      by decide +kernel⟩,
    .inl ⟨.read, 0x20FFFE, .word, 2, ⟨.active, fixedWindow, 1⟩, rfl, trivial,
      ⟨by decide +kernel, by decide +kernel, rfl, by decide +kernel, by decide, fun _ => by decide, fun _ => rfl, trivial⟩,
      by decide⟩⟩

/-- Initiator 3's context with another state, count or flag, and no member that waits. -/
def context (c : Chain) : State := mapped.setChain 3 c

/-- The contexts in which a member is refused: a LAST is held; FAILED with 255 members; OPEN with 255; OPEN with 254, for the faults
of step 7; and CLOSED. -/
theorem test_assumes_chain_refusals :
    (∀ c ∈ [⟨.opened, 4, none, true, []⟩, ⟨.failed, 255, some ⟨2, .timeout⟩, false, []⟩, ⟨.opened, 255, none, false, []⟩,
        ⟨.opened, 254, none, false, []⟩, Chain.closed],
      row (context c).chains 3 = c ∧ (∀ i, i ∈ c.members → isWaiting (context c) i = false) ∧
        (context c).link.state = .up ∧ (row (context c).initiators 3).mode = .normal ∧
        slotOfKey (context c) 3 1 = none ∧ row (context c).slots 0 = none) ∧
    (∀ mark ∈ [ChainMark.member, ChainMark.last],
      WellFormedRequest ⟨3, 1, mark⟩ (bitCommand ⟨3, 1, mark⟩ .set 512) ∧
        requestOf (bitCommand ⟨3, 1, mark⟩ .set 512) = some ⟨3, 1, mark⟩) ∧
    511 < (512 : Addr).toNat ∧ RegionRefuses (context Chain.closed) 3 .read 0x1FFFFF .byte (.fault .noMap) ∧
    RegionRefuses ((entryWith .draining 0xFF true).setChain 3 Chain.closed) 3 .read 0x200000 .byte .defer ∧
    (511 : Addr).toNat ≤ 511 ∧ 32 ≤ (511 : Addr).toNat % 32 + (bitWidth (.fieldRead 2) - 1) ∧
    Arrives [0x05, 0b01100101, 0, 0, 2, 0] (context Chain.closed) (context Chain.closed) ∧
    bodyOf (bitCommand ⟨3, 1, .member⟩ .set 512) = some [0x05, 0b01100101, 0, 0, 2, 0] :=
  ⟨by decide +kernel,
    fun mark h => ⟨.inr (.inl ⟨.set, 512, rfl, trivial, by revert h; revert mark; decide⟩), rfl⟩,
    by decide, .inl ⟨by decide, rfl⟩,
    .inr ⟨2, ⟨.draining, { fixedWindow with writeSet := 0xFF, lockable := true }, 1⟩, by decide, by decide, .inl ⟨rfl, rfl⟩⟩,
    by decide, by decide, arrives_now rfl rfl (by decide), by decide⟩

/-- An ABANDON with a slot on its port. -/
theorem test_assumes_abandon :
    bodyOf (.abandon (key 1 7) []) = some [0x0B, 0b00111100] ∧ Arrives [0x0B, 0b00111100] reading reading ∧
      reading.link.state = .up ∧ (row reading.initiators (key 1 7).initiator).mode = .normal ∧ (key 1 7).mark = .none ∧
      SlotTableOk reading ∧ QueuesOk reading ∧ slotsOf reading 1 = 1 :=
  ⟨by decide, arrives_now (by decide +kernel) (by decide +kernel) (by decide +kernel), by decide +kernel, by decide +kernel,
    rfl, table_of_check (by decide +kernel), queues_of_check (by decide +kernel), by decide +kernel⟩

/-! #### Management -/

/-- A manager's request is accepted where the table is empty. -/
theorem manage_served {s : State} (hl : s.link.state = .up) (hm : (row s.initiators 0).mode = .normal)
    (f : slotOfKey s 0 0 = none) (hi : row s.slots 31 = none) (hs : s.management.managers.has 0 = true) :
    ManageServed s (key 0 0) := ⟨served hl hm rfl f 31 hi, hs⟩

/-- A MANAGE of (0,0) arrives. -/
theorem order_arrives {s : State} {body : List Byte} (hr : s.link.rx = []) (hs : s.link.signal = true)
    (ho : s.link.outbound = []) : Arrives body s s := arrives_now hr hs (by rw [ho]; decide)

theorem upState_manage : ManageServed upState (key 0 0) :=
  manage_served rfl (by decide) (by decide +kernel) (by decide) (by decide)

theorem mapped_manage : ManageServed mapped (key 0 0) :=
  manage_served rfl (by decide) (by decide +kernel) (by decide) (by decide)

theorem reading_manage : ManageServed reading (key 0 0) :=
  manage_served (by decide +kernel) (by decide +kernel) (by decide +kernel) (by decide +kernel) (by decide +kernel)

/-- The smallest window at the top of the address space, and fields of each completion. -/
theorem test_assumes_load_fields :
    FieldsOk (window 0xFFFF00 0xFFFFFF 0 (.fixed 63) false .narrow 0xFFFF00) ∧
      FieldsOk (window 0x000000 0xFFFFFF 3 (.ready 255) true .crossed 0x000000) ∧ FieldsOk fixedWindow :=
  ⟨⟨by decide, by decide, by decide, by decide, by decide, by decide, by decide⟩,
    ⟨by decide, by decide, by decide, by decide, by decide, by decide, by decide⟩,
    by decide, by decide, by decide, by decide, by decide, by decide, by decide⟩

/-- A load into entry 47 beside, across and onto present entries, and one of an entry number 48. -/
theorem test_assumes_load_region :
    ManageServed mapped (key 0 0) ∧
      (∃ body, bodyOf (manageCommand (key 0 0) (.loadRegion (loadOperandsFor 47 fixedWindow))) = some body ∧
        Arrives body mapped mapped) ∧
      row mapped.regions 47 = none ∧ row mapped.regions 2 ≠ none ∧
      (∃ g q, row mapped.regions g = some q ∧ fixedWindow.base.toNat ≤ q.fields.limit.toNat ∧
        q.fields.base.toNat ≤ fixedWindow.limit.toNat) ∧
      (∀ g q, row mapped.regions g = some q → q.fields.limit.toNat < (0x300000 : Addr).toNat ∨
        (0x3000FF : Addr).toNat < q.fields.base.toNat) ∧
      ∀ e f, FieldsOk f → { loadOperandsFor 0 fixedWindow with entry := 48 } ≠ loadOperandsFor e f := by
  refine ⟨mapped_manage, ⟨_, rfl, order_arrives rfl rfl rfl⟩, by decide, by decide,
    ⟨2, ⟨.active, fixedWindow, 0⟩, by decide, by decide, by decide⟩, fun g q h => ?_, fun e f _ h => ?_⟩
  · rw [mapped, State.setRegion, State.setRegion, row_putRow, row_putRow] at h
    split at h
    · cases h; decide
    · split at h
      · cases h; decide
      · rw [upState, State.setLink_regions, State.reset, State.powerOn, row_uniform] at h
        cases h
  · have h : (48 : Byte) = BitVec.ofNat 8 e.val := congrArg LoadOperands.entry h
    exact (by decide : ∀ e : EntryId, (48 : Byte) ≠ BitVec.ofNat 8 e.val) e h

/-- Entry 2 DRAINING. -/
def draining : State := entryWith .draining 0xFF true

theorem test_assumes_retire :
    (∃ body, bodyOf (manageCommand (key 0 0) (.retireRegion 48)) = some body ∧ Arrives body mapped mapped) ∧
      ManageServed mapped (key 0 0) ∧ 47 < (48 : Byte).toNat ∧ row mapped.regions 47 = none ∧
      (47 : EntryId).val = (47 : Byte).toNat ∧
      (ManageServed draining (key 0 0) ∧ (row draining.regions 2).map RegionRecord.phase = some .draining) ∧
      row mapped.regions 2 = some ⟨.active, fixedWindow, 0⟩ ∧
      (ManageServed reading (key 0 0) ∧ row reading.regions 2 = some ⟨.active, fixedWindow, 1⟩) :=
  ⟨⟨_, rfl, order_arrives rfl rfl rfl⟩, mapped_manage, by decide, by decide, by decide,
    ⟨manage_served rfl (by decide) (by decide +kernel) (by decide) (by decide), by decide⟩, by decide,
    reading_manage, by decide +kernel⟩

/-- Every MANAGE request has a body. -/
theorem manage_body (h : ReqHeader) (op : ManageOp) : ∃ body, bodyOf (manageCommand h op) = some body := by
  cases op <;> exact ⟨_, rfl⟩

/-- Orders about entries, ports and stations in and out of range; the hypotheses on the state are those of every one. -/
theorem test_assumes_orders :
    ManageServed mapped (key 0 0) ∧
      ∀ op ∈ [ManageOp.alterRights 2 0xFF 0, .alterRights 48 0 0, .readRegion 47, .readRegion 48, .readPort 3, .readPort 4,
          .readStation 15, .readStation 16, .setScan 0, .setScan 255, .setEvent 23 15, .setEvent 24 0, .setEvent 0 16,
          .setEventTarget 7 255, .setEventTarget 8 1, .setEventTarget 0 0, .eventAck 24 0, .eventResume,
          .readIncident 15 0, .readIncident 16 1, .readIncident 23 0, .readIncident 24 0, .readIncident 16 2, .setManagers 1,
          .setManagers 0, .readOccupancy, .setPort 4 0 1 0, .setPort 3 2 1 0, .setPort 3 0 0 0, .setPort 3 0 1 0,
          .setPort 3 1 255 255, .setStation ⟨16, 1, 0, 0, 0, 0⟩, .setStation ⟨15, 2, 0, 0, 0, 0⟩,
          .setStation ⟨15, 1, 1, 0, 1, 0⟩, .setStation ⟨15, 0, 0, 0, 0, 0⟩],
        ∃ body, bodyOf (manageCommand (key 0 0) op) = some body ∧ Arrives body mapped mapped :=
  ⟨mapped_manage, fun op _ => (manage_body (key 0 0) op).imp fun _ h => ⟨h, order_arrives rfl rfl rfl⟩⟩

/-- A DOWN port with its hold request line asserted, by the state that SET-PORT finds it in; its queue is empty (R64). -/
theorem test_assumes_port_up :
    (∀ x ∈ [{ Port.powerOn with setting := .down, holdLine := true },
        { Port.powerOn with setting := .down, holdLine := true, gate := .granted, state := .held },
        { Port.powerOn with setting := .down }],
      (row (withPort 3 (fun _ => x) mapped).ports 3) = x ∧ x.setting = .down ∧ x.queue = []) ∧
    ManageServed (withPort 3 (fun _ => { Port.powerOn with setting := .down, holdLine := true }) mapped) (key 0 0) :=
  ⟨by decide, manage_served rfl (by decide) (by decide +kernel) (by decide) (by decide)⟩

/-- P1 with one slot on it and two in its queue. -/
def queued : State := after (ask 4 1 .read 0x200401 .byte) (after (ask 2 3 (.write 0x017E) 0x210010 .word) reading)

theorem test_assumes_port_down :
    (∃ body, bodyOf (manageCommand (key 0 0) (.setPort 1 1 1 0)) = some body ∧ Arrives body queued queued) ∧
      ManageServed queued (key 0 0) ∧ QueuesOk queued ∧ (row queued.ports 1).setting = .up ∧
      (row queued.ports 1).queue = [1, 2] ∧ (row queued.slots 2).map Slot.answered = some false ∧
      (row queued.slots 1).map Slot.answered = some true :=
  ⟨⟨_, rfl, arrives_now (by decide +kernel) (by decide +kernel) (by decide +kernel)⟩,
    manage_served (by decide +kernel) (by decide +kernel) (by decide +kernel) (by decide +kernel) (by decide +kernel),
    queues_of_check (by decide +kernel), by decide +kernel, by decide +kernel, by decide +kernel, by decide +kernel⟩

/-- P1 with a READ on it, and in its queue the head of initiator 3's chain, whose second member waits; with a LAST that waits too; and
a LAST alone in the queue. -/
def chainQueued : State :=
  after (portCommand ⟨3, 1, .member⟩ .read 0x200404 .word) (after (portCommand ⟨3, 0, .member⟩ .read 0x200402 .word) reading)

def chainQueuedLast : State := after (portCommand ⟨3, 2, .last⟩ .read 0x200406 .word) chainQueued

def lastQueued : State := after (portCommand ⟨3, 0, .last⟩ .read 0x200402 .word) reading

theorem test_assumes_chain_at_port :
    (QueuesOk chainQueued ∧ MemberListsOk chainQueued ∧ (row chainQueued.ports 1).queue = [1] ∧
      (row chainQueued.slots 1).map (fun y => (y.initiator, y.role, y.answered, y.suppressed)) =
        some (3, .member 1, false, false) ∧
      (row chainQueued.chains 3).members = 1 :: [2] ∧
      (row chainQueued.slots 2).map (fun y => (y.role, y.answered, y.suppressed)) = some (.member 2, false, false)) ∧
    (QueuesOk chainQueuedLast ∧ MemberListsOk chainQueuedLast ∧ (row chainQueuedLast.chains 3).members = 1 :: ([2] ++ [3]) ∧
      (row chainQueuedLast.slots 3).map (fun y => (y.role, y.answered, y.suppressed)) = some (.last 3, false, false)) ∧
    (QueuesOk lastQueued ∧ MemberListsOk lastQueued ∧ (row lastQueued.ports 1).queue = [1] ∧
      (row lastQueued.chains 3).members = [1] ∧
      (row lastQueued.slots 1).map (fun y => (y.role, y.answered, y.suppressed)) = some (.last 1, false, false)) :=
  ⟨⟨queues_of_check (by decide +kernel), members_of_check (by decide +kernel), by decide +kernel, by decide +kernel,
      by decide +kernel, by decide +kernel⟩,
    ⟨queues_of_check (by decide +kernel), members_of_check (by decide +kernel), by decide +kernel, by decide +kernel⟩,
    queues_of_check (by decide +kernel), members_of_check (by decide +kernel), by decide +kernel, by decide +kernel,
    by decide +kernel⟩

theorem test_assumes_set_station :
    (∃ body, bodyOf (manageCommand (key 0 0) (.setStation ⟨4, 1, 0x0F00, 0, 1, 0⟩)) = some body ∧
      Arrives body stationed stationed) ∧ ManageServed stationed (key 0 0) ∧ stationed.line.queue = [] ∧
      (4 : StationId).val = (4 : Byte).toNat ∧ row stationed.stations 4 = station4 ∧
      ((1 : Positions) ||| 0) &&& 0x0F00 = 0 ∧ stationed.line.cycle = none ∧ 15 < (16 : Byte).toNat ∧
      ((1 : Positions) ||| 0) &&& 1 ≠ 0 :=
  ⟨⟨_, rfl, order_arrives rfl rfl rfl⟩, manage_served rfl (by decide) (by decide +kernel) (by decide) (by decide),
    by decide, by decide, by decide, by decide, by decide, by decide, by decide⟩

/-- A message in flight, from a station and from an incident, in AWAIT-ACK and in STALLED, and an ABANDONING new target. -/
theorem test_assumes_events :
    (∃ body, bodyOf (manageCommand (key 0 0) (.eventAck 4 7)) = some body ∧ Arrives body awaiting awaiting) ∧
      ManageServed awaiting (key 0 0) ∧ inFlightMessage awaiting = some flying ∧
      (key 0 0).initiator = awaiting.events.target ∧ (sourceNumber flying.source).val = (4 : Byte).toNat ∧
      flying.sequence = 7 ∧ flying.source = .station 4 ∧
      (ManageServed stalled (key 0 0) ∧ stalled.events.delivery = .stalled flying) ∧
      (inFlightMessage (counted.setEvents { counted.events with
          delivery := .awaitAck ⟨7, .incident .strayReady, 1, .incident 2 none⟩ }) =
        some ⟨7, .incident .strayReady, 1, .incident 2 none⟩ ∧
        (sourceNumber (.incident .strayReady)).val = (18 : Byte).toNat) ∧
      (ManageServed (awaiting.setInitiator 7 ⟨1, .abandoning, none⟩) (key 0 0) ∧
        (7 : Initiator).val = (7 : Byte).toNat ∧
        (row (awaiting.setInitiator 7 ⟨1, .abandoning, none⟩).initiators 7).mode = .abandoning) :=
  ⟨⟨_, rfl, order_arrives rfl rfl rfl⟩, manage_served rfl (by decide) (by decide +kernel) (by decide) (by decide), rfl, rfl,
    by decide, rfl, rfl, ⟨manage_served rfl (by decide) (by decide +kernel) (by decide) (by decide), rfl⟩,
    ⟨rfl, by decide⟩, manage_served rfl (by decide) (by decide +kernel) (by decide) (by decide), by decide, by decide⟩

/-! #### Ports -/

/-- The slot of a READ WORD by (1,0) on P1, and its step. -/
def readSlot : Slot := { filledSlot mapped (key 1 0) (.port ⟨.read, 0x200400, .word, 2, 0x400, 1⟩) .active false with step := .one }

/-- The step of that READ. -/
def readStep : Issued := ⟨0, .one, none, .delay 8, ⟨0x400, .word, none⟩⟩

theorem reading_presents :
    Presents reading 1 readStep readSlot ⟨.read, 0x200400, .word, 2, 0x400, 1⟩ ⟨.active, fixedWindow, 1⟩ :=
  ⟨by decide +kernel, by decide +kernel, rfl, by decide +kernel⟩

theorem test_assumes_last_step :
    CompletesStep (.fixedDelayExpiry 1 (onSegment 0 0)) 1 readStep (onSegment 0 0) ∧
      Presents reading 1 readStep readSlot ⟨.read, 0x200400, .word, 2, 0x400, 1⟩ ⟨.active, fixedWindow, 1⟩ ∧
      fixedWindow.lanes ≠ .narrow ∧ readSlot.role = .none ∧
      NoDrainEnds ⟨.active, fixedWindow, 1⟩ 1 ∧ (row reading.ports 1).queue = [] ∧ (row reading.ports 1).gate ≠ .pending :=
  ⟨.inl ⟨rfl, 8, rfl⟩, reading_presents, by decide, rfl, .inl rfl, by decide +kernel, by decide +kernel⟩

/-- The last slot of an ABANDONING initiator, with the ABANDON tag 7: a FIXED step, and a READY step. -/
theorem test_assumes_abandonment_ends :
    (Presents abandoning 1 readStep { readSlot with suppressed := true } ⟨.read, 0x200400, .word, 2, 0x400, 1⟩
        ⟨.active, fixedWindow, 1⟩ ∧ EndsAbandonment abandoning 1 ∧ abandonAnswer abandoning 1 = [plainResponse 1 7 .done] ∧
      (row abandoning.ports 1).queue = [] ∧ (row abandoning.ports 1).gate ≠ .pending) ∧
    (Presents (after (.abandon (key 1 7) []) (after (ask 1 0 .read 0x210010 .byte) mapped)) 1
        ⟨0, .one, none, .ready 12, ⟨0x4010, .byte, none⟩⟩
        { filledSlot mapped (key 1 0) (.port ⟨.read, 0x210010, .byte, 3, 0x4010, 1⟩) .active false with suppressed := true }
        ⟨.read, 0x210010, .byte, 3, 0x4010, 1⟩ ⟨.active, narrowWindow, 1⟩ ∧
      EndsAbandonment (after (.abandon (key 1 7) []) (after (ask 1 0 .read 0x210010 .byte) mapped)) 1) :=
  ⟨⟨⟨by decide +kernel, by decide +kernel, rfl, by decide +kernel⟩, by decide +kernel, by decide +kernel, by decide +kernel,
      by decide +kernel⟩,
    ⟨by decide +kernel, by decide +kernel, rfl, by decide +kernel⟩, by decide +kernel⟩

/-- An UNLOCK-WRITE on P1 under its lock record. -/
def unlocking : State := after (ask 2 1 (.unlockWrite 7) 0x200040 .word) locked

/-- Its slot. -/
def unlockSlot : Slot := filledSlot locked (key 2 1) (.port ⟨.unlockWrite 7, 0x200040, .word, 2, 0x40, 1⟩) .active false

theorem test_assumes_unlock_write :
    Presents unlocking 1 ⟨0, .one, none, .delay 8, ⟨0x40, .word, some (.word 7 0)⟩⟩ unlockSlot
        ⟨.unlockWrite 7, 0x200040, .word, 2, 0x40, 1⟩ ⟨.active, fixedWindow, 2⟩ ∧
      (row unlocking.ports 1).lock = some ⟨2, 0x200040, .word, 2, .stopped⟩ ∧ unlockSlot.role = .none ∧
      NoDrainEnds ⟨.active, fixedWindow, 2⟩ 2 ∧
      (row unlocking.ports 1).queue = [] ∧ (row unlocking.ports 1).gate ≠ .pending :=
  ⟨⟨by decide +kernel, by decide +kernel, rfl, by decide +kernel⟩, by decide +kernel, rfl, .inl rfl,
    by decide +kernel, by decide +kernel⟩

/-- The slot of the posted WRITE by (2,3), at its first and second step. -/
def writeSlot (step : StepNo) : Slot :=
  { filledSlot mapped (key 2 3) (.port ⟨.write 0x017E, 0x210010, .word, 3, 0x4010, 1⟩) .active true with step := step }

/-- Its first step, and its second. -/
theorem test_assumes_narrow :
    Presents writing 1 ⟨0, .one, none, .ready 12, ⟨0x4010, .byte, some (.byte 0x7E)⟩⟩ (writeSlot .one)
        ⟨.write 0x017E, 0x210010, .word, 3, 0x4010, 1⟩ ⟨.active, narrowWindow, 1⟩ ∧
      CompletesStep (.readyIndication 1 (onSegment 0 0)) 1 ⟨0, .one, none, .ready 12, ⟨0x4010, .byte, some (.byte 0x7E)⟩⟩
        (onSegment 0 0) ∧ narrowWindow.lanes = .narrow :=
  ⟨⟨by decide +kernel, by decide +kernel, rfl, by decide +kernel⟩, .inr ⟨rfl, 12, rfl⟩, rfl⟩

theorem test_assumes_ready_timeout :
    Presents (after (.readyIndication 1 (onSegment 0 0)) writing) 1
        ⟨0, .two, none, .ready 12, ⟨0x4011, .byte, some (.byte 0x01)⟩⟩ (writeSlot .two)
        ⟨.write 0x017E, 0x210010, .word, 3, 0x4010, 1⟩ ⟨.active, narrowWindow, 1⟩ ∧ (writeSlot .two).role = .none ∧
      (row (after (.readyIndication 1 (onSegment 0 0)) writing).ports 1).queue = [] ∧
      (row (after (.readyIndication 1 (onSegment 0 0)) writing).ports 1).gate ≠ .pending ∧
      (row (after (.readyIndication 1 (onSegment 0 0)) writing).ports 1).lock = none ∧
      NoDrainEnds ⟨.active, narrowWindow, 1⟩ 2 :=
  ⟨⟨by decide +kernel, by decide +kernel, rfl, by decide +kernel⟩, rfl, by decide +kernel,
    by decide +kernel, by decide +kernel, .inl rfl⟩

/-- Entry 2 is DRAINING behind the READ on P1, and (0,0) waits for the end of its retire. -/
def retiring : State := after (order 0 0 (.retireRegion 2)) reading

/-- The retire's slot. -/
def retireSlot : Slot := { filledSlot reading (key 0 0) (.manage (.retireRegion 2)) .active false with sequence := 1 }

theorem test_assumes_drain_end :
    Presents retiring 1 readStep readSlot ⟨.read, 0x200400, .word, 2, 0x400, 1⟩ ⟨.draining, fixedWindow, 1⟩ ∧
      CompletesStep (.fixedDelayExpiry 1 (onSegment 0 0)) 1 readStep (onSegment 0 0) ∧
      NoAbandonmentEnds retiring readSlot ∧
      retiring.management.retires.filter (fun k => decide (k.entry = 2)) = [⟨2, 0, 0⟩] ∧
      row retiring.slots 1 = some retireSlot ∧ retireSlot.role = .none ∧ readSlot.initiator ≠ retireSlot.initiator ∧
      NoAbandonmentEnds retiring retireSlot ∧ retiring.link.state = .up ∧ (row retiring.ports 1).queue = [] ∧
      (row retiring.ports 1).gate ≠ .pending :=
  ⟨⟨by decide +kernel, by decide +kernel, rfl, by decide +kernel⟩, .inl ⟨rfl, 8, rfl⟩, .inl (by decide +kernel),
    by decide +kernel, by decide +kernel, rfl, by decide, .inl (by decide +kernel), by decide +kernel, by decide +kernel,
    by decide +kernel⟩

/-- The queues agree with the slot table there too. -/
theorem test_assumes_drain_queues : QueuesOk retiring := by
  have q : queuesCheck (retiring.setManagement { retiring.management with retires := [] }) = true := by decide +kernel
  have h := queues_of_check q
  refine ⟨h.1, h.2.1, h.2.2.1, h.2.2.2.1, h.2.2.2.2.1, h.2.2.2.2.2.1, h.2.2.2.2.2.2.1, fun r hr => ?_, fun a b ha hb _ _ => ?_⟩
  · obtain rfl : r = ⟨2, 0, 0⟩ := by
      have : retiring.management.retires = [⟨2, 0, 0⟩] := by decide +kernel
      simpa [this] using hr
    exact ⟨1, retireSlot, .retireRegion 2, by decide +kernel, rfl, rfl, rfl, rfl⟩
  · have : retiring.management.retires = [⟨2, 0, 0⟩] := by decide +kernel
    simp only [this, List.mem_singleton] at ha hb
    rw [ha, hb]

/-- A port IDLE, ISSUED with a FIXED step, HELD, and ISSUED with the second READY step of a NARROW word. -/
theorem test_assumes_stray :
    (row mapped.ports 1).state = .idle ∧ (row reading.ports 1).state = .issued readStep ∧ readStep.timer = .delay 8 ∧
      (row heldPort.ports 1).state = .held ∧
      (row (after (.readyIndication 1 (onSegment 0 0)) writing).ports 1).state =
        .issued ⟨0, .two, none, .ready 12, ⟨0x4011, .byte, some (.byte 0x01)⟩⟩ := by decide +kernel

/-- P1 is ISSUED under initiator 2's lock record, whose UNLOCK-WRITE waits in the queue. -/
def contended : State :=
  after (ask 2 1 (.unlockWrite 7) 0x200040 .word) (after (ask 2 2 .read 0x200080 .word) locked)

theorem test_assumes_lock_expiry :
    QueuesOk contended ∧ (row contended.ports 1).lock = some ⟨2, 0x200040, .word, 2, .running 64⟩ ∧
      (row contended.ports 1).state ≠ .idle ∧ row contended.regions 2 = some ⟨.active, fixedWindow, 3⟩ ∧
      NoDrainEnds ⟨.active, fixedWindow, 3⟩ 1 ∧ (row contended.ports 1).queue = [1] ∧ isUnlockOf contended 2 1 = true ∧
      contended.link.state = .up :=
  ⟨queues_of_check (by decide +kernel), by decide +kernel, by decide +kernel, by decide +kernel, .inl rfl, by decide +kernel,
    by decide +kernel, by decide +kernel⟩

/-- A hold line deasserted with gate NONE, at an UP and a DOWN port; one asserted with gate PENDING and with gate GRANTED. -/
theorem test_assumes_hold :
    ((row upState.ports 2).holdLine = false ∧ (row upState.ports 2).setting = .up ∧ (row upState.ports 2).gate = .none) ∧
      (row (withPort 2 (fun x => { x with setting := .down }) upState).ports 2).setting = .down ∧
      ((row (after (.holdRequestRaise 1) locked).ports 1).holdLine = true ∧
        (row (after (.holdRequestRaise 1) locked).ports 1).gate = .pending) ∧
      ((row granted.ports 2).holdLine = true ∧ (row granted.ports 2).gate = .granted ∧
        (row granted.ports 2).holdTimer = .running 5) := by decide +kernel

/-- P1 IDLE with initiator 3's WRITE ahead of initiator 2's READ, with and without initiator 2's lock record. -/
def waitingPort (lock : Option LockRecord) : State :=
  withPort 1 (fun x => { x with state := .idle, queue := [1, 0], lock := lock })
    ((mapped.setSlot 0 (some { readSlot with initiator := 2, state := .queued })).setSlot 1
      (some { writeSlot .one with initiator := 3, state := .queued, answered := false, outcome := none }))

theorem test_assumes_arbiter :
    ((row (waitingPort none).ports 1).state = .idle ∧ (row (waitingPort none).ports 1).gate ≠ .pending ∧
      (row (waitingPort none).ports 1).queue = [] ++ 1 :: [0] ∧ (row (waitingPort none).slots 1).isSome = true ∧
      row (waitingPort none).regions 3 = some ⟨.active, narrowWindow, 0⟩) ∧
    ((row (waitingPort (some ⟨2, 0x200040, .word, 2, .running 64⟩)).ports 1).queue = [1] ++ 0 :: [] ∧
      (row (waitingPort (some ⟨2, 0x200040, .word, 2, .running 64⟩)).slots 0).map Slot.initiator = some 2 ∧
      ∀ k ∈ [(1 : SlotId)], slotInitiator (waitingPort (some ⟨2, 0x200040, .word, 2, .running 64⟩)) k ≠ some 2) ∧
    (∀ i ∈ [(1 : SlotId), 0], slotInitiator (waitingPort (some ⟨5, 0x200040, .word, 2, .running 64⟩)) i ≠ some 5) ∧
    ((row (withPort 2 (fun x => { x with gate := .pending }) upState).ports 2).gate = .pending ∧
      (row (withPort 2 (fun x => { x with gate := .pending }) upState).ports 2).lock = none) := by decide +kernel

/-- A chain of initiator 3: its READ is the head on P1 in a READY window, and a READ LAST waits. -/
def headed : State :=
  after (portCommand ⟨3, 1, .last⟩ .read 0x210020 .word)
    (after (portCommand ⟨3, 0, .member⟩ .read 0x210010 .byte) mapped)

theorem test_assumes_head_timeout :
    Presents headed 1 ⟨0, .one, none, .ready 12, ⟨0x4010, .byte, none⟩⟩
        { filledSlot mapped ⟨3, 0, .member⟩ (.port ⟨.read, 0x210010, .byte, 3, 0x4010, 1⟩) .active false with role := .member 1 }
        ⟨.read, 0x210010, .byte, 3, 0x4010, 1⟩ ⟨.active, narrowWindow, 2⟩ ∧
      row headed.slots 1 = some
        { filledSlot mapped ⟨3, 1, .last⟩ (.port ⟨.read, 0x210020, .word, 3, 0x4020, 1⟩) .waiting false with
          role := .last 2, sequence := 1 } ∧
      row headed.chains 3 = ⟨.opened, 2, none, true, [0, 1]⟩ ∧ headed.link.state = .up ∧
      (row headed.initiators 3).mode = .normal ∧ (row headed.ports 1).queue = [] ∧ (row headed.ports 1).gate ≠ .pending :=
  ⟨⟨by decide +kernel, by decide +kernel, rfl, by decide +kernel⟩, by decide +kernel, by decide +kernel, by decide +kernel,
    by decide +kernel, by decide +kernel, by decide +kernel⟩

/-- P2's window. -/
def otherWindow : RegionFields := window 0x300000 0x3000FF 2 (.fixed 8) false .straight 0

/-- A chain of initiator 3 on P1, whose LAST waits for P2, which is ISSUED with one slot in its queue that was accepted before the LAST
and one accepted after it. -/
def crossing : State :=
  after (ask 5 0 .read 0x300006 .word)
    (after (portCommand ⟨3, 1, .last⟩ .read 0x300004 .word)
      (after (portCommand ⟨3, 0, .member⟩ .read 0x200400 .word)
        (after (ask 4 1 .read 0x300002 .word)
          (after (ask 4 0 .read 0x300000 .word) (mapped.setRegion 5 (some ⟨.active, otherWindow, 0⟩))))))

/-- The same chain with its second member for P1 itself, and with a LAST that is a bit request while a poll is on the line. -/
def following : State := after (portCommand ⟨3, 1, .member⟩ (.write 9) 0x20FFFE .word) chained

def bitFollowing : State :=
  after (bitCommand ⟨3, 1, .last⟩ .set 137)
    (after (portCommand ⟨3, 0, .member⟩ .read 0x200400 .word) (polling.setRegion 2 (some ⟨.active, fixedWindow, 0⟩)))

/-- The head's slot on P1. -/
def headSlot (n : BitVec 16) : Slot :=
  { filledSlot mapped ⟨3, 0, .member⟩ (.port ⟨.read, 0x200400, .word, 2, 0x400, 1⟩) .active false with
    role := .member 1, sequence := n }

/-- The LAST of `crossing`. -/
def crossingLast : Slot :=
  { filledSlot mapped ⟨3, 1, .last⟩ (.port ⟨.read, 0x300004, .word, 5, 4, 2⟩) .waiting false with role := .last 2, sequence := 3 }

theorem test_assumes_head_crosses :
    QueuesOk crossing ∧ CompletesStep (.fixedDelayExpiry 1 (onSegment 0 0)) 1 { readStep with slot := 2 } (onSegment 0 0) ∧
      Presents crossing 1 { readStep with slot := 2 } (headSlot 2) ⟨.read, 0x200400, .word, 2, 0x400, 1⟩
        ⟨.active, fixedWindow, 1⟩ ∧
      row crossing.chains 3 = ⟨.opened, 2, none, true, 2 :: 3 :: []⟩ ∧ crossing.link.state = .up ∧
      (row crossing.initiators 3).mode = .normal ∧ row crossing.slots 3 = some crossingLast ∧
      NoDrainEnds ⟨.active, fixedWindow, 1⟩ 1 ∧ (row crossing.ports 1).queue = [] ∧ (row crossing.ports 1).gate ≠ .pending ∧
      JoinsBetween crossing 1 [1] crossingLast [4] := by
  refine ⟨queues_of_check (by decide +kernel), .inl ⟨rfl, 8, rfl⟩,
    ⟨by decide +kernel, by decide +kernel, rfl, by decide +kernel⟩, by decide +kernel, by decide +kernel, by decide +kernel,
    by decide +kernel, .inl rfl, by decide +kernel, by decide +kernel, ⟨fun i hi => ?_, fun i hi => ?_⟩, by decide +kernel,
    by decide +kernel, by decide +kernel⟩
  · obtain rfl : i = 1 := by simpa using hi
    exact ⟨_, rfl, by decide +kernel⟩
  · obtain rfl : i = 4 := by simpa using hi
    exact ⟨_, rfl, by decide +kernel⟩

/-- The members of `following` and of `bitFollowing` join a port and a line queue that are empty. -/
theorem test_assumes_head_follows :
    (QueuesOk following ∧
      Presents following 1 readStep (headSlot 0) ⟨.read, 0x200400, .word, 2, 0x400, 1⟩ ⟨.active, fixedWindow, 2⟩ ∧
      row following.chains 3 = ⟨.opened, 2, none, false, 0 :: 1 :: []⟩ ∧
      JoinsBetween following 1 []
        { filledSlot mapped ⟨3, 1, .member⟩ (.port ⟨.write 9, 0x20FFFE, .word, 2, 0xFFFE, 1⟩) .waiting false with
          role := .member 2, sequence := 1 } [] ∧ (row following.slots 1).map Slot.state = some .waiting) ∧
    (QueuesOk bitFollowing ∧
      Presents bitFollowing 1 readStep (headSlot 0) ⟨.read, 0x200400, .word, 2, 0x400, 1⟩ ⟨.active, fixedWindow, 1⟩ ∧
      row bitFollowing.chains 3 = ⟨.opened, 2, none, true, 0 :: 1 :: []⟩ ∧
      JoinsBetween bitFollowing 1 []
        { filledSlot mapped ⟨3, 1, .last⟩ (.bit ⟨.set, 137⟩) .waiting false with role := .last 2, sequence := 1 } []) :=
  ⟨⟨queues_of_check (by decide +kernel), ⟨by decide +kernel, by decide +kernel, rfl, by decide +kernel⟩, by decide +kernel,
      ⟨⟨fun i hi => absurd hi (by simp), fun i hi => absurd hi (by simp)⟩, by decide +kernel, by decide +kernel,
        by decide +kernel, by decide +kernel, .inr ⟨9, rfl⟩⟩, by decide +kernel⟩,
    queues_of_check (by decide +kernel), ⟨by decide +kernel, by decide +kernel, rfl, by decide +kernel⟩, by decide +kernel,
    ⟨fun i hi => absurd hi (by simp), fun i hi => absurd hi (by simp)⟩, by decide +kernel, by decide +kernel⟩

/-! #### The bit line and event delivery -/

/-- A read and a write of initiator 1 on the line. -/
theorem test_assumes_line_serves :
    LineServes (after (askBit 1 1 .test 130) stationed) ⟨4, .readStation, .request 0⟩ 0
        (filledSlot stationed (key 1 1) (.bit ⟨.test, 130⟩) .active false) ⟨.test, 130⟩ ∧
      LineServes (after (askBit 1 0 .set 137) stationed) ⟨4, .writeStation 0xFF00 0x200 0x200, .request 0⟩ 0
        (filledSlot stationed (key 1 0) (.bit ⟨.set, 137⟩) .active false) ⟨.set, 137⟩ :=
  ⟨⟨by decide +kernel, rfl, by decide +kernel, rfl, rfl, rfl, by decide +kernel, by decide +kernel⟩,
    by decide +kernel, rfl, by decide +kernel, rfl, rfl, rfl, by decide +kernel, by decide +kernel⟩

/-- A read of initiator 1 on the line, the last slot of its abandonment. -/
theorem test_assumes_line_abandoned :
    LineServes (after (.abandon (key 1 7) []) (after (askBit 1 1 .test 130) stationed)) ⟨4, .readStation, .request 0⟩ 0
        { filledSlot stationed (key 1 1) (.bit ⟨.test, 130⟩) .active false with suppressed := true } ⟨.test, 130⟩ ∧
      EndsAbandonment (after (.abandon (key 1 7) []) (after (askBit 1 1 .test 130) stationed)) 1 :=
  ⟨⟨by decide +kernel, rfl, by decide +kernel, rfl, rfl, rfl, by decide +kernel, by decide +kernel⟩, by decide +kernel⟩

/-- Replies that are ignored: on a free line, of another station, of the other kind, and not intact. -/
theorem test_assumes_replies_ignored :
    stationed.line.op = none ∧ polling.line.op = some ⟨4, .readStation, .poll⟩ ∧
      (⟨.readStation, 5, 0, true⟩ : StationReply).station ≠ 4 ∧ (⟨.writeStation, 4, 0, true⟩ : StationReply).kind = .writeStation ∧
      (⟨.readStation, 4, 0, false⟩ : StationReply).intact = false := by decide

/-- A poll of the only enabled station, which ends its cycle, and one with station 9 to follow. -/
theorem test_assumes_poll :
    polling.line.op = some { station := 4, command := .readStation, origin := .poll } ∧ polling.line.cycle = some 5 ∧
      polling.line.queue = [] ∧ row polling.stations 4 = station4 ∧ station4.presence ≠ .disabled ∧ NoneEnabled polling 5 ∧
      polling.line.cycleDue = false ∧ NextEnabled (polling.setStation 9 station4) 5 9 := by
  refine ⟨by decide, by decide, by decide, by decide, by decide, ?_, by decide, by decide, by decide, ?_⟩
  · unfold NoneEnabled; decide
  · decide

/-- A station at each count and presence when its operation times out. -/
theorem test_assumes_line_timeout :
    polling.line.op = some ⟨4, .readStation, .poll⟩ ∧ stationed.line.op = none ∧ NoneEnabled polling 5 ∧
      (∀ st ∈ [station4, { station4 with timeouts := 1 }, { station4 with presence := .unknown },
          { station4 with presence := .absent, timeouts := 2 }, Station.powerOn],
        row (polling.setStation 4 st).stations 4 = st) ∧
      LineServes (after (askBit 1 1 .test 130) stationed) ⟨4, .readStation, .request 0⟩ 0
        (filledSlot stationed (key 1 1) (.bit ⟨.test, 130⟩) .active false) ⟨.test, 130⟩ :=
  ⟨by decide, by decide, by unfold NoneEnabled; decide, by decide, test_assumes_line_serves.1⟩

/-- The scan timer stopped; running with no station, with a free and a busy line, and while a cycle runs, with its poll in flight and
without. -/
theorem test_assumes_scan :
    upState.line.scanTimer = .stopped ∧ NoneEnabled upState 0 ∧ NextEnabled stationed 0 4 ∧ stationed.line.cycle = none ∧
      polling.line.scanTimer = .running 10 ∧ polling.line.cycle = some 5 ∧
      polling.line.op = some ⟨4, .readStation, .poll⟩ ∧
      ((after (askBit 1 1 .test 130) stationed).line.op = some ⟨4, .readStation, .request 0⟩ ∧
        NextEnabled (after (askBit 1 1 .test 130) stationed) 0 4) := by
  refine ⟨by decide, by unfold NoneEnabled; decide, ⟨by decide, by decide, by decide⟩, by decide, by decide, by decide,
    by decide, by decide +kernel, by decide +kernel, by decide +kernel, by decide +kernel⟩

/-- The ack window's states at resend counts 0, 2 and 3. -/
theorem test_assumes_ack_window :
    awaiting.events.delivery = .awaitAck flying ∧ awaiting.events.ackTimer = .running 10 ∧ awaiting.link.state = .up ∧
      awaiting.events.resends < 3 ∧ (2 : Nat) < 3 ∧
      (awaiting.setEvents { awaiting.events with resends := 3 }).events.resends = 3 ∧
      stalled.events.delivery = .stalled flying := by decide

/-- Two eligible sources of equal priority, stations 4 and 9, and selection open; the lower number is the chosen one. -/
theorem test_assumes_selection :
    SelectionOpen (awaiting.setEvents { awaiting.events with delivery := .idle }) ∧
      Eligible ((awaiting.setStation 4 { station4 with latched := 1 }).setEvents { awaiting.events with delivery := .idle })
        (.station 4) ∧
      (∀ src, ¬ Eligible upState src) ∧ ¬ SelectionOpen State.reset := by
  refine ⟨⟨rfl, rfl, by decide⟩, ⟨by decide, 0, by decide, by decide⟩, ?_, fun h => absurd h.2.1 (by decide)⟩
  rintro src ⟨h, -⟩
  have : row upState.events.priorities (sourceNumber src) = 0 := by
    rw [upState, State.setLink_events, State.reset, State.powerOn, EventUnit.powerOn, row_uniform]
  rw [this] at h
  exact absurd h (by decide)

/-! #### Invariants: states that meet them with something in them, and a step from each -/

/-- A READ on P1, and the expiry of its delay waiting. -/
def running : State := { reading with pending := [.fixedDelayExpiry 1 (onSegment 0 0)] }

theorem test_assumes_steps : ∃ t, step running = .next t := ⟨_, rfl⟩

theorem test_assumes_slots_and_queues : SlotTableOk running ∧ QueuesOk running :=
  ⟨table_of_check (by decide +kernel), queues_of_check (by decide +kernel)⟩

theorem test_assumes_ports : PortsOk running ∧ PortsOk heldPort ∧ PortsOk locked := by
  refine ⟨?_, ?_, ?_⟩ <;> (unfold PortsOk PortOk; decide +kernel)

theorem test_assumes_chains : ChainsOk headed ∧ ChainsOk running := by
  refine ⟨?_, ?_⟩ <;> (unfold ChainsOk ChainOk; decide +kernel)

/-- A link with a frame on the line, and the link of the reset state. -/
theorem test_assumes_link : LinkOk (after (.sync [0]) upState).link ∧ LinkOk State.reset.link :=
  ⟨⟨by decide +kernel, by decide +kernel, by decide +kernel, fun f h => ⟨.linkNotice 0 0, [], Config.freeByte 0, by decide +kernel,
      (Option.some.inj (show some (frameOf (messageBody (Config.freeByte 0) (.linkNotice 0 0))) = some f from h)).symm⟩⟩,
    by decide, by decide, by decide, fun f h => absurd (show none = some f from h) (by simp)⟩

/-- Queues with slots in them, in acceptance order, none accepted long ago. -/
theorem test_assumes_order : QueuesOk queued ∧ Recent queued ∧ OrderOk queued ∧ (row queued.ports 1).queue = [1, 2] := by
  refine ⟨queues_of_check (by decide +kernel), ?_, ⟨?_, fun p => ?_, ordered_of_check (by decide +kernel)⟩, by decide +kernel⟩
  · exact all_slots (P := fun _ x => 1 ≤ (queued.acceptCounter - x.sequence).toNat ∧
      (queued.acceptCounter - x.sequence).toNat < 65535) (by decide +kernel)
  · intro i j x y hx hy h
    have := all_slots (P := fun i x => ∀ j : SlotId, (row queued.slots j).all (fun y =>
      decide (x.sequence = y.sequence → i = j)) = true) (by decide +kernel) i x hx j
    rw [hy] at this
    exact of_decide_eq_true this h
  · exact ordered_of_check (by revert p; decide +kernel)

/-- Member lists with a head and members that wait. -/
theorem test_assumes_members : QueuesOk headed ∧ MemberListsOk headed ∧ (row headed.chains 3).members = [0, 1] :=
  ⟨queues_of_check (by decide +kernel), members_of_check (by decide +kernel), by decide +kernel⟩

/-- In-flight counts while entry 2 drains, and while it is locked. -/
theorem test_assumes_references : ReferencesOk retiring ∧ ReferencesOk locked := by
  have lockReads : ∀ s : State, (∀ i x, row s.slots i = some x → ∀ w, x.work = .port w → w.kind ≠ .lockRead) → LockReadsOk s :=
    fun s h => ⟨fun i _ x _ v _ hx _ hv _ hk => absurd hk (h i x hx v hv),
      fun _ _ i x w _ hx hw hk => absurd hk (h i x hx w hw)⟩
  have noLockRead : ∀ s : State, (∀ i : SlotId, (row s.slots i).all (fun x => match x.work with
      | .port w => decide (w.kind ≠ .lockRead)
      | .bit _ => true
      | .manage _ => true) = true) → ∀ i x, row s.slots i = some x → ∀ w, x.work = .port w → w.kind ≠ .lockRead := by
    intro s c i x hx w hw
    have := c i
    rw [hx, Option.all_some, hw] at this
    exact of_decide_eq_true this
  refine ⟨⟨by decide +kernel, ?_, fun e => ⟨?_, ?_⟩, lockReads _ (noLockRead _ (by decide +kernel))⟩,
    ⟨by decide +kernel, ?_, fun e => ⟨?_, ?_⟩, lockReads _ (noLockRead _ (by decide +kernel))⟩⟩
  · exact fun e r h hp => all_regions (P := fun _ r => r.phase = .draining → 0 < r.inFlight) (by decide +kernel) e r h hp
  · rintro ⟨r, h, hp⟩
    have he := all_regions (P := fun e r => r.phase = .draining → e = 2) (s := retiring) (by decide +kernel) e r h hp
    exact ⟨⟨2, 0, 0⟩, by decide +kernel, he.symm⟩
  · rintro ⟨q, hq, rfl⟩
    obtain rfl : q = ⟨2, 0, 0⟩ := by
      have : retiring.management.retires = [⟨2, 0, 0⟩] := by decide +kernel
      simpa [this] using hq
    exact ⟨⟨.draining, fixedWindow, 1⟩, by decide +kernel, rfl⟩
  · exact fun e r h hp => all_regions (P := fun _ r => r.phase = .draining → 0 < r.inFlight) (by decide +kernel) e r h hp
  · rintro ⟨r, h, hp⟩
    exact absurd hp (all_regions (P := fun _ r => r.phase ≠ .draining) (s := locked) (by decide +kernel) e r h)
  · rintro ⟨q, hq, -⟩
    have : locked.management.retires = [] := by decide +kernel
    exact absurd (this ▸ hq) (by simp)

theorem test_assumes_managers : ManagersOk running := ⟨0, by decide +kernel⟩

theorem test_assumes_regions : RegionMapOk mapped := by
  have two : ∀ e r, row mapped.regions e = some r → (e = 2 ∧ r = ⟨.active, fixedWindow, 0⟩) ∨
      (e = 3 ∧ r = ⟨.active, narrowWindow, 0⟩) := by
    intro e r h
    rw [mapped, State.setRegion, State.setRegion, row_putRow, row_putRow] at h
    split at h
    · next he => cases h; exact .inr ⟨he, rfl⟩
    · split at h
      · next he => cases h; exact .inl ⟨he, rfl⟩
      · rw [upState, State.setLink_regions, State.reset, State.powerOn, row_uniform] at h
        cases h
  refine ⟨fun e r h => ?_, fun e f r q h g n => ?_⟩
  · rcases two e r h with ⟨-, rfl⟩ | ⟨-, rfl⟩
    · exact test_assumes_load_fields.2.2
    · exact ⟨by decide, by decide, by decide, by decide, by decide, by decide, by decide⟩
  · rcases two e r h with ⟨rfl, rfl⟩ | ⟨rfl, rfl⟩ <;> rcases two f q g with ⟨rfl, rfl⟩ | ⟨rfl, rfl⟩ <;>
      first | exact absurd rfl n | decide

theorem test_assumes_stations : StationsOk awaiting := by
  intro n
  rw [awaiting, State.setEvents_stations, State.setStation_stations, row_putRow]
  split
  · exact ⟨by decide, by decide, by decide, fun c h => by cases h; decide, by decide, by decide, by decide⟩
  · rw [upState, State.setLink_stations, State.reset, State.powerOn, row_uniform]
    exact ⟨rfl, rfl, rfl, fun c h => (by cases h), by decide, by decide, fun _ => ⟨rfl, rfl, rfl, rfl⟩⟩

/-- The state of the events' witnesses; the record of an initiator is no part of it. -/
theorem test_assumes_delivery : EventsOk awaiting := by
  refine ⟨?_, ⟨by decide, by decide, rfl, trivial⟩, fun n h => ⟨flying, rfl, ?_⟩⟩
  · decide +kernel
  · rw [awaiting, State.setEvents_stations, State.setStation_stations, row_putRow] at h
    split at h
    · next e => rw [e]; rfl
    · rw [upState, State.setLink_stations, State.reset, State.powerOn, row_uniform] at h
      exact absurd h (by decide)

theorem test_assumes_new_target : EventsOk (awaiting.setInitiator 7 ⟨1, .abandoning, none⟩) ∧ EventsOk mapped :=
  ⟨test_assumes_delivery, by decide +kernel, ⟨by decide, by decide⟩, fun n h => absurd h (by revert n; decide +kernel)⟩

end Sys2Proof.Tests
end

section
/-! PROOFS. Ready indications at a target port (R54, R57). Two facts about the end of a service carry the READY case: a success
raises no incident, and what it does to the slot table never makes an occupied slot out of a FREE one. -/

namespace Sys2Proof.Machine

/-! ### The ready indication, case by case -/

theorem exec_readyIndication (p : PortId) (bytes : SegmentBytes) (s : State) :
    exec (.readyIndication p bytes) s = .next (selectEvent (readyAt p bytes s)) := rfl

theorem readyAt_idle {p : PortId} {s : State} (h : (row s.ports p).state = .idle) (bytes : SegmentBytes) :
    readyAt p bytes s = raiseStray p s := by simp [readyAt, h]

theorem readyAt_held {p : PortId} {s : State} (h : (row s.ports p).state = .held) (bytes : SegmentBytes) :
    readyAt p bytes s = s := by simp [readyAt, h]

theorem readyAt_fixed {p : PortId} {s : State} {cur : Issued} {d : Nat} (h : (row s.ports p).state = .issued cur)
    (hd : cur.timer = .delay d) (bytes : SegmentBytes) : readyAt p bytes s = raiseStray p s := by simp [readyAt, h, hd]

theorem readyAt_ready {p : PortId} {s : State} {cur : Issued} {t : Nat} (h : (row s.ports p).state = .issued cur)
    (ht : cur.timer = .ready t) (bytes : SegmentBytes) : readyAt p bytes s = stepSucceeds p cur bytes s := by
  simp [readyAt, h, ht]

theorem portWorkOf_eq_some {s : State} {i : SlotId} {x : Slot} {w : PortWork} (h : row s.slots i = some x)
    (hw : x.work = .port w) : portWorkOf s i = some w := by simp [portWorkOf, h, hw]

/-- The last step of a service is any step 2, whatever the entry's lane rule (R59). -/
theorem stepSucceeds_stepTwo {s : State} {p : PortId} {cur : Issued} {x : Slot} {w : PortWork} {r : RegionRecord}
    (h : Presents s p cur x w r) (two : cur.step = .two) (bytes : SegmentBytes) :
    stepSucceeds p cur bytes s =
      endService p cur.slot (successAnswer w r.fields.lanes (cur.lowByte.getD 0) bytes) false s := by
  obtain ⟨-, hslot, hwork, hregion⟩ := h
  simp [stepSucceeds, hslot, portWorkOf_eq_some hslot hwork, hregion, two]

/-! ### A success raises no incident -/

theorem removeLock_events (p : PortId) (s : State) : (removeLock p false s).events = s.events := by
  unfold removeLock
  split <;> simp [dropLock]

theorem lockAtEnd_events (p : PortId) (w : PortWork) (failed : Bool) (s : State) :
    (lockAtEnd p w failed s).events = s.events := by
  unfold lockAtEnd
  split
  · exact removeLock_events p s
  · rfl

@[simp] theorem postedFailAtEnd_success (p : PortId) (x : Slot) (w : PortWork) (s : State) :
    postedFailAtEnd p x w false s = s := rfl

theorem endService_success_events (p : PortId) (i : SlotId) (a : Answer) (s : State) :
    (endService p i a false s).events = s.events := by
  unfold endService
  split <;> simp [lockAtEnd_events]

theorem stepSucceeds_events (p : PortId) (cur : Issued) (bytes : SegmentBytes) (s : State) :
    (stepSucceeds p cur bytes s).events = s.events := by
  unfold stepSucceeds
  repeat' split
  · simp
  · exact endService_success_events ..
  · rfl
  · rfl

theorem selectEvent_incidents (s : State) : (selectEvent s).events.incidents = s.events.incidents := by
  unfold selectEvent
  repeat' split
  · simp [buildMessage, eventsAfterBuild]
  · rfl
  · rfl

/-! ### No end of a service fills a slot -/

/-- From `s` to `t` a slot has kept its record or become FREE. -/
def KeptOrFreed (i : SlotId) (s t : State) : Prop := row t.slots i = row s.slots i ∨ row t.slots i = none

theorem KeptOrFreed.of_slots_eq {s t : State} (i : SlotId) (h : t.slots = s.slots) : KeptOrFreed i s t := .inl (by rw [h])

theorem KeptOrFreed.trans {i : SlotId} {s t u : State} (st : KeptOrFreed i s t) (tu : KeptOrFreed i t u) :
    KeptOrFreed i s u := by
  rcases tu with kept | freed
  · rw [KeptOrFreed, kept]; exact st
  · exact .inr freed

theorem KeptOrFreed.free {i : SlotId} {s t : State} (st : KeptOrFreed i s t) (h : row s.slots i = none) :
    row t.slots i = none := st.elim (·.trans h) id

theorem freeSlotOf_slots (i : SlotId) (k : Initiator) (s : State) : (freeSlotOf i k s).slots = putRow s.slots i none := by
  simp [freeSlotOf]

theorem endAbandonment_slots (k : Initiator) (s : State) : (endAbandonment k s).slots = s.slots := by simp

theorem raiseIncident_slots (k : IncidentKind) (d : Option Detail) (s : State) : (raiseIncident k d s).slots = s.slots := by
  simp

theorem answerSlot_slots_ne {i j : SlotId} (h : j ≠ i) (x : Slot) (a : Answer) (s : State) :
    row (answerSlot i x a s).slots j = row s.slots j := by
  unfold answerSlot
  dsimp only
  split <;> simp [row_putRow_ne _ _ _ _ h]

/-- A slot that is answered and then becomes FREE (R36, R37) leaves every other slot alone. -/
theorem freeSlotOf_answerSlot_keptOrFreed (i j : SlotId) (k : Initiator) (x : Slot) (a : Answer) (s : State) :
    KeptOrFreed j s (freeSlotOf i k (answerSlot i x a s)) := by
  rw [KeptOrFreed, freeSlotOf_slots]
  by_cases h : j = i
  · subst h; exact .inr (row_putRow_self _ _ _)
  · rw [row_putRow_ne _ _ _ _ h, answerSlot_slots_ne h]; exact .inl rfl

theorem answerRetire_keptOrFreed (e : EntryId) (j : SlotId) (s : State) : KeptOrFreed j s (answerRetire e s) := by
  unfold answerRetire
  split
  · exact .inl rfl
  · dsimp only
    split
    · exact .inl rfl
    · split
      · exact .inl rfl
      · next i _ _ x _ =>
        rw [KeptOrFreed, endAbandonment_slots]
        exact freeSlotOf_answerSlot_keptOrFreed i j x.initiator x .done (s.setManagement { s.management with retires := _ })

theorem lowerCount_keptOrFreed (e : EntryId) (j : SlotId) (s : State) : KeptOrFreed j s (lowerCount e s) := by
  unfold lowerCount
  split
  · exact .inl rfl
  · split
    · exact answerRetire_keptOrFreed e j (s.setRegion e none)
    · exact .inl rfl

theorem lowerWorkCount_keptOrFreed (w : Work) (j : SlotId) (s : State) : KeptOrFreed j s (lowerWorkCount w s) := by
  unfold lowerWorkCount
  split
  · exact lowerCount_keptOrFreed _ j s
  · exact .inl rfl

/-- What a release does to the slot table: the slot becomes FREE, and a drain that the release ends may free another (R18, R37). -/
theorem releaseSlot_keptOrFreed (i j : SlotId) (x : Slot) (s : State) :
    KeptOrFreed j (freeSlotOf i x.initiator s) (releaseSlot i x s) :=
  (lowerWorkCount_keptOrFreed x.work j _).trans (.of_slots_eq j (by simp [releaseSlot]))

theorem finishSlot_frees (i : SlotId) (a : Answer) (s : State) : row (finishSlot i a s).slots i = none := by
  unfold finishSlot
  split
  · assumption
  · exact (releaseSlot_keptOrFreed i i _ _).free (by rw [freeSlotOf_slots, row_putRow_self])

theorem finishSlot_keptOrFreed (i j : SlotId) (a : Answer) (s : State) : KeptOrFreed j s (finishSlot i a s) := by
  unfold finishSlot
  split
  · exact .inl rfl
  · next x _ =>
    have reported : KeptOrFreed j s (reportToChain i x a s) := .of_slots_eq j (by simp)
    exact (reported.trans (freeSlotOf_answerSlot_keptOrFreed i j x.initiator x a _)).trans (releaseSlot_keptOrFreed i j x _)

theorem loseUnlocks_keptOrFreed (l : List SlotId) (j : SlotId) (s : State) : KeptOrFreed j s (loseUnlocks l s) := by
  induction l generalizing s with
  | nil => exact .inl rfl
  | cons i rest ih => exact (finishSlot_keptOrFreed i j _ s).trans (ih _)

theorem dropLock_keptOrFreed (p : PortId) (l : LockRecord) (expired : Bool) (j : SlotId) (s : State) :
    KeptOrFreed j s (dropLock p l expired s) := by
  have told (lost : List SlotId) (port : Port) :
      KeptOrFreed j s (loseUnlocks lost (lowerCount l.entry (s.setPort p port))) :=
    (lowerCount_keptOrFreed l.entry j (s.setPort p port)).trans (loseUnlocks_keptOrFreed lost j _)
  unfold dropLock
  dsimp only
  split
  · exact (told _ _).trans (.of_slots_eq j (raiseIncident_slots ..))
  · exact told _ _

theorem dropLock_portState (p : PortId) (l : LockRecord) (expired : Bool) (s : State) :
    (row (dropLock p l expired s).ports p).state = (row s.ports p).state := by
  unfold dropLock
  dsimp only
  split <;> simp

theorem arbiter_busy {p : PortId} {s : State} (h : (row s.ports p).state ≠ .idle) : arbiter p s = s := by
  simp [arbiter, h]

/-- At a busy port the arbiter issues nothing, and the removal of the lock record only frees slots. -/
theorem lockAtEnd_keptOrFreed {p : PortId} {s : State} (busy : (row s.ports p).state ≠ .idle) (w : PortWork) (failed : Bool)
    (j : SlotId) : KeptOrFreed j s (lockAtEnd p w failed s) := by
  unfold lockAtEnd
  split
  · unfold removeLock
    split
    · exact .inl rfl
    · rw [arbiter_busy (by rwa [dropLock_portState])]
      exact dropLock_keptOrFreed ..
  · exact .inl rfl

theorem setSlotState_free {i j : SlotId} {s : State} (h : row s.slots j = none) (st : SlotState) :
    row (setSlotState i st s).slots j = none := by
  unfold setSlotState
  split
  · next x hi =>
    have ne : j ≠ i := by rintro rfl; simp [h] at hi
    simp [row_putRow_ne _ _ _ _ ne, h]
  · exact h

theorem issueSlot_free {j : SlotId} {s : State} (h : row s.slots j = none) (p : PortId) (i : SlotId) :
    row (issueSlot p i s).slots j = none := by
  have active := setSlotState_free (i := i) h .active
  unfold issueSlot
  dsimp only
  repeat' split
  all_goals simp [h, active]

/-- An issue changes the state of an occupied slot only. -/
theorem arbiter_free {j : SlotId} {s : State} (h : row s.slots j = none) (p : PortId) :
    row (arbiter p s).slots j = none := by
  unfold arbiter
  dsimp only
  repeat' split
  · simp [h]
  · exact issueSlot_free h p _
  · exact h
  · exact h

theorem completeSlot_frees {i : SlotId} {s : State} (outside : ∀ x, row s.slots i = some x → x.role = .none) (a : Answer) :
    row (completeSlot i a s).slots i = none := by
  unfold completeSlot
  split
  · assumption
  · next x hx => simp [inChain, outside x hx, finishSlot_frees]

/-- The end of a service releases a slot outside any chain (R58), even where a drain that the lock's removal ends has freed it
already. -/
theorem endService_success_frees {p : PortId} {i : SlotId} {s : State} {x : Slot} {w : PortWork}
    (busy : (row s.ports p).state ≠ .idle) (hx : row s.slots i = some x) (hw : x.work = .port w) (lone : x.role = .none)
    (a : Answer) : row (endService p i a false s).slots i = none := by
  have outside : ∀ y, row (lockAtEnd p w false s).slots i = some y → y.role = .none := by
    intro y hy
    rcases lockAtEnd_keptOrFreed busy w false i with kept | freed
    · rw [kept, hx] at hy; cases hy; exact lone
    · simp [freed] at hy
  have released := completeSlot_frees outside a
  simp only [endService, hx, portWorkOf_eq_some hx hw, postedFailAtEnd_success]
  exact arbiter_free (by simpa using released) p

/-- A ready indication at a port that presents a READY step (R54) raises no incident, and as the completion of step 2 it ends the
service of the port's slot. -/
theorem readyAt_completes {p : PortId} {s : State} {cur : Issued} {t : Nat} (h : (row s.ports p).state = .issued cur)
    (ht : cur.timer = .ready t) (bytes : SegmentBytes) :
    (readyAt p bytes s).events = s.events ∧
      ∀ x w r, Presents s p cur x w r → cur.step = .two → x.role = .none → row (readyAt p bytes s).slots cur.slot = none := by
  rw [readyAt_ready h ht]
  refine ⟨stepSucceeds_events .., fun x w r presents two lone => ?_⟩
  rw [stepSucceeds_stepTwo presents two]
  obtain ⟨-, hslot, hwork, -⟩ := presents
  exact endService_success_frees (by simp [h]) hslot hwork lone _

/-- Settles O41: by the state of the port, and for an ISSUED port by its step's timer. -/
theorem strayReadyIndications : Obligations.StrayReadyIndications := by
  unfold Obligations.StrayReadyIndications
  intro p bytes s
  simp only [exec_readyIndication]
  refine ⟨?stray, ?held, ?ready⟩
  case stray =>
    rintro (idle | ⟨cur, d, issued, fixed⟩)
    · rw [readyAt_idle idle]; rfl
    · rw [readyAt_fixed issued fixed]; rfl
  case held =>
    intro held
    rw [readyAt_held held]
  case ready =>
    intro cur t issued ready
    obtain ⟨events, frees⟩ := readyAt_completes issued ready bytes
    refine ⟨_, rfl, ?_, fun x w r presents two _ lone => ?_⟩
    · rw [selectEvent_incidents, events]
    · simpa using frees x w r presents two lone

end Sys2Proof.Machine
end

section
/-! PROOFS. The ack window (R127, R128, R130). An expiry in AWAIT-ACK leaves the message in flight, in AWAIT-ACK or in STALLED, so the
selection that ends every event does nothing after it. -/

namespace Sys2Proof.Machine

/-! ### Selection outside IDLE -/

/-- Selection is carried out in IDLE only (R128). -/
theorem selectEvent_of_delivery_ne_idle {s : State} (h : s.events.delivery ≠ .idle) : selectEvent s = s := by
  simp [selectEvent, selectionOpen, h]

theorem selectEvent_of_inFlight {m : EventMessage} {s : State}
    (h : s.events.delivery = .stalled m ∨ s.events.delivery = .awaitAck m) : selectEvent s = s := by
  apply selectEvent_of_delivery_ne_idle
  rcases h with stalled | waiting
  · simp [stalled]
  · simp [waiting]

/-! ### A resend -/

theorem resendMessage_events (m : EventMessage) (n : Nat) (s : State) :
    (resendMessage m n s).events =
      { s.events with delivery := .awaitAck m, resends := n, ackTimer := .running s.events.ackWindow } := by
  simp [resendMessage]

theorem resendMessage_outbound_up (m : EventMessage) (n : Nat) {s : State} (up : s.link.state = .up) :
    (resendMessage m n s).link.outbound = s.link.outbound ++ [.event s.events.target m] :=
  handOver_outbound_up _ _ up

theorem resendMessage_sameReceiver (m : EventMessage) (n : Nat) (s : State) : SameReceiver s (resendMessage m n s) :=
  resendMessage_link m n s

/-! ### The expiry, by the resend count -/

theorem windowExpiry_resends {m : EventMessage} {s : State} (h : s.events.resends < 3) :
    windowExpiry m s = resendMessage m (s.events.resends + 1) s := if_pos h

theorem windowExpiry_stalls {m : EventMessage} {s : State} (h : s.events.resends = 3) :
    windowExpiry m s = s.setEvents { s.events with delivery := .stalled m, ackTimer := .stopped } :=
  if_neg (by simp [h, Config.maxResends])

/-- An expiry keeps the message in flight, whatever the resend count (R130). -/
theorem windowExpiry_inFlight (m : EventMessage) (s : State) :
    (windowExpiry m s).events.delivery = .stalled m ∨ (windowExpiry m s).events.delivery = .awaitAck m := by
  unfold windowExpiry
  split
  · exact .inr (by rw [resendMessage_events])
  · exact .inl rfl

theorem exec_ackWindowExpiry {m : EventMessage} {d : Nat} {s : State} (waiting : s.events.delivery = .awaitAck m)
    (running : s.events.ackTimer = .running d) : exec .ackWindowExpiry s = .next (windowExpiry m s) := by
  have taken : exec .ackWindowExpiry s = .next (selectEvent (windowExpiry m s)) := by
    simp [exec, execAckWindowExpiry, endEvent, waiting, running]
  rw [taken, selectEvent_of_inFlight (windowExpiry_inFlight m s)]

/-- Settles O50: by the resend count at the expiry. -/
theorem ackWindowResendsThenStalls : Obligations.AckWindowResendsThenStalls := by
  unfold Obligations.AckWindowResendsThenStalls
  intro m s
  refine ⟨?resend, ?stall, selectEvent_of_inFlight⟩
  case resend =>
    intro d waiting running few up
    refine ⟨resendMessage m (s.events.resends + 1) s, ?_, ?_, resendMessage_outbound_up m _ up,
      resendMessage_sameReceiver m _ s, ?_⟩
    · rw [exec_ackWindowExpiry waiting running, windowExpiry_resends few]
    · rw [resendMessage_events, ← waiting]
    · simp
  case stall =>
    intro d waiting running three
    rw [exec_ackWindowExpiry waiting running, windowExpiry_stalls three]
    rfl

end Sys2Proof.Machine
end

section
/-! PROOFS. ALTER-RIGHTS, SET-SCAN and SET-MANAGERS (R139, R141, R145, R149). Their claims touch one block each and neither the
requests in the part nor the events. For every operation of that kind the slot that R139 takes is FREE again at the end, and what
the event adds besides is a selection. So each statement comes down to what the operation's claim is. -/

namespace Sys2Proof.Machine

/-! ### What selection may change -/

theorem OnlySelection.of_eq {s t : State} (events : t.events = s.events) (stations : t.stations = s.stations) :
    OnlySelection s t := by
  simp [OnlySelection, events, stations]

theorem OnlySelection.trans {s t u : State} (st : OnlySelection s t) (tu : OnlySelection t u) : OnlySelection s u := by
  obtain ⟨prio, inc, target, window, rows, busy⟩ := st
  obtain ⟨prio', inc', target', window', rows', busy'⟩ := tu
  refine ⟨prio'.trans prio, inc'.trans inc, target'.trans target, window'.trans window, fun n => ?_, fun inFlight => ?_⟩
  · rw [rows' n, rows n]
  · obtain ⟨events, stations⟩ := busy inFlight
    obtain ⟨events', stations'⟩ := busy' (by rwa [events])
    exact ⟨events'.trans events, stations'.trans stations⟩

theorem copyForSource_row (src : Source) (s : State) (n : StationId) :
    row (copyForSource src s).stations n =
      { row s.stations n with delivered := (row (copyForSource src s).stations n).delivered } := by
  cases src with
  | incident k => rfl
  | station m =>
    by_cases h : n = m
    · subst h; simp [copyForSource, setDelivered]
    · simp [copyForSource, setDelivered, row_putRow_ne _ _ _ _ h]

theorem buildMessage_onlySelection {s : State} (idle : s.events.delivery = .idle) (src : Source) :
    OnlySelection s (buildMessage src s) := by
  have rows := copyForSource_row src (s.setEvents (eventsAfterBuild s.events (builtMessage s src)))
  refine ⟨?_, ?_, ?_, ?_, fun n => by simpa [buildMessage] using rows n, fun busy => absurd idle busy⟩ <;>
    simp [buildMessage, eventsAfterBuild]

theorem selectEvent_onlySelection (s : State) : OnlySelection s (selectEvent s) := by
  by_cases idle : s.events.delivery = .idle
  · unfold selectEvent
    split
    · split
      · exact buildMessage_onlySelection idle _
      · exact .of_eq rfl rfl
    · exact .of_eq rfl rfl
  · rw [selectEvent_of_delivery_ne_idle idle]
    exact .of_eq rfl rfl

/-! ### A MANAGE slot is taken -/

/-- The state in which an accepted MANAGE operation makes its claim (R139): its slot is allocated, has joined the management queue
and has been taken from it. -/
def manageTaken (i : SlotId) (h : ReqHeader) (op : ManageOp) (s : State) : State :=
  takeManageSlot i (joinDestination i (.manage op) (allocateSlot i h (.manage op) s))

/-- What the taking of a MANAGE slot leaves of the state `s` in which its message arrived: an ACTIVE slot more, and the receive
buffer and the management queue aside everything else as it was. -/
structure TakenFrom (s : State) (i : SlotId) (h : ReqHeader) (op : ManageOp) (v : State) : Prop where
  allocated : Allocated s v h.initiator i (filledSlot s h (.manage op) .active false)
  chains : v.chains = s.chains
  regions : v.regions = s.regions
  ports : v.ports = s.ports
  stations : v.stations = s.stations
  line : v.line = s.line
  events : v.events = s.events
  managers : v.management.managers = s.management.managers
  retires : v.management.retires = s.management.retires
  linkState : v.link.state = s.link.state
  resetCount : v.link.resetCount = s.link.resetCount
  outbound : v.link.outbound = s.link.outbound

theorem manageTaken_takenFrom {i : SlotId} {h : ReqHeader} {s : State} (free : row s.slots i = none) (lone : h.mark = .none)
    (op : ManageOp) : TakenFrom s i h op (manageTaken i h op s) where
  allocated := by
    refine ⟨free, ?_, by simp [manageTaken], by simp [manageTaken, joinDestination]⟩
    simp [manageTaken, takeManageSlot, joinDestination, setSlotState, lone, roleFor, newSlot, filledSlot]
  chains := by simp [manageTaken, joinDestination, allocateSlot_chains_none _ _ lone]
  regions := by simp [manageTaken, joinDestination]
  ports := by simp [manageTaken, joinDestination]
  stations := by simp [manageTaken]
  line := by simp [manageTaken, joinDestination]
  events := by simp [manageTaken]
  managers := by simp [manageTaken, takeManageSlot, joinDestination]
  retires := by simp [manageTaken, takeManageSlot, joinDestination]
  linkState := by simp [manageTaken]
  resetCount := by simp [manageTaken]
  outbound := by simp [manageTaken, joinDestination]

/-- Only the receive buffer tells the state that a message is taken in from the one in which it arrived. -/
theorem TakenFrom.of_arrives {body : List Byte} {s u v : State} {i : SlotId} {h : ReqHeader} {op : ManageOp}
    (a : Arrives body s u) (taken : TakenFrom u i h op v) : TakenFrom s i h op v := by
  rw [a.same] at taken
  exact { taken with }

theorem ManageServed.exists_freeSlot {s : State} {h : ReqHeader} (served : ManageServed s h) : ∃ i, freeSlot s = some i := by
  obtain ⟨⟨-, -, -, -, free⟩, -⟩ := served
  exact freeSlot_isSome free

/-- A MANAGE request that is served takes a FREE slot, makes its claim and concludes it, all in the event that accepts it (R139). -/
theorem exec_manageCommand {h : ReqHeader} {op : ManageOp} {body : List Byte} {s u : State}
    (named : bodyOf (manageCommand h op) = some body) (a : Arrives body s u) (served : ManageServed s h) :
    ∃ i v, TakenFrom s i h op v ∧
      exec (manageCommand h op) s = .next (selectEvent (concludeClaim i (claimOf op h.initiator h.tag v))) := by
  have judged := judge_manage (op := op) (served.arrives a)
  obtain ⟨i, chosen⟩ := (served.arrives a).exists_freeSlot
  obtain ⟨⟨up, -, lone, -⟩, -⟩ := served
  refine ⟨i, manageTaken i h op u, (manageTaken_takenFrom (freeSlot_some chosen) lone op).of_arrives a, ?_⟩
  rw [exec_arrives (requestOf_manageCommand h op) named a up, judged]
  simp [carryVerdict, acceptManage, chosen, endEvent, manageTaken]

/-! ### A MANAGE slot is answered and released -/

/-- A MANAGE slot references no entry and is in no chain: its release touches the slot table and the initiator records alone (R37). -/
theorem finishSlot_manage {i : SlotId} {s : State} {x : Slot} {op : ManageOp} (held : row s.slots i = some x)
    (work : x.work = .manage op) (lone : x.role = .none) (normal : (row s.initiators x.initiator).mode = .normal) (a : Answer) :
    finishSlot i a s = freeSlotOf i x.initiator (answerSlot i x a s) := by
  have unreported : reportToChain i x a s = s := by simp [reportToChain, lone, roleOrdinal]
  simp [finishSlot, held, unreported, releaseSlot, work, lowerWorkCount, workEntry, leaveChain, inChain, lone, endAbandonment,
    freeSlotOf, lowerOccupancy, normal]

/-- The release of a slot undoes its allocation in the slot table and the initiator records (R32, R37). -/
theorem Allocated.freed {s v w : State} {k : Initiator} {i : SlotId} {x : Slot} (alloc : Allocated s v k i x)
    (slots : ∃ y, w.slots = putRow v.slots i y) (initiators : w.initiators = v.initiators) :
    (freeSlotOf i k w).slots = s.slots ∧ (freeSlotOf i k w).initiators = s.initiators := by
  obtain ⟨free, tableAfter, -, recordsAfter⟩ := alloc
  obtain ⟨y, slots⟩ := slots
  constructor
  · rw [freeSlotOf_slots, slots, tableAfter, putRow_putRow_self, putRow_putRow_self, ← free, putRow_row_self]
  · have raised : row w.initiators k = { row s.initiators k with occupancy := (row s.initiators k).occupancy + 1 } := by
      rw [initiators, recordsAfter, row_putRow_self]
    calc (freeSlotOf i k w).initiators
        = putRow w.initiators k { row w.initiators k with occupancy := (row w.initiators k).occupancy - 1 } := rfl
      _ = putRow s.initiators k (row s.initiators k) := by
          rw [raised, initiators, recordsAfter, putRow_putRow_self]; rfl
      _ = s.initiators := putRow_row_self ..

theorem answerSlot_slots (i : SlotId) (x : Slot) (a : Answer) (s : State) :
    ∃ y, (answerSlot i x a s).slots = putRow s.slots i y := by
  unfold answerSlot
  dsimp only
  split
  · exact ⟨_, rfl⟩
  · simp only [respond_frame]
    exact ⟨_, rfl⟩

/-- The RESPONSE of a slot at its first step that has not been answered and is outside any chain (R36). -/
theorem answerSlot_outbound {h : ReqHeader} {op : ManageOp} {s w : State} (up : w.link.state = .up) (i : SlotId) (a : Answer) :
    (answerSlot i (filledSlot s h (.manage op) .active false) a w).link.outbound =
      w.link.outbound ++ [plainResponse h.initiator h.tag a] := by
  simp [answerSlot, filledSlot, respond, handOver_outbound_up, up, partialMarkerOf, isLastRole, plainResponse]

theorem Hands.of_grows {s v t : State} {m : Message} (before : s.link.outbound <+: v.link.outbound)
    (after : v.link.outbound ++ [m] <+: t.link.outbound) : Hands s t m := by
  obtain ⟨first, before⟩ := before
  obtain ⟨last, after⟩ := after
  exact ⟨first ++ [m] ++ last, by simp [← after, ← before], by simp⟩

/-- A claim that answers, and touches neither the requests in the part nor the link, the stations or the event unit. -/
structure QuietClaim (v : State) (c : Claim) (a : Answer) : Prop where
  answer : c.answer = some a
  slots : c.state.slots = v.slots
  initiators : c.state.initiators = v.initiators
  acceptCounter : c.state.acceptCounter = v.acceptCounter
  chains : c.state.chains = v.chains
  link : c.state.link = v.link
  stations : c.state.stations = v.stations
  events : c.state.events = v.events

theorem QuietClaim.unchanged (v : State) (a : Answer) : QuietClaim v (unchanged v a) a := by constructor <;> rfl

/-- Between two selections, the end of a quiet claim answers its slot and makes it FREE (R139). -/
theorem QuietClaim.conclude {s v : State} {i : SlotId} {h : ReqHeader} {op : ManageOp} {c : Claim} {a : Answer}
    (quiet : QuietClaim v c a) (taken : TakenFrom s i h op v) (served : Served s h) :
    concludeClaim i c =
      freeSlotOf i h.initiator (answerSlot i (filledSlot s h (.manage op) .active false) a (selectEvent c.state)) := by
  obtain ⟨-, normal, -⟩ := served
  obtain ⟨-, table, -, records⟩ := taken.allocated
  have held : row (selectEvent c.state).slots i = some (filledSlot s h (.manage op) .active false) := by
    simp [quiet.slots, table]
  have still : (row (selectEvent c.state).initiators h.initiator).mode = .normal := by
    simp [quiet.initiators, records, normal]
  simp only [concludeClaim, quiet.answer]
  exact finishSlot_manage held rfl rfl still a

theorem QuietClaim.answered {s v : State} {i : SlotId} {h : ReqHeader} {op : ManageOp} {c : Claim} {a : Answer}
    (quiet : QuietClaim v c a) (taken : TakenFrom s i h op v) (served : Served s h) :
    ManageAnswered s (selectEvent (concludeClaim i c)) h a := by
  have up : (selectEvent c.state).link.state = .up := by simp [quiet.link, taken.linkState, served.1]
  obtain ⟨-, -, counter, -⟩ := taken.allocated
  obtain ⟨y, written⟩ := answerSlot_slots i (filledSlot s h (.manage op) .active false) a (selectEvent c.state)
  obtain ⟨slots, initiators⟩ :=
    taken.allocated.freed (w := answerSlot i (filledSlot s h (.manage op) .active false) a (selectEvent c.state))
      ⟨y, by simp [written, quiet.slots]⟩ (by simp [quiet.initiators])
  have before : s.link.outbound <+: (selectEvent c.state).link.outbound :=
    selectEvent_grows _ (by rw [quiet.link, taken.outbound])
  rw [quiet.conclude taken served]
  refine ⟨by simpa using slots, by simpa using initiators, ?_, ?_, ?_, ?_, .of_grows before (selectEvent_grows _ ?_)⟩
  · simp [quiet.acceptCounter, counter]
  · simp [quiet.chains, taken.chains]
  · simp [quiet.link, taken.linkState]
  · simp [quiet.link, taken.resetCount]
  · simp [answerSlot_outbound up]

theorem QuietClaim.onlySelection {s v : State} {i : SlotId} {h : ReqHeader} {op : ManageOp} {c : Claim} {a : Answer}
    (quiet : QuietClaim v c a) (taken : TakenFrom s i h op v) (served : Served s h) :
    OnlySelection s (selectEvent (concludeClaim i c)) := by
  have claimed : OnlySelection s c.state :=
    .of_eq (by rw [quiet.events, taken.events]) (by rw [quiet.stations, taken.stations])
  have concluded : OnlySelection (selectEvent c.state) (concludeClaim i c) := by
    rw [quiet.conclude taken served]
    exact .of_eq (by simp) (by simp)
  exact ((claimed.trans (selectEvent_onlySelection _)).trans concluded).trans (selectEvent_onlySelection _)

/-- A MANAGE operation whose claim is quiet, whatever else the state in which it is made holds: it is carried out and answered in the
event that accepts it, and the regions, the ports, the line and the management unit are left as the claim leaves them (R139). -/
theorem exec_quiet {h : ReqHeader} {op : ManageOp} {body : List Byte} {s u : State} {a : Answer}
    (named : bodyOf (manageCommand h op) = some body) (arrival : Arrives body s u) (served : ManageServed s h)
    (quiet : ∀ v, v.regions = s.regions → QuietClaim v (claimOf op h.initiator h.tag v) a) :
    ∃ i v t, TakenFrom s i h op v ∧ exec (manageCommand h op) s = .next t ∧ ManageAnswered s t h a ∧ OnlySelection s t ∧
      t.regions = (claimOf op h.initiator h.tag v).state.regions ∧ t.ports = (claimOf op h.initiator h.tag v).state.ports ∧
      t.line = (claimOf op h.initiator h.tag v).state.line ∧
      t.management = (claimOf op h.initiator h.tag v).state.management := by
  obtain ⟨i, v, taken, run⟩ := exec_manageCommand named arrival served
  obtain ⟨served, -⟩ := served
  have quiet := quiet v taken.regions
  refine ⟨i, v, _, taken, run, quiet.answered taken served, quiet.onlySelection taken served, ?_⟩
  simp [quiet.conclude taken served]

/-! ### ALTER-RIGHTS (R145) -/

theorem entryOf_eq_some {e : EntryId} {b : Byte} (h : e.val = b.toNat) : entryOf b = some e := by
  simp [entryOf, ← h]

theorem entryOf_eq_none {b : Byte} (h : 47 < b.toNat) : entryOf b = none := by
  simp [entryOf]; omega

theorem claimAlterRights_present {entry : Byte} {e : EntryId} {r : RegionRecord} {v : State} (number : e.val = entry.toNat)
    (present : row v.regions e = some r) (rs ws : InitiatorSet) :
    claimAlterRights entry rs ws v =
      carriedOut (v.setRegion e (some { r with fields := { r.fields with readSet := rs, writeSet := ws } })) := by
  simp [claimAlterRights, entryOf_eq_some number, present]

/-- No present entry has the number: it is out of range, or its entry is ABSENT. -/
def NoEntry (s : State) (entry : Byte) : Prop :=
  47 < entry.toNat ∨ ∃ e : EntryId, e.val = entry.toNat ∧ row s.regions e = none

theorem NoEntry.not_present {s : State} {entry : Byte} {e : EntryId} {r : RegionRecord} (noEntry : NoEntry s entry)
    (number : e.val = entry.toNat) : row s.regions e ≠ some r := by
  rcases noEntry with above | ⟨e', number', absent⟩
  · omega
  · rw [Fin.ext (number.trans number'.symm), absent]; simp

theorem present_or_noEntry (s : State) (entry : Byte) :
    (∃ e r, e.val = entry.toNat ∧ row s.regions e = some r) ∨ NoEntry s entry := by
  by_cases inRange : entry.toNat < 48
  · cases held : row s.regions ⟨entry.toNat, inRange⟩ with
    | none => exact .inr (.inr ⟨_, rfl, held⟩)
    | some r => exact .inl ⟨_, r, rfl, held⟩
  · exact .inr (.inl (by omega))

theorem claimAlterRights_noEntry {entry : Byte} {v : State} (noEntry : NoEntry v entry) (rs ws : InitiatorSet) :
    claimAlterRights entry rs ws v = badValue v := by
  rcases noEntry with above | ⟨e, number, absent⟩
  · simp [claimAlterRights, entryOf_eq_none above]
  · simp [claimAlterRights, entryOf_eq_some number, absent]

/-- Settles O23: by whether a present entry has the number. -/
theorem alterRightsReplacesBothSets : Obligations.AlterRightsReplacesBothSets := by
  unfold Obligations.AlterRightsReplacesBothSets
  intro h entry rs ws body s u named arrival served
  rcases present_or_noEntry s entry with ⟨e, r, number, present⟩ | noEntry
  · have claim {v : State} (regions : v.regions = s.regions) :=
      claimAlterRights_present number (v := v) (by rwa [regions]) rs ws
    obtain ⟨i, v, t, taken, run, answered, selection, regions, ports, line, management⟩ :=
      exec_quiet (a := .done) named arrival served fun v same => by
        simp only [claimOf, claim same]; constructor <;> rfl
    simp only [claimOf, claimAlterRights_frame] at ports line management
    simp only [claimOf, claim taken.regions, carriedOut, State.setRegion_regions, taken.regions] at regions
    refine ⟨t, .done, run, answered, selection, ports.trans taken.ports, line.trans taken.line, ?_, ?_, ?_, ?_⟩
    · rw [management, taken.managers]
    · rw [management, taken.retires]
    · intro e' r' number' present'
      obtain rfl : e' = e := Fin.ext (number'.trans number.symm)
      obtain rfl : r = r' := by simpa [present] using present'
      exact ⟨rfl, regions⟩
    · exact fun noEntry => absurd present (NoEntry.not_present noEntry number)
  · have claim {v : State} (regions : v.regions = s.regions) :=
      claimAlterRights_noEntry (v := v) (by rwa [NoEntry, regions]) rs ws
    obtain ⟨i, v, t, taken, run, answered, selection, regions, ports, line, management⟩ :=
      exec_quiet (a := .fault .badValue) named arrival served fun v same => by
        simp only [claimOf, claim same]; exact .unchanged v _
    simp only [claimOf, claimAlterRights_frame] at ports line management
    simp only [claimOf, claim taken.regions, badValue, unchanged, taken.regions] at regions
    refine ⟨t, .fault .badValue, run, answered, selection, ports.trans taken.ports, line.trans taken.line, ?_, ?_, ?_, ?_⟩
    · rw [management, taken.managers]
    · rw [management, taken.retires]
    · exact fun e r number present => absurd present (noEntry.not_present number)
    · exact fun _ => ⟨rfl, regions⟩

/-! ### SET-SCAN (R149) -/

theorem toNat_eq_zero_iff (b : Byte) : b.toNat = 0 ↔ b = 0 := by
  simp [← BitVec.toNat_inj]

/-- Settles O28: the claim answers DONE for every period, and writes the line unit alone. -/
theorem setScanRestartsTheTimer : Obligations.SetScanRestartsTheTimer := by
  unfold Obligations.SetScanRestartsTheTimer
  intro h period body s u named arrival served
  obtain ⟨i, v, t, taken, run, answered, selection, regions, ports, line, management⟩ :=
    exec_quiet (a := .done) named arrival served fun v _ => by constructor <;> rfl
  simp only [claimOf, claimSetScan_frame] at regions ports
  refine ⟨t, run, answered, selection, regions.trans taken.regions, ports.trans taken.ports, ?_, ?_, ?_⟩
  · rw [management]; exact taken.managers
  · rw [management]; exact taken.retires
  · rw [line]
    simp [claimOf, claimSetScan, carriedOut, taken.line, toNat_eq_zero_iff]

/-! ### SET-MANAGERS (R141) -/

theorem claimSetManagers_management (set : InitiatorSet) (k : Initiator) (v : State) :
    (claimSetManagers set k v).state.management =
      { v.management with managers := if set.has k then set else v.management.managers } := by
  unfold claimSetManagers
  split <;> rfl

/-- Settles O34: by whether the set holds its requester. -/
theorem setManagersNeedsItsRequester : Obligations.SetManagersNeedsItsRequester := by
  unfold Obligations.SetManagersNeedsItsRequester
  intro h set body s u named arrival served
  obtain ⟨i, v, t, taken, run, answered, selection, regions, ports, line, management⟩ :=
    exec_quiet (a := if set.has h.initiator then .done else .fault .badValue) named arrival served fun v _ => by
      simp only [claimOf, claimSetManagers]
      split
      · constructor <;> rfl
      · exact .unchanged v _
  simp only [claimOf, claimSetManagers_frame] at regions ports line
  refine ⟨t, run, answered, selection, ?_, ?_, regions.trans taken.regions, ports.trans taken.ports, line.trans taken.line⟩
  · simp [management, claimOf, claimSetManagers_management, taken.managers]
  · simp [management, claimOf, claimSetManagers_management, taken.retires]

end Sys2Proof.Machine
end

section
/-! PROOFS. What one step keeps (O53 to O60), part 1: the relation between the state before and after an operation, in which every
invariant has its place. `Sound` holds the invariants that each operation keeps by itself; `Keeps` adds those that it keeps in an
event that began with the queues in agreement with the slot table. -/

namespace Sys2Proof.Machine

-- one proof at a time: the text is compiled whole, in one process whose threads share its memory limit
set_option Elab.async false

/-! ### The agreement of queues and slots within an event -/

/-- What the agreement of queues and slots leaves out in the middle of an event: the port whose current slot is being released, the
line while the slot of its operation is, and the slot of the MANAGE operation that is being carried out, which nothing refers to. -/
structure Exempt where
  ending : Option PortId
  lineEnds : Bool
  held : Option SlotId

/-- Between events nothing is left out. -/
def Exempt.nothing : Exempt := ⟨none, false, none⟩

/-- What the blocks read of a slot, without the fields that only its own service changes. -/
def Slot.view (x : Slot) : Slot := { x with step := .one, answered := false, suppressed := false, outcome := none }

/-- No queue, no port, no line operation and no pending retire of `t` refers to the slot `i` that holds `x`. -/
structure NoReference (g : Exempt) (t : State) (i : SlotId) (x : Slot) : Prop where
  queue : ∀ p, i ∉ (row t.ports p).queue
  lineQueue : i ∉ t.line.queue
  current : ∀ p cur, some p ≠ g.ending → (row t.ports p).state = .issued cur → cur.slot ≠ i
  lineOp : g.lineEnds = false → ∀ op, t.line.op = some op → op.origin ≠ .request i
  retires : ∀ r, r ∈ t.management.retires → ¬(r.initiator = x.initiator ∧ r.tag = x.tag)

/-- `QueuesOk` but for what is left out. -/
structure Agree (g : Exempt) (s : State) : Prop where
  keys : ∀ i j x y, row s.slots i = some x → row s.slots j = some y → x.initiator = y.initiator → x.tag = y.tag → i = j
  queueNodup : ∀ p, (row s.ports p).queue.Nodup
  queue : ∀ p q, q ∈ (row s.ports p).queue →
    ∃ x w, row s.slots q = some x ∧ x.state = .queued ∧ x.work = .port w ∧ w.port = p
  lineNodup : s.line.queue.Nodup
  lineQueue : ∀ q, q ∈ s.line.queue → ∃ x w, row s.slots q = some x ∧ x.state = .queued ∧ x.work = .bit w
  current : ∀ p cur, some p ≠ g.ending → (row s.ports p).state = .issued cur →
    ∃ x w, row s.slots cur.slot = some x ∧ x.state = .active ∧ x.work = .port w ∧ w.port = p
  lineOp : g.lineEnds = false → ∀ op i, s.line.op = some op → op.origin = .request i →
    ∃ x w, row s.slots i = some x ∧ x.state = .active ∧ x.work = .bit w
  retires : ∀ r, r ∈ s.management.retires →
    ∃ i x op, row s.slots i = some x ∧ x.initiator = r.initiator ∧ x.tag = r.tag ∧ x.state = .active ∧ x.work = .manage op
  retireKeys : ∀ r q, r ∈ s.management.retires → q ∈ s.management.retires → r.initiator = q.initiator → r.tag = q.tag → r = q
  held : ∀ i x, g.held = some i → row s.slots i = some x → x.state = .active ∧ (∃ op, x.work = .manage op) ∧
    ∀ r, r ∈ s.management.retires → ¬(r.initiator = x.initiator ∧ r.tag = x.tag)

theorem agree_nothing_iff (s : State) : Agree .nothing s ↔ QueuesOk s := by
  constructor
  · intro a
    exact ⟨a.keys, a.queueNodup, a.queue, a.lineNodup, a.lineQueue, fun p cur => a.current p cur (by simp [Exempt.nothing]),
      fun op i => a.lineOp rfl op i, a.retires, a.retireKeys⟩
  · rintro ⟨keys, nodup, queue, lineNodup, lineQueue, current, lineOp, retires, retireKeys⟩
    exact ⟨keys, nodup, queue, lineNodup, lineQueue, fun p cur _ => current p cur, fun _ => lineOp, retires, retireKeys,
      fun i x h => by simp [Exempt.nothing] at h⟩

/-- A slot that is WAITING is in no queue and under no service. -/
theorem Agree.noReference_of_waiting {g : Exempt} {s : State} (a : Agree g s) {i : SlotId} {x : Slot}
    (h : row s.slots i = some x) (waiting : x.state = .waiting) : NoReference g s i x where
  queue p hi := by obtain ⟨y, w, hy, hs, -⟩ := a.queue p i hi; simp_all
  lineQueue hi := by obtain ⟨y, w, hy, hs, -⟩ := a.lineQueue i hi; simp_all
  current p cur hp hc e := by obtain ⟨y, w, hy, hs, -⟩ := a.current p cur hp hc; subst e; simp_all
  lineOp he op ho e := by obtain ⟨y, w, hy, hs, -⟩ := a.lineOp he op i ho e; simp_all
  retires r hr key := by
    obtain ⟨j, y, op, hy, hi, ht, hs, -⟩ := a.retires r hr
    obtain rfl := a.keys i j x y h hy (key.1.symm.trans hi.symm) (key.2.symm.trans ht.symm)
    simp_all

/-- A QUEUED slot that has left its queue is under no service. -/
theorem Agree.noReference_of_queued {g : Exempt} {s : State} (a : Agree g s) {i : SlotId} {x : Slot}
    (h : row s.slots i = some x) (queued : x.state = .queued) (ports : ∀ p, i ∉ (row s.ports p).queue)
    (line : i ∉ s.line.queue) : NoReference g s i x where
  queue := ports
  lineQueue := line
  current p cur hp hc e := by obtain ⟨y, w, hy, hs, -⟩ := a.current p cur hp hc; subst e; simp_all
  lineOp he op ho e := by obtain ⟨y, w, hy, hs, -⟩ := a.lineOp he op i ho e; simp_all
  retires r hr key := by
    obtain ⟨j, y, op, hy, hi, ht, hs, -⟩ := a.retires r hr
    obtain rfl := a.keys i j x y h hy (key.1.symm.trans hi.symm) (key.2.symm.trans ht.symm)
    simp_all

/-- A MANAGE slot that is ACTIVE is referred to by the pending retires alone. -/
theorem Agree.noReference_of_manage {g : Exempt} {s : State} (a : Agree g s) {i : SlotId} {x : Slot} {op : ManageOp}
    (h : row s.slots i = some x) (work : x.work = .manage op)
    (retires : ∀ r, r ∈ s.management.retires → ¬(r.initiator = x.initiator ∧ r.tag = x.tag)) : NoReference g s i x where
  queue p hi := by obtain ⟨y, w, hy, -, hw, -⟩ := a.queue p i hi; simp_all
  lineQueue hi := by obtain ⟨y, w, hy, -, hw⟩ := a.lineQueue i hi; simp_all
  current p cur hp hc e := by obtain ⟨y, w, hy, -, hw, -⟩ := a.current p cur hp hc; subst e; simp_all
  lineOp he op ho e := by obtain ⟨y, w, hy, -, hw⟩ := a.lineOp he op i ho e; simp_all
  retires := retires

theorem Agree.noReference_of_held {g : Exempt} {s : State} (a : Agree g s) {i : SlotId} {x : Slot} (held : g.held = some i)
    (h : row s.slots i = some x) : NoReference g s i x := by
  obtain ⟨-, ⟨op, work⟩, retires⟩ := a.held i x held h
  exact a.noReference_of_manage h work retires

theorem Slot.view_eq {x y : Slot} (h : y.view = x.view) :
    y.initiator = x.initiator ∧ y.tag = x.tag ∧ y.work = x.work ∧ y.role = x.role ∧ y.state = x.state ∧
      y.sequence = x.sequence := by
  simp only [Slot.view, Slot.mk.injEq] at h
  tauto

/-- From `s` to `t` slots have kept what the blocks read of them or have become FREE where nothing refers to them, and queues,
services and pending retires have at most ended. -/
structure Lessens (g : Exempt) (s t : State) : Prop where
  rows : ∀ i x, row s.slots i = some x →
    (∃ y, row t.slots i = some y ∧ y.view = x.view) ∨ (row t.slots i = none ∧ NoReference g t i x)
  free : ∀ i, row s.slots i = none → row t.slots i = none
  queue : ∀ p, (row t.ports p).queue.Sublist (row s.ports p).queue
  lineQueue : t.line.queue.Sublist s.line.queue
  current : ∀ p cur, (row t.ports p).state = .issued cur →
    ∃ old, (row s.ports p).state = .issued old ∧ cur.slot = old.slot
  lineOp : ∀ op, t.line.op = some op → s.line.op = some op ∨ op.origin = .poll
  retires : t.management.retires.Sublist s.management.retires

/-- Whatever refers to a slot of `s` and still does in `t` finds it as it was. -/
theorem Lessens.referred {g : Exempt} {s t : State} (l : Lessens g s t) {i : SlotId} {x : Slot}
    (h : row s.slots i = some x) (referred : ¬NoReference g t i x) : ∃ y, row t.slots i = some y ∧ y.view = x.view :=
  (l.rows i x h).elim id fun gone => absurd gone.2 referred

theorem Lessens.origin {g : Exempt} {s t : State} (l : Lessens g s t) {i : SlotId} {y : Slot} (h : row t.slots i = some y) :
    ∃ x, row s.slots i = some x ∧ y.view = x.view := by
  cases hs : row s.slots i with
  | none => simp [l.free i hs] at h
  | some x =>
    rcases l.rows i x hs with ⟨z, hz, view⟩ | ⟨gone, -⟩
    · rw [h] at hz; cases hz; exact ⟨x, rfl, view⟩
    · simp [gone] at h

theorem Lessens.agree {g : Exempt} {s t : State} (l : Lessens g s t) (a : Agree g s) : Agree g t where
  keys i j x y hx hy hi ht := by
    obtain ⟨x', hx', vx⟩ := l.origin hx
    obtain ⟨y', hy', vy⟩ := l.origin hy
    obtain ⟨ix, tx, -⟩ := Slot.view_eq vx
    obtain ⟨iy, ty, -⟩ := Slot.view_eq vy
    exact a.keys i j x' y' hx' hy' (by rw [← ix, ← iy, hi]) (by rw [← tx, ← ty, ht])
  queueNodup p := (a.queueNodup p).sublist (l.queue p)
  queue p q hq := by
    obtain ⟨x, w, hx, hs, hw, hp⟩ := a.queue p q ((l.queue p).subset hq)
    obtain ⟨y, hy, view⟩ := l.referred hx fun n => n.queue p hq
    obtain ⟨-, -, vw, -, vs, -⟩ := Slot.view_eq view
    exact ⟨y, w, hy, vs.trans hs, vw.trans hw, hp⟩
  lineNodup := a.lineNodup.sublist l.lineQueue
  lineQueue q hq := by
    obtain ⟨x, w, hx, hs, hw⟩ := a.lineQueue q (l.lineQueue.subset hq)
    obtain ⟨y, hy, view⟩ := l.referred hx fun n => n.lineQueue hq
    obtain ⟨-, -, vw, -, vs, -⟩ := Slot.view_eq view
    exact ⟨y, w, hy, vs.trans hs, vw.trans hw⟩
  current p cur hp hc := by
    obtain ⟨old, hold, same⟩ := l.current p cur hc
    obtain ⟨x, w, hx, hs, hw, hpw⟩ := a.current p old hp hold
    rw [← same] at hx
    obtain ⟨y, hy, view⟩ := l.referred hx fun n => n.current p cur hp hc rfl
    obtain ⟨-, -, vw, -, vs, -⟩ := Slot.view_eq view
    exact ⟨y, w, hy, vs.trans hs, vw.trans hw, hpw⟩
  lineOp he op i ho hi := by
    rcases l.lineOp op ho with kept | poll
    · obtain ⟨x, w, hx, hs, hw⟩ := a.lineOp he op i kept hi
      obtain ⟨y, hy, view⟩ := l.referred hx fun n => n.lineOp he op ho hi
      obtain ⟨-, -, vw, -, vs, -⟩ := Slot.view_eq view
      exact ⟨y, w, hy, vs.trans hs, vw.trans hw⟩
    · simp [poll] at hi
  retires r hr := by
    obtain ⟨i, x, op, hx, hi, ht, hs, hw⟩ := a.retires r (l.retires.subset hr)
    obtain ⟨y, hy, view⟩ := l.referred hx fun n => n.retires r hr ⟨hi.symm, ht.symm⟩
    obtain ⟨vi, vt, vw, -, vs, -⟩ := Slot.view_eq view
    exact ⟨i, y, op, hy, vi.trans hi, vt.trans ht, vs.trans hs, vw.trans hw⟩
  retireKeys r q hr hq := a.retireKeys r q (l.retires.subset hr) (l.retires.subset hq)
  held i y hi hy := by
    obtain ⟨x, hx, view⟩ := l.origin hy
    obtain ⟨vi, vt, vw, -, vs, -⟩ := Slot.view_eq view
    obtain ⟨hs, hw, hr⟩ := a.held i x hi hx
    rw [vs, vw, vi, vt]
    exact ⟨hs, hw, fun r h => hr r (l.retires.subset h)⟩

/-! ### Acceptance order -/

/-- Acceptance order outlasts the end of slots and of queue entries. -/
theorem OrderOk.lessen {s t : State} (o : OrderOk s)
    (rows : ∀ i y, row t.slots i = some y → ∃ x, row s.slots i = some x ∧ y.sequence = x.sequence)
    (counter : t.acceptCounter = s.acceptCounter)
    (queue : ∀ p, (row t.ports p).queue.Sublist (row s.ports p).queue) (line : t.line.queue.Sublist s.line.queue) :
    OrderOk t := by
  obtain ⟨distinct, ports, lineOrder⟩ := o
  have ordered {q q' : List SlotId} (sub : q'.Sublist q) (h : Ordered s q) : Ordered t q' := by
    refine (List.Pairwise.sublist sub h).imp fun {i j} before x y hx hy => ?_
    obtain ⟨x', hx', ex⟩ := rows i x hx
    obtain ⟨y', hy', ey⟩ := rows j y hy
    rw [counter, ex, ey]
    exact before x' y' hx' hy'
  refine ⟨fun i j x y hx hy same => ?_, fun p => ordered (queue p) (ports p), ordered line lineOrder⟩
  obtain ⟨x', hx', ex⟩ := rows i x hx
  obtain ⟨y', hy', ey⟩ := rows j y hy
  exact distinct i j x' y' hx' hy' (by rw [← ex, ← ey, same])

theorem Lessens.order {g : Exempt} {s t : State} (l : Lessens g s t) (counter : t.acceptCounter = s.acceptCounter)
    (o : OrderOk s) : OrderOk t :=
  o.lessen (fun i y h => by
    obtain ⟨x, hx, view⟩ := l.origin h
    exact ⟨x, hx, (Slot.view_eq view).2.2.2.2.2⟩) counter l.queue l.lineQueue

end Sys2Proof.Machine
end

section
/-! PROOFS. What one step keeps, part 2: the relation `Keeps`, and the updates of the state that leave the requests in the part as
they are. -/

namespace Sys2Proof.Machine

-- one proof at a time: the text is compiled whole, in one process whose threads share its memory limit
set_option Elab.async false

/-! ### Invariants that read one block -/

theorem RegionMapOk.congr {s t : State} (h : t.regions = s.regions) (ok : RegionMapOk s) : RegionMapOk t := by
  rwa [RegionMapOk, h]

theorem ManagersOk.congr {s t : State} (h : t.management.managers = s.management.managers) (ok : ManagersOk s) :
    ManagersOk t := by rwa [ManagersOk, h]

theorem StationsOk.congr {s t : State} (h : t.stations = s.stations) (ok : StationsOk s) : StationsOk t := by
  rwa [StationsOk, h]

theorem PortsOk.congr {s t : State} (h : t.ports = s.ports) (ok : PortsOk s) : PortsOk t := by rwa [PortsOk, h]

theorem ChainsOk.congr {s t : State} (h : t.chains = s.chains) (ok : ChainsOk s) : ChainsOk t := by rwa [ChainsOk, h]

theorem EventsOk.congr {s t : State} (events : t.events = s.events) (stations : t.stations = s.stations) (ok : EventsOk s) :
    EventsOk t := by
  rwa [EventsOk, inFlightMessage, events, stations]

theorem LinkOk.congr {k l : LinkUnit} (h : l = k) (ok : LinkOk k) : LinkOk l := h ▸ ok

/-- The slot table is as sound as it was when every slot keeps its key, its work's kind and its state, or at most its answer. -/
theorem SlotTableOk.congr {s t : State} (slots : t.slots = s.slots)
    (occupancy : ∀ k, (row t.initiators k).occupancy = (row s.initiators k).occupancy) (ok : SlotTableOk s) :
    SlotTableOk t := by
  have same (k : Initiator) : slotsOf t k = slotsOf s k := by rw [slotsOf, slotsOf, slots]
  rw [SlotTableOk, slots]
  obtain ⟨keys, counts, rest⟩ := ok
  exact ⟨keys, fun k => by rw [same, occupancy, counts], rest⟩

/-! ### The relation -/

/-- The invariants that an operation keeps whatever the queues hold. -/
structure Sound (s t : State) : Prop where
  regions : RegionMapOk s → RegionMapOk t := by exact RegionMapOk.congr rfl
  managers : ManagersOk s → ManagersOk t := by exact ManagersOk.congr rfl
  stations : StationsOk s → StationsOk t := by exact StationsOk.congr rfl
  ports : PortsOk s → PortsOk t := by exact PortsOk.congr rfl
  chains : ChainsOk s → ChainsOk t := by exact ChainsOk.congr rfl
  events : EventsOk s → EventsOk t := by exact EventsOk.congr rfl rfl
  link : LinkOk s.link → LinkOk t.link := by exact LinkOk.congr rfl
  table : SlotTableOk s → SlotTableOk t := by exact SlotTableOk.congr rfl fun _ => rfl

theorem Sound.refl (s : State) : Sound s s where

theorem Sound.trans {s t u : State} (st : Sound s t) (tu : Sound t u) : Sound s u where
  regions := tu.regions ∘ st.regions
  managers := tu.managers ∘ st.managers
  stations := tu.stations ∘ st.stations
  ports := tu.ports ∘ st.ports
  chains := tu.chains ∘ st.chains
  events := tu.events ∘ st.events
  link := tu.link ∘ st.link
  table := tu.table ∘ st.table

/-- What an operation keeps in an event: the invariants of `Sound`; if the queues agreed with the slots at the event's beginning (`A`),
also the agreement but for `g`, the in-flight counts and the member lists; and the order of acceptance if besides no slot was too old
then (`B`). -/
structure Keeps (A B : Prop) (g : Exempt) (s t : State) : Prop extends Sound s t where
  queues : A → Agree g t
  refs : A → ReferencesOk s → ReferencesOk t
  members : A → MemberListsOk s → MemberListsOk t
  order : A → B → OrderOk s → OrderOk t

theorem Keeps.refl {A B : Prop} {g : Exempt} {s : State} (q : A → Agree g s) : Keeps A B g s s where
  queues := q
  refs _ := id
  members _ := id
  order _ _ := id

theorem Keeps.trans {A B : Prop} {g g' : Exempt} {s t u : State} (st : Keeps A B g s t) (tu : Keeps A B g' t u) :
    Keeps A B g' s u where
  toSound := st.toSound.trans tu.toSound
  queues := tu.queues
  refs a := tu.refs a ∘ st.refs a
  members a := tu.members a ∘ st.members a
  order a b := tu.order a b ∘ st.order a b

/-! ### Counting -/

theorem countP_add_of_eq_off {α : Type} [DecidableEq α] (i : α) (f g : α → Bool) (off : ∀ j, j ≠ i → g j = f j) (l : List α)
    (nodup : l.Nodup) (mem : i ∈ l) : l.countP g + (f i).toNat = l.countP f + (g i).toNat := by
  obtain ⟨before, after, rfl⟩ := List.append_of_mem mem
  obtain ⟨-, tail, apart⟩ := List.nodup_append.mp nodup
  have hb : before.countP g = before.countP f :=
    List.countP_congr fun j hj => by rw [off j (apart j hj i (by simp))]
  have ha : after.countP g = after.countP f :=
    List.countP_congr fun j hj => by rw [off j (by rintro rfl; exact (List.nodup_cons.mp tail).1 hj)]
  simp only [List.countP_append, List.countP_cons, hb, ha]
  cases f i <;> cases g i <;> simp <;> omega

theorem countP_finRange_add {n : Nat} (i : Fin n) (f g : Fin n → Bool) (off : ∀ j, j ≠ i → g j = f j) :
    (List.finRange n).countP g + (f i).toNat = (List.finRange n).countP f + (g i).toNat :=
  countP_add_of_eq_off i f g off _ (List.nodup_finRange n) (List.mem_finRange i)

/-! ### In-flight counts -/

/-- What the in-flight counts read of a lock record. -/
def LockRecord.claim (l : LockRecord) : Initiator × EntryId := (l.owner, l.entry)

/-- Whether an entry is the one that is named. -/
def oneFor (named : Option EntryId) (e : EntryId) : Nat := if named = some e then 1 else 0

/-- The count that an entry holds, 0 while it is ABSENT. -/
def countOf (s : State) (e : EntryId) : Nat :=
  match row s.regions e with
  | some r => r.inFlight
  | none => 0

/-- The in-flight counts are sound but for a reference that has gone already, and one that has come already. -/
structure RefsOff (gone come : Option EntryId) (s : State) : Prop where
  counts : ∀ e, references s e + oneFor gone e = countOf s e + oneFor come e
  draining : ∀ e r, row s.regions e = some r → r.phase = .draining → 0 < r.inFlight
  retires : ∀ e, (∃ r, row s.regions e = some r ∧ r.phase = .draining) ↔ ∃ q, q ∈ s.management.retires ∧ q.entry = e
  lockReads : LockReadsOk s

@[simp] theorem oneFor_none (e : EntryId) : oneFor none e = 0 := rfl

theorem refsOff_none_iff (s : State) : RefsOff none none s ↔ ReferencesOk s := by
  constructor
  · rintro ⟨counts, draining, retires, lockReads⟩
    exact ⟨fun e => (counts e : references s e + 0 = countOf s e + 0), draining, retires, lockReads⟩
  · rintro ⟨counts, draining, retires, lockReads⟩
    exact ⟨fun e => (counts e : references s e = countOf s e), draining, retires, lockReads⟩

/-- Claims on locks outlast the end of slots and lock records, and an issue of their slots. -/
theorem LockReadsOk.lessen {s t : State} (ok : LockReadsOk s)
    (rows : ∀ i y, row t.slots i = some y → ∃ x, row s.slots i = some x ∧ y.work = x.work ∧ y.initiator = x.initiator ∧
      (x.state = .active → y.state = .active))
    (locks : ∀ p l, (row t.ports p).lock = some l → ∃ k, (row s.ports p).lock = some k ∧ l.owner = k.owner) :
    LockReadsOk t := by
  obtain ⟨single, owned⟩ := ok
  refine ⟨fun i j x y v w hx hy hv hw kv kw port same => ?_, fun p l i x w hl hx hw kw port same => ?_⟩
  · obtain ⟨x', hx', wx, ix, -⟩ := rows i x hx
    obtain ⟨y', hy', wy, iy, -⟩ := rows j y hy
    exact single i j x' y' v w hx' hy' (wx ▸ hv) (wy ▸ hw) kv kw port (by rw [← ix, ← iy, same])
  · obtain ⟨x', hx', wx, ix, sx⟩ := rows i x hx
    obtain ⟨k, hk, owner⟩ := locks p l hl
    exact sx (owned p k i x' w hk hx' (wx ▸ hw) kw port (by rw [← ix, same, owner]))

/-! ### Member lists -/

theorem mem_tail_of_sublist {α : Type} {l' l : List α} (h : l'.Sublist l) {i : α} (hi : i ∈ l'.tail) : i ∈ l.tail := by
  cases h with
  | slnil => exact hi
  | cons a sub => exact sub.subset (List.mem_of_mem_tail hi)
  | cons_cons a sub => exact sub.subset hi

/-- Member lists outlast the end of entries, as long as the slots that they still hold are as they were, and still WAITING but for
the head. -/
theorem MemberListsOk.lessen {s t : State} (ok : MemberListsOk s)
    (members : ∀ k, (row t.chains k).members.Sublist (row s.chains k).members)
    (rows : ∀ k i x, i ∈ (row t.chains k).members → row s.slots i = some x → ∃ y, row t.slots i = some y ∧
      y.initiator = x.initiator ∧ y.role = x.role ∧ y.work = x.work ∧ (i ∈ (row t.chains k).members.tail → y.state = x.state)) :
    MemberListsOk t := by
  intro k
  obtain ⟨nodup, occupied, waiting⟩ := ok k
  refine ⟨nodup.sublist (members k), fun i hi => ?_, fun i hi => ?_⟩
  · obtain ⟨x, hx, own, role, work⟩ := occupied i ((members k).subset hi)
    obtain ⟨y, hy, ey, er, ew, -⟩ := rows k i x hi hx
    exact ⟨y, hy, ey.trans own, by rwa [er], by rwa [ew]⟩
  · obtain ⟨x, hx, hs⟩ := waiting i (mem_tail_of_sublist (members k) hi)
    obtain ⟨y, hy, -, -, -, es⟩ := rows k i x (List.mem_of_mem_tail hi) hx
    exact ⟨y, hy, (es hi).trans hs⟩

/-! ### Updates that leave the requests in the part as they are -/

/-- What the requests in the part are: slots but for the fields of their own service, queues, services, lock claims, counts, member
lists and pending retires. A service may have ended. -/
structure SameRequests (s t : State) : Prop where
  rows : ∀ i, (row t.slots i).map Slot.view = (row s.slots i).map Slot.view := by exact fun _ => rfl
  queue : ∀ p, (row t.ports p).queue = (row s.ports p).queue := by exact fun _ => rfl
  lock : ∀ p, (row t.ports p).lock.map LockRecord.claim = (row s.ports p).lock.map LockRecord.claim := by exact fun _ => rfl
  current : ∀ p cur, (row t.ports p).state = .issued cur →
    ∃ old, (row s.ports p).state = .issued old ∧ cur.slot = old.slot := by exact fun _ cur h => ⟨cur, h, rfl⟩
  lineQueue : t.line.queue = s.line.queue := by rfl
  lineOp : ∀ op, t.line.op = some op → s.line.op = some op ∨ op.origin = .poll := by exact fun _ h => .inl h
  retires : t.management.retires = s.management.retires := by rfl
  members : ∀ k, (row t.chains k).members = (row s.chains k).members := by exact fun _ => rfl
  regions : t.regions = s.regions := by rfl
  counter : t.acceptCounter = s.acceptCounter := by rfl

theorem SameRequests.of_eq {s t : State} (slots : t.slots = s.slots) (ports : t.ports = s.ports) (line : t.line = s.line)
    (retires : t.management.retires = s.management.retires) (chains : t.chains = s.chains) (regions : t.regions = s.regions)
    (counter : t.acceptCounter = s.acceptCounter) : SameRequests s t where
  rows _ := by rw [slots]
  queue _ := by rw [ports]
  lock _ := by rw [ports]
  current p cur h := ⟨cur, by rwa [ports] at h, rfl⟩
  lineQueue := by rw [line]
  lineOp op h := .inl (by rwa [line] at h)
  retires := retires
  members _ := by rw [chains]
  regions := regions
  counter := counter

theorem SameRequests.row_some {s t : State} (same : SameRequests s t) {i : SlotId} {x : Slot} (h : row s.slots i = some x) :
    ∃ y, row t.slots i = some y ∧ y.view = x.view := by
  have := same.rows i
  rw [h] at this
  simpa using this

theorem SameRequests.row_origin {s t : State} (same : SameRequests s t) {i : SlotId} {y : Slot} (h : row t.slots i = some y) :
    ∃ x, row s.slots i = some x ∧ y.view = x.view := by
  have := (same.rows i).symm
  rw [h] at this
  obtain ⟨x, hx, view⟩ : ∃ x, row s.slots i = some x ∧ x.view = y.view := by simpa using this
  exact ⟨x, hx, view.symm⟩

theorem SameRequests.lessens {s t : State} (same : SameRequests s t) (g : Exempt) : Lessens g s t where
  rows _ _ h := .inl (same.row_some h)
  free i h := by simpa [h] using same.rows i
  queue p := by rw [same.queue]
  lineQueue := by rw [same.lineQueue]
  current := same.current
  lineOp := same.lineOp
  retires := by rw [same.retires]

theorem SameRequests.lock_some {s t : State} (same : SameRequests s t) {p : PortId} {l : LockRecord}
    (h : (row t.ports p).lock = some l) : ∃ k, (row s.ports p).lock = some k ∧ l.owner = k.owner := by
  have := (same.lock p).symm
  rw [h] at this
  obtain ⟨k, hk, claim⟩ : ∃ k, (row s.ports p).lock = some k ∧ k.claim = l.claim := by simpa using this
  exact ⟨k, hk, (congrArg Prod.fst claim).symm⟩

theorem any_of_map_eq {α β : Type} {f : α → β} {a b : Option α} {P : α → Bool} (P' : β → Bool) (h : a.map f = b.map f)
    (hP : ∀ x, P x = P' (f x)) : a.any P = b.any P := by
  cases a <;> cases b <;> simp_all

theorem SameRequests.references {s t : State} (same : SameRequests s t) (e : EntryId) : references t e = references s e := by
  unfold Machine.references
  congr 1
  · refine congrArg (List.countP · _) (funext fun i => ?_)
    exact any_of_map_eq (fun x => decide (workEntry x.work = some e)) (same.rows i) fun _ => rfl
  · refine congrArg (List.countP · _) (funext fun p => ?_)
    exact any_of_map_eq (fun c => decide (c.2 = e)) (same.lock p) fun _ => rfl

theorem SameRequests.refsOff {s t : State} (same : SameRequests s t) {gone come : Option EntryId} (ok : RefsOff gone come s) :
    RefsOff gone come t where
  counts e := by rw [same.references, countOf, same.regions]; exact ok.counts e
  draining := by rw [same.regions]; exact ok.draining
  retires := by rw [same.regions, same.retires]; exact ok.retires
  lockReads := ok.lockReads.lessen
    (fun i y h => by
      obtain ⟨x, hx, view⟩ := same.row_origin h
      obtain ⟨vi, -, vw, -, vs, -⟩ := Slot.view_eq view
      exact ⟨x, hx, vw, vi, fun a => vs.trans a⟩)
    fun p l h => same.lock_some h

theorem SameRequests.memberLists {s t : State} (same : SameRequests s t) (ok : MemberListsOk s) : MemberListsOk t :=
  ok.lessen (fun k => by rw [same.members]) fun k i x _ h => by
    obtain ⟨y, hy, view⟩ := same.row_some h
    obtain ⟨vi, -, vw, vr, vs, -⟩ := Slot.view_eq view
    exact ⟨y, hy, vi, vr, vw, fun _ => vs⟩

/-- The in-flight counts read the slots, the lock records' claims, the entries and the pending retires alone. -/
theorem ReferencesOk.of_claims {s t : State} (ok : ReferencesOk s) (slots : t.slots = s.slots) (regions : t.regions = s.regions)
    (retires : t.management.retires = s.management.retires)
    (locks : ∀ p, (row t.ports p).lock.map LockRecord.claim = (row s.ports p).lock.map LockRecord.claim) : ReferencesOk t := by
  obtain ⟨counts, draining, drains, lockReads⟩ := ok
  refine ⟨fun e => ?_, by rwa [regions], by rwa [regions, retires], lockReads.lessen (fun i x hx => ?_) fun p l hl => ?_⟩
  · have same : references t e = references s e := by
      unfold references
      rw [slots]
      refine congrArg (_ + List.countP · _) (funext fun p => ?_)
      exact any_of_map_eq (fun c => decide (c.2 = e)) (locks p) fun _ => rfl
    rw [same, regions]
    exact counts e
  · exact ⟨x, by rwa [slots] at hx, rfl, rfl, id⟩
  · have claim := (locks p).symm
    rw [hl] at claim
    obtain ⟨k, hk, same⟩ : ∃ k, (row s.ports p).lock = some k ∧ k.claim = l.claim := by simpa using claim
    exact ⟨k, hk, (congrArg Prod.fst same).symm⟩

/-- An operation that leaves the requests as they are keeps what depends on them. -/
theorem Sound.keeps {A B : Prop} {g : Exempt} {s t : State} (sound : Sound s t) (same : SameRequests s t)
    (q : A → Agree g s) : Keeps A B g s t where
  toSound := sound
  queues a := (same.lessens g).agree (q a)
  refs _ h := (refsOff_none_iff t).mp (same.refsOff ((refsOff_none_iff s).mpr h))
  members _ := same.memberLists
  order _ _ := (same.lessens g).order same.counter

end Sys2Proof.Machine
end

section
/-! PROOFS. What one step keeps, part 3: the link interface, the event unit and the stations. -/

namespace Sys2Proof.Machine

-- one proof at a time: the text is compiled whole, in one process whose threads share its memory limit
set_option Elab.async false

section
variable {A B : Prop} {g : Exempt} {s : State}

/-! ### The link interface (R155, R157, R159) -/

theorem LinkOk.beginFrame {l : LinkUnit} (ok : LinkOk l) : LinkOk (beginFrame l) := by
  obtain ⟨down, silent, few, head⟩ := ok
  unfold Machine.beginFrame
  split
  · next m later idle waiting =>
    split
    · exact ⟨down, silent, few, head⟩
    · refine ⟨fun h => by simp [down h] at waiting, silent, few, fun f h => ?_⟩
      exact ⟨m, later, _, waiting, (Option.some.inj h).symm⟩
  · exact ⟨down, silent, few, head⟩

theorem LinkOk.enqueue {l : LinkUnit} (ok : LinkOk l) (m : Message) : LinkOk (enqueue l m) := by
  unfold Machine.enqueue
  split
  · exact ok
  · next up =>
    obtain ⟨-, silent, few, head⟩ := ok
    refine LinkOk.beginFrame ⟨fun h => by simp [up] at h, silent, few, fun f h => ?_⟩
    obtain ⟨m', later, free, out, frame⟩ := head f h
    exact ⟨m', later ++ [m], free, by simp [out], frame⟩

theorem setLink_keeps (q : A → Agree g s) {l : LinkUnit} (h : LinkOk s.link → LinkOk l) : Keeps A B g s (s.setLink l) :=
  Sound.keeps { link := h } {} q

theorem handOver_keeps (q : A → Agree g s) (m : Message) : Keeps A B g s (handOver m s) :=
  setLink_keeps q fun ok => ok.enqueue m

theorem answerKey_keeps (q : A → Agree g s) (k : Initiator) (t : Tag) (a : Answer) (sm : Option Summary) :
    Keeps A B g s (answerKey k t a sm s) := handOver_keeps q _

theorem handNotice_keeps (q : A → Agree g s) : Keeps A B g s (handNotice s) := handOver_keeps q _

/-- A change of the link interface that leaves what is sent and received as it is. -/
theorem LinkOk.of_quiet {k l : LinkUnit} (ok : LinkOk k) (state : l.state = k.state) (signal : l.signal = k.signal)
    (framing : l.framing = k.framing) (rx : l.rx = k.rx) (outbound : l.outbound = k.outbound)
    (sending : l.sending = k.sending) : LinkOk l := by
  rwa [LinkOk, state, signal, framing, rx, outbound, sending]

theorem raiseResetCount_keeps (q : A → Agree g s) : Keeps A B g s (raiseResetCount s) :=
  setLink_keeps q fun ok => ok.of_quiet rfl rfl rfl rfl rfl rfl

/-! ### Incidents (R124) -/

/-- A message in flight stays sound when no incident's count falls. -/
theorem MessageOk.mono {e f : EventUnit} {m : EventMessage} (ok : MessageOk e m) (sequence : f.sequence = e.sequence)
    (counts : ∀ k, (row e.incidents k).count ≤ (row f.incidents k).count) : MessageOk f m := by
  obtain ⟨number, carried⟩ := ok
  refine ⟨number.trans sequence.symm, ?_⟩
  revert carried
  cases m.source <;> cases m.payload <;> simp only [imp_self]
  exact fun le => le.trans (counts _)

theorem DeliveryOk.mono {e f : EventUnit} (ok : DeliveryOk e) (delivery : f.delivery = e.delivery)
    (timer : f.ackTimer = e.ackTimer) (resends : f.resends = e.resends) (sequence : f.sequence = e.sequence)
    (counts : ∀ k, (row e.incidents k).count ≤ (row f.incidents k).count) : DeliveryOk f := by
  unfold DeliveryOk at ok ⊢
  rw [delivery, timer, resends]
  split at ok
  · exact ok
  · exact ⟨ok.1, ok.2.1, ok.2.2.mono sequence counts⟩
  · exact ⟨ok.1, ok.2.1, ok.2.2.mono sequence counts⟩

theorem raised_count (r : Incident) (d : Option Detail) (h : r.count ≤ 65535) :
    r.count ≤ (raised r d).count ∧ (raised r d).count ≤ 65535 := by
  unfold raised
  dsimp only
  split
  · next below => simp only [Config.maxIncidentCount] at below; omega
  · exact ⟨le_rfl, h⟩

theorem EventsOk.raiseIncident (ok : EventsOk s) (k : IncidentKind) (d : Option Detail) : EventsOk (raiseIncident k d s) := by
  obtain ⟨counts, delivery, copies⟩ := ok
  have grown (j : Fin 8) :=
    raised_count (row s.events.incidents j) d (counts j).2
  refine ⟨fun j => ?_, delivery.mono rfl rfl rfl rfl fun j => ?_, copies⟩
  · simp only [Machine.raiseIncident, State.setEvents_events, row_putRow]
    split
    · next e => subst e; exact ⟨(counts _).1.trans (grown _).1, (grown _).2⟩
    · exact counts j
  · simp only [Machine.raiseIncident, State.setEvents_events, row_putRow]
    split
    · next e => subst e; exact (grown _).1
    · exact le_rfl

theorem raiseIncident_keeps (q : A → Agree g s) (k : IncidentKind) (d : Option Detail) :
    Keeps A B g s (raiseIncident k d s) :=
  Sound.keeps { events := fun ok => ok.raiseIncident k d } {} q

/-! ### Selection (R128, R129) -/

theorem preferSource_eligible {best : Option Source} {src chosen : Source} (h : preferSource s best src = some chosen)
    (ok : ∀ b, best = some b → sourceEligible s b = true) : sourceEligible s chosen = true := by
  unfold preferSource at h
  split at h
  · next e =>
    cases best with
    | none => cases h; exact e
    | some b =>
      simp only at h
      split at h <;> cases h
      · exact e
      · exact ok _ rfl
  · exact ok _ h

theorem foldl_preferSource_eligible (l : List Source) {best : Option Source} {chosen : Source}
    (ok : ∀ b, best = some b → sourceEligible s b = true) (h : l.foldl (preferSource s) best = some chosen) :
    sourceEligible s chosen = true := by
  induction l generalizing best with
  | nil => exact ok _ h
  | cons src rest ih => exact ih (fun b hb => preferSource_eligible hb ok) h

/-- Selection chooses an eligible source only (R128). -/
theorem chosenSource_eligible {src : Source} (h : chosenSource s = some src) : sourceEligible s src = true :=
  foldl_preferSource_eligible allSources (by simp) h

/-- A station that is eligible has something latched, so it is not DISABLED (R107, R126). -/
theorem StationOk.setDelivered {st : Station} (ok : StationOk st) (pending : undelivered st ≠ 0) :
    StationOk { st with delivered := some st.latched } := by
  obtain ⟨watched, image, latched, copy, count, absent, disabled⟩ := ok
  refine ⟨watched, image, latched, fun c h => ?_, count, absent, fun h => ?_⟩
  · cases h; simp
  · simp [undelivered, disabled h] at pending

theorem StationsOk.setStation (ok : StationsOk s) {n : StationId} {x : Station} (h : StationOk x) :
    StationsOk (s.setStation n x) := by
  intro m
  rw [State.setStation_stations, row_putRow]
  split
  · exact h
  · exact ok m

/-- The message that is built is sound against the records it is built from, and the copy it makes is its own (R129). -/
theorem EventsOk.buildMessage (ok : EventsOk s) (idle : s.events.delivery = .idle) (src : Source) :
    EventsOk (copyForSource src (s.setEvents (eventsAfterBuild s.events (builtMessage s src)))) := by
  obtain ⟨counts, delivery, copies⟩ := ok
  refine ⟨by simpa [eventsAfterBuild] using counts, ?_, fun n h => ?_⟩
  · simp only [copyForSource_frame]
    refine ⟨by simp [eventsAfterBuild], by simp [eventsAfterBuild], rfl, ?_⟩
    cases src <;> simp [builtMessage, payloadOf, eventsAfterBuild]
  · refine ⟨builtMessage s src, by simp [inFlightMessage, eventsAfterBuild], ?_⟩
    have none_yet : ∀ m : StationId, (row s.stations m).delivered.isSome = true → False := by
      intro m hm
      obtain ⟨e, he, -⟩ := copies m hm
      simp [inFlightMessage, idle] at he
    cases src with
    | incident k => exact (none_yet n h).elim
    | station m =>
      by_cases e : n = m
      · rw [e]; rfl
      · refine (none_yet n ?_).elim
        simpa [copyForSource, Machine.setDelivered, row_putRow_ne _ _ _ _ e] using h

theorem buildMessage_keeps (q : A → Agree g s) {src : Source} (idle : s.events.delivery = .idle)
    (eligible : sourceEligible s src = true) : Keeps A B g s (buildMessage src s) := by
  have built : Keeps A B g s (copyForSource src (s.setEvents (eventsAfterBuild s.events (builtMessage s src)))) := by
    have copied (ok : StationsOk s) : StationsOk (copyForSource src (s.setEvents (eventsAfterBuild s.events (builtMessage s src)))) := by
      cases src with
      | incident k => exact ok
      | station n =>
        refine StationsOk.setStation (s := s.setEvents _) ok ((ok n).setDelivered ?_)
        simp only [sourceEligible, sourcePending, Bool.and_eq_true, bne_iff_ne] at eligible
        exact eligible.1
    cases src
    · exact Sound.keeps { events := fun ok => ok.buildMessage idle _, stations := copied } {} q
    · exact Sound.keeps { events := fun ok => ok.buildMessage idle _, stations := copied } {} q
  exact built.trans (handOver_keeps built.queues _)

theorem selectEvent_keeps (q : A → Agree g s) : Keeps A B g s (selectEvent s) := by
  unfold selectEvent
  split
  · next isOpen =>
    split
    · next src chosen =>
      exact buildMessage_keeps q (by simp only [selectionOpen, Bool.and_eq_true, decide_eq_true_eq] at isOpen; exact isOpen.1.1)
        (chosenSource_eligible chosen)
    · exact .refl q
  · exact .refl q

/-! ### The message in flight leaves (R131, R133) -/

/-- Once the copy of the message in flight is gone, no copy is left, and the delivery state is IDLE. -/
theorem EventsOk.idle {t : State} {m : EventMessage} (ok : EventsOk s) (flying : inFlightMessage s = some m)
    (counts : ∀ k, (row t.events.incidents k).acknowledged ≤ (row t.events.incidents k).count ∧
      (row t.events.incidents k).count ≤ 65535)
    (delivery : t.events.delivery = .idle) (timer : t.events.ackTimer = .stopped) (resends : t.events.resends = 0)
    (copies : ∀ n, (row t.stations n).delivered.isSome = true →
      m.source ≠ .station n ∧ (row s.stations n).delivered.isSome = true) : EventsOk t := by
  refine ⟨counts, ?_, fun n h => ?_⟩
  · unfold DeliveryOk; rw [delivery]; exact ⟨timer, resends⟩
  · obtain ⟨other, old⟩ := copies n h
    obtain ⟨m', flying', source⟩ := ok.2.2 n old
    rw [flying] at flying'; cases flying'
    exact absurd source other

theorem StationOk.dropCopy {st : Station} (ok : StationOk st) : StationOk { st with delivered := none } := by
  obtain ⟨watched, image, latched, copy, count, absent, disabled⟩ := ok
  exact ⟨watched, image, latched, by simp, count, absent, fun h => ⟨(disabled h).1, (disabled h).2.1, (disabled h).2.2.1, rfl⟩⟩

theorem withdrawMessage_keeps (q : A → Agree g s) : Keeps A B g s (withdrawMessage s) := by
  unfold withdrawMessage
  split
  · exact .refl q
  · next m flying =>
    cases source : m.source with
    | incident k =>
      refine Sound.keeps { events := fun ok => ok.idle flying ok.1 rfl rfl rfl fun n h => ⟨by simp [source], h⟩ } {} q
    | station n =>
      refine Sound.keeps
        { stations := fun ok => StationsOk.setStation (s := s.setEvents _) ok (ok n).dropCopy,
          events := fun ok => ok.idle flying ok.1 rfl rfl rfl fun n' h => ?_ } {} q
      simp only [dropCopy, setDelivered, State.setStation_stations, State.setEvents_stations, row_putRow] at h
      split at h
      · simp at h
      · next ne => exact ⟨by simpa [source] using Ne.symm ne, h⟩

theorem StationOk.clearCarried {st : Station} (ok : StationOk st) :
    StationOk { st with latched := st.latched &&& ~~~ st.delivered.getD 0, delivered := none } := by
  obtain ⟨watched, image, latched, copy, count, absent, disabled⟩ := ok
  refine ⟨watched, image, ?_, by simp, count, absent, fun h => ⟨(disabled h).1, (disabled h).2.1, ?_, rfl⟩⟩
  · calc st.latched &&& ~~~ st.delivered.getD 0 &&& ~~~(st.rise ||| st.fall)
        = st.latched &&& ~~~(st.rise ||| st.fall) &&& ~~~ st.delivered.getD 0 := by ac_rfl
      _ = 0 := by rw [latched]; simp
  · simp [(disabled h).2.2.1]

theorem acknowledge_keeps (q : A → Agree g s) {m : EventMessage} (flying : inFlightMessage s = some m) :
    Keeps A B g s (acknowledge m s) := by
  cases source : m.source with
  | station n =>
    have shape : acknowledge m s = (s.setStation n { row s.stations n with
        latched := (row s.stations n).latched &&& ~~~ (row s.stations n).delivered.getD 0, delivered := none }).setEvents
        (eventsIdle s.events) := by
      simp only [acknowledge, clearCarried, source]; rfl
    rw [shape]
    refine Sound.keeps
      { stations := fun ok => StationsOk.setStation ok (ok n).clearCarried,
        events := fun ok => ok.idle flying ok.1 rfl rfl rfl fun n' h => ?_ } {} q
    simp only [State.setEvents_stations, State.setStation_stations, row_putRow] at h
    split at h
    · simp at h
    · next ne => exact ⟨by simpa [source] using Ne.symm ne, h⟩
  | incident k =>
    have shape : acknowledge m s = s.setEvents (eventsIdle { s.events with
        incidents := putRow s.events.incidents (incidentIndex k)
          (acknowledgeIncident (row s.events.incidents (incidentIndex k)) m.payload) }) := by
      simp only [acknowledge, clearCarried, source]; rfl
    rw [shape]
    refine Sound.keeps
      { events := fun ok => ok.idle flying (fun j => ?_) rfl rfl rfl fun n h => ⟨by simp [source], h⟩ } {} q
    have carried : MessageOk s.events m := by
      have delivery := ok.2.1
      unfold DeliveryOk at delivery
      unfold inFlightMessage at flying
      split at delivery <;> simp_all
    obtain ⟨-, carried⟩ := carried
    simp only [State.setEvents_events, eventsIdle, row_putRow]
    split
    · next e =>
      subst e
      cases payload : m.payload with
      | latched set => simpa [acknowledgeIncident] using ok.1 (incidentIndex k)
      | incident count detail =>
        rw [source, payload] at carried
        exact ⟨carried, (ok.1 (incidentIndex k)).2⟩
    · exact ok.1 j

/-! ### Resending (R130, R132) -/

theorem resendMessage_keeps (q : A → Agree g s) {m : EventMessage} {n : Nat} (flying : inFlightMessage s = some m)
    (few : n ≤ 3) : Keeps A B g s (resendMessage m n s) := by
  have resent : Keeps A B g s (s.setEvents { s.events with
      delivery := .awaitAck m, resends := n, ackTimer := .running s.events.ackWindow }) := by
    refine Sound.keeps { events := fun ok => ⟨ok.1, ⟨by simp, few, ?_⟩, fun n' h => ?_⟩ } {} q
    · have delivery := ok.2.1
      unfold DeliveryOk at delivery
      unfold inFlightMessage at flying
      split at delivery <;> simp_all
      · exact delivery.2.2.mono rfl fun _ => le_rfl
      · exact delivery.2.2.mono rfl fun _ => le_rfl
    · obtain ⟨m', flying', source⟩ := ok.2.2 n' h
      rw [flying] at flying'; cases flying'
      exact ⟨m, rfl, source⟩
  exact resent.trans (handOver_keeps resent.queues _)

theorem windowExpiry_keeps (q : A → Agree g s) {m : EventMessage} (waiting : s.events.delivery = .awaitAck m) :
    Keeps A B g s (windowExpiry m s) := by
  have flying : inFlightMessage s = some m := by simp [inFlightMessage, waiting]
  unfold windowExpiry
  split
  · next few => exact resendMessage_keeps q flying (by simp only [Config.maxResends] at few; omega)
  · next many =>
    refine Sound.keeps { events := fun ok => ⟨ok.1, ?_, fun n h => ?_⟩ } {} q
    · have delivery := ok.2.1
      simp only [DeliveryOk, waiting] at delivery
      obtain ⟨-, few, carried⟩ := delivery
      exact ⟨rfl, by simp only [Config.maxResends] at many; simp only [State.setEvents_events]; omega, carried⟩
    · obtain ⟨m', flying', source⟩ := ok.2.2 n h
      rw [flying] at flying'; cases flying'
      exact ⟨m, rfl, source⟩

/-! ### Stations (R107, R108, R115, R119) -/

/-- A station's record is replaced by a sound one, with a delivered copy only where there was one. -/
theorem setStation_keeps (q : A → Agree g s) {n : StationId} {x : Station} (h : StationOk (row s.stations n) → StationOk x)
    (copy : x.delivered.isSome = true → (row s.stations n).delivered.isSome = true) : Keeps A B g s (s.setStation n x) := by
  refine Sound.keeps
    { stations := fun ok => StationsOk.setStation ok (h (ok n)), events := fun ok => ⟨ok.1, ok.2.1, fun m hm => ?_⟩ } {} q
  rw [State.setStation_stations, row_putRow] at hm
  split at hm
  · next e => subst e; exact ok.2.2 _ (copy hm)
  · exact ok.2.2 m hm

theorem StationOk.afterReply {st : Station} (ok : StationOk st) : StationOk (afterReply st) := by
  unfold Machine.afterReply
  split
  · exact ok
  · obtain ⟨watched, image, latched, copy, -⟩ := ok
    exact ⟨watched, image, latched, copy, by simp, by simp, by simp⟩

theorem StationOk.afterRequestReply {st : Station} (ok : StationOk st) (op : LineOp) :
    StationOk (afterRequestReply st op) := by
  unfold Machine.afterRequestReply
  split
  · exact ok
  · next enabled =>
    split
    · exact ok.afterReply
    · obtain ⟨watched, -, latched, copy, -⟩ := ok
      simp only [Machine.afterReply, enabled, if_false]
      exact ⟨watched, by simp [BitVec.and_assoc], latched, copy, by simp, by simp, by simp⟩

theorem edges_watched (st : Station) (last now : Positions) : edges st last now &&& ~~~(st.rise ||| st.fall) = 0 := by
  ext k hk
  simp only [edges, BitVec.getElem_and, BitVec.getElem_or, BitVec.getElem_not]
  cases st.rise[k] <;> cases st.fall[k] <;> simp

theorem StationOk.afterPoll {st : Station} (ok : StationOk st) (pins : Positions) : StationOk (afterPoll st pins) := by
  unfold Machine.afterPoll
  split
  · exact ok
  · next enabled =>
    obtain ⟨watched, image, latched, copy, -⟩ := ok
    simp only [afterPollReply, Machine.afterReply, enabled, if_false]
    split
    · exact ⟨watched, image, latched, copy, by simp, by simp, by simp⟩
    · next last _ =>
      split
      · exact ⟨watched, image, latched, copy, by simp, by simp, by simp⟩
      · refine ⟨watched, image, ?_, fun c h => ?_, by simp, by simp, by simp⟩
        · have edgesIn := edges_watched { st with presence := .present, timeouts := 0 } last (inverted st.inversion pins)
          simp only [BitVec.and_or_distrib_right] at *
          rw [latched, edgesIn]; simp
        · have := copy c h
          simp only [BitVec.not_or]
          rw [← BitVec.and_assoc, this]; simp

theorem StationOk.afterTimeout {st : Station} (ok : StationOk st) : StationOk (afterTimeout st) := by
  unfold Machine.afterTimeout
  obtain ⟨watched, image, latched, copy, count, absent, disabled⟩ := ok
  split
  · exact ⟨watched, image, latched, copy, count, absent, disabled⟩
  · exact ⟨watched, image, latched, copy, count, absent, disabled⟩
  all_goals
    next here =>
    have : st.timeouts ≠ 2 := by simpa [here] using absent
    refine ⟨watched, image, latched, copy, ?_, ?_, ?_⟩
    · simp only; omega
    · dsimp only
      split
      · next two => simp only [Config.lostAfterTimeouts] at two; simp; omega
      · next two => simp only [Config.lostAfterTimeouts] at two; simp; omega
    · dsimp only
      split <;> simp

theorem timeoutStation_keeps (q : A → Agree g s) (n : StationId) : Keeps A B g s (timeoutStation n s) := by
  have counted : Keeps A B g s (s.setStation n (afterTimeout (row s.stations n))) := by
    refine setStation_keeps q (fun ok => ok.afterTimeout) fun h => ?_
    unfold afterTimeout at h
    split at h <;> exact h
  unfold timeoutStation
  dsimp only
  split
  · exact counted.trans (raiseIncident_keeps counted.queues _ _)
  · exact counted

theorem StationOk.withStationSets {st : Station} (ok : StationOk st) {o : StationOperands}
    (watched : (o.rise ||| o.fall) &&& o.direction = 0) : StationOk (withStationSets st o) := by
  obtain ⟨-, image, -, copy, count, absent, disabled⟩ := ok
  refine ⟨watched, ?_, by simp [Machine.withStationSets, BitVec.and_assoc], fun c h => ?_, count, absent, fun h => ?_⟩
  · ext k hk
    have := congrArg (·[k]) image
    simp only [Machine.withStationSets, BitVec.getElem_and, BitVec.getElem_not, BitVec.getElem_xor]
      at this ⊢
    cases hi : st.image[k] <;> cases hd : st.direction[k] <;> cases ho : o.direction[k] <;> simp_all
  · obtain ⟨v, hv, rfl⟩ : ∃ v, st.delivered = some v ∧ v &&& (o.rise ||| o.fall) = c := by
      simpa [Machine.withStationSets] using h
    ext k hk
    have := congrArg (·[k]) (copy v hv)
    simp only [Machine.withStationSets, BitVec.getElem_and, BitVec.getElem_not, BitVec.getElem_or]
      at this ⊢
    cases hv : v[k] <;> cases hl : st.latched[k] <;> cases hr : o.rise[k] <;> cases hf : o.fall[k] <;> simp_all
  · obtain ⟨sample, zero, empty, none⟩ := disabled h
    simp [Machine.withStationSets, sample, zero, empty, none]

theorem StationOk.disabledStation {st : Station} (ok : StationOk st) : StationOk (disabledStation st) := by
  obtain ⟨watched, image, -⟩ := ok
  exact ⟨watched, image, by simp [Machine.disabledStation], by simp [Machine.disabledStation],
    by simp [Machine.disabledStation], by simp [Machine.disabledStation], by simp [Machine.disabledStation]⟩

theorem StationOk.enabledStation {st : Station} (ok : StationOk st) : StationOk (enabledStation st) := by
  unfold Machine.enabledStation
  split
  · obtain ⟨watched, image, latched, copy, -⟩ := ok
    exact ⟨watched, image, latched, copy, by simp, by simp, by simp⟩
  all_goals exact ok

theorem StationOk.afterSetStation {st : Station} (ok : StationOk st) (enable : Bool) {o : StationOperands}
    (watched : (o.rise ||| o.fall) &&& o.direction = 0) : StationOk (afterSetStation st enable o) := by
  unfold Machine.afterSetStation
  split
  · exact (ok.withStationSets watched).enabledStation
  · exact (ok.withStationSets watched).disabledStation

theorem afterSetStation_copy (st : Station) (enable : Bool) (o : StationOperands)
    (h : (afterSetStation st enable o).delivered.isSome = true) : st.delivered.isSome = true := by
  unfold afterSetStation at h
  split at h
  · unfold enabledStation at h
    split at h <;> simpa [withStationSets] using h
  · simp [disabledStation] at h

/-! ### Claims on the event unit (R123, R133, R150, R152) -/

theorem clearIncident_keeps (q : A → Agree g s) (k : IncidentKind) : Keeps A B g s (clearIncident k s) := by
  have cleared_counts (ok : EventsOk s) (j : Fin 8) :
      (row (putRow s.events.incidents (incidentIndex k)
        { row s.events.incidents (incidentIndex k) with count := 0, acknowledged := 0 }) j).acknowledged ≤
      (row (putRow s.events.incidents (incidentIndex k)
        { row s.events.incidents (incidentIndex k) with count := 0, acknowledged := 0 }) j).count ∧
      (row (putRow s.events.incidents (incidentIndex k)
        { row s.events.incidents (incidentIndex k) with count := 0, acknowledged := 0 }) j).count ≤ 65535 := by
    rw [row_putRow]
    split
    · simp
    · exact ok.1 j
  unfold clearIncident
  dsimp only
  split
  · next own =>
    cases flying : inFlightMessage s with
    | none => simp [flying] at own
    | some m =>
      have source : m.source = .incident k := by simpa [flying] using own
      have shape : withdrawMessage (s.setEvents { s.events with
            incidents := putRow s.events.incidents (incidentIndex k)
              { row s.events.incidents (incidentIndex k) with count := 0, acknowledged := 0 } }) =
          s.setEvents (eventsIdle { s.events with
            incidents := putRow s.events.incidents (incidentIndex k)
              { row s.events.incidents (incidentIndex k) with count := 0, acknowledged := 0 } }) := by
        have flying' : inFlightMessage (s.setEvents { s.events with
            incidents := putRow s.events.incidents (incidentIndex k)
              { row s.events.incidents (incidentIndex k) with count := 0, acknowledged := 0 } }) = some m := flying
        simp only [withdrawMessage, flying', source, dropCopy]; rfl
      rw [shape]
      exact Sound.keeps
        { events := fun ok => ok.idle flying (cleared_counts ok) rfl rfl rfl fun n h => ⟨by simp [source], h⟩ } {} q
  · next other =>
    refine Sound.keeps { events := fun ok => ⟨cleared_counts ok, ?_, ok.2.2⟩ } {} q
    have carried (m : EventMessage) (flying : inFlightMessage s = some m) (h : MessageOk s.events m) :
        MessageOk { s.events with
          incidents := putRow s.events.incidents (incidentIndex k)
            { row s.events.incidents (incidentIndex k) with count := 0, acknowledged := 0 } } m := by
      obtain ⟨number, h⟩ := h
      refine ⟨number, ?_⟩
      have ne : m.source ≠ .incident k := by simpa [flying] using other
      revert h
      cases source : m.source with
      | station n => cases m.payload <;> exact id
      | incident j =>
        have : incidentIndex j ≠ incidentIndex k := by
          rw [source] at ne; revert ne; cases j <;> cases k <;> simp [incidentIndex]
        cases m.payload
        · exact id
        · simp [row_putRow_ne _ _ _ _ this]
    have delivery := ok.2.1
    unfold DeliveryOk at delivery ⊢
    simp only [State.setEvents_events]
    split at delivery
    · exact delivery
    · next m h => exact ⟨delivery.1, delivery.2.1, carried m (by simp [inFlightMessage, h]) delivery.2.2⟩
    · next m h => exact ⟨delivery.1, delivery.2.1, carried m (by simp [inFlightMessage, h]) delivery.2.2⟩

/-- The priorities, the target and the ack window are no part of what is sound in the event unit. -/
theorem EventsOk.of_settings {t : State} (ok : EventsOk s) (incidents : t.events.incidents = s.events.incidents)
    (delivery : t.events.delivery = s.events.delivery) (timer : t.events.ackTimer = s.events.ackTimer)
    (resends : t.events.resends = s.events.resends) (sequence : t.events.sequence = s.events.sequence)
    (stations : t.stations = s.stations) : EventsOk t := by
  refine ⟨by rw [incidents]; exact ok.1, ok.2.1.mono delivery timer resends sequence fun k => by rw [incidents], ?_⟩
  rw [inFlightMessage, delivery, stations]
  exact ok.2.2

/-! ### The line and the initiator records -/

/-- A change of the line unit that leaves its queue as it is and starts no request's operation. -/
theorem setLine_keeps (q : A → Agree g s) {l : LineUnit} (queue : l.queue = s.line.queue)
    (op : ∀ o, l.op = some o → s.line.op = some o ∨ o.origin = .poll) : Keeps A B g s (s.setLine l) :=
  Sound.keeps {} { lineQueue := queue, lineOp := op } q

/-- A change of an initiator record that leaves its occupancy as it is. -/
theorem setInitiator_keeps (q : A → Agree g s) {k : Initiator} {r : InitiatorRecord}
    (h : r.occupancy = (row s.initiators k).occupancy) : Keeps A B g s (s.setInitiator k r) := by
  refine Sound.keeps { table := SlotTableOk.congr rfl fun j => ?_ } {} q
  rw [State.setInitiator_initiators, row_putRow]
  split
  · next e => rw [h, e]
  · rfl

theorem endAbandonment_keeps (q : A → Agree g s) (k : Initiator) : Keeps A B g s (endAbandonment k s) := by
  unfold endAbandonment
  split
  · have ended : Keeps A B g s (s.setInitiator k { row s.initiators k with mode := .normal, abandonTag := none }) :=
      setInitiator_keeps q rfl
    dsimp only
    split
    · exact ended.trans (answerKey_keeps ended.queues _ _ _ _)
    · exact ended
  · exact .refl q

theorem startMode_keeps (q : A → Agree g s) (tag : Option Tag) (k : Initiator) : Keeps A B g s (startMode tag k s) :=
  setInitiator_keeps q rfl

theorem beginCycle_keeps (q : A → Agree g s) : Keeps A B g s (beginCycle s) := setLine_keeps q rfl fun _ => .inl

theorem checkCycleEnd_keeps (q : A → Agree g s) : Keeps A B g s (checkCycleEnd s) := by
  unfold checkCycleEnd
  split
  · exact .refl q
  · split
    · exact .refl q
    · split
      · exact beginCycle_keeps q
      · exact setLine_keeps q rfl fun _ => .inl

theorem takePoll_keeps (q : A → Agree g s) (n : StationId) : Keeps A B g s (takePoll n s) :=
  setLine_keeps q rfl fun o h => .inr (by cases h; rfl)

end

end Sys2Proof.Machine
end

section
/-! PROOFS. What one step keeps, part 4: slots that end. A slot is answered, becomes FREE, gives back its entry's count, which may end a
drain, and leaves its chain (R18, R35 to R38, R93). -/

namespace Sys2Proof.Machine

-- one proof at a time: the text is compiled whole, in one process whose threads share its memory limit
set_option Elab.async false

section
variable {A B : Prop} {g : Exempt} {s : State}

/-! ### Endings -/

theorem NoReference.lessen {t u : State} {i : SlotId} {x y : Slot} (n : NoReference g t i x) (l : Lessens g t u)
    (key : y.initiator = x.initiator ∧ y.tag = x.tag) : NoReference g u i y where
  queue p h := n.queue p ((l.queue p).subset h)
  lineQueue h := n.lineQueue (l.lineQueue.subset h)
  current p cur hp hc e := by
    obtain ⟨old, hold, same⟩ := l.current p cur hc
    exact n.current p old hp hold (same ▸ e)
  lineOp he op ho e := by
    rcases l.lineOp op ho with kept | poll
    · exact n.lineOp he op kept e
    · simp [poll] at e
  retires r hr h := n.retires r (l.retires.subset hr) ⟨h.1.trans key.1, h.2.trans key.2⟩

theorem Lessens.trans {t u : State} (st : Lessens g s t) (tu : Lessens g t u) : Lessens g s u where
  rows i x h := by
    rcases st.rows i x h with ⟨y, hy, view⟩ | ⟨gone, none⟩
    · rcases tu.rows i y hy with ⟨z, hz, view'⟩ | ⟨gone, none⟩
      · exact .inl ⟨z, hz, view'.trans view⟩
      · obtain ⟨vi, vt, -⟩ := Slot.view_eq view
        exact .inr ⟨gone, { none with retires := fun r hr => by rw [← vi, ← vt]; exact none.retires r hr }⟩
    · exact .inr ⟨tu.free i gone, none.lessen tu ⟨rfl, rfl⟩⟩
  free i h := tu.free i (st.free i h)
  queue p := (tu.queue p).trans (st.queue p)
  lineQueue := tu.lineQueue.trans st.lineQueue
  current p cur h := by
    obtain ⟨mid, hmid, same⟩ := tu.current p cur h
    obtain ⟨old, hold, same'⟩ := st.current p mid hmid
    exact ⟨old, hold, same.trans same'⟩
  lineOp op h := (tu.lineOp op h).elim (st.lineOp op) .inr
  retires := tu.retires.trans st.retires

/-- Nothing refers to whatever a slot holds. -/
def Loose (g : Exempt) (s : State) (i : SlotId) : Prop := ∀ x, row s.slots i = some x → NoReference g s i x

theorem Lessens.loose {t : State} (l : Lessens g s t) {i : SlotId} (loose : Loose g s i) : Loose g t i := by
  intro y hy
  obtain ⟨x, hx, view⟩ := l.origin hy
  obtain ⟨vi, vt, -⟩ := Slot.view_eq view
  exact (loose x hx).lessen l ⟨vi, vt⟩

/-- An operation that keeps what a step keeps and only ends things. -/
structure Ends (A B : Prop) (g : Exempt) (s t : State) : Prop extends Keeps A B g s t where
  lessens : A → Lessens g s t

theorem Ends.refl (q : A → Agree g s) : Ends A B g s s where
  toKeeps := .refl q
  lessens _ := SameRequests.lessens {} g

theorem Ends.trans {t u : State} (st : Ends A B g s t) (tu : Ends A B g t u) : Ends A B g s u where
  toKeeps := st.toKeeps.trans tu.toKeeps
  lessens a := (st.lessens a).trans (tu.lessens a)

theorem Sound.ends {t : State} (sound : Sound s t) (same : SameRequests s t) (q : A → Agree g s) : Ends A B g s t where
  toKeeps := sound.keeps same q
  lessens _ := same.lessens g

theorem raiseIncident_ends (q : A → Agree g s) (k : IncidentKind) (d : Option Detail) :
    Ends A B g s (raiseIncident k d s) where
  toKeeps := raiseIncident_keeps q k d
  lessens _ := SameRequests.lessens {} g

/-! ### A slot becomes FREE -/

/-- From `s` to `t` the slot `i`, which held `x`, has become FREE, and a RESPONSE may have been handed over. -/
structure FreedFrom (s t : State) (i : SlotId) (x : Slot) : Prop where
  held : row s.slots i = some x
  slots : t.slots = putRow s.slots i none
  initiators : t.initiators = (lowerOccupancy x.initiator s).initiators
  link : LinkOk s.link → LinkOk t.link
  regions : t.regions = s.regions
  counter : t.acceptCounter = s.acceptCounter
  chains : t.chains = s.chains
  ports : t.ports = s.ports
  stations : t.stations = s.stations
  line : t.line = s.line
  events : t.events = s.events
  management : t.management = s.management

theorem answerSlot_linkOk {i : SlotId} {x : Slot} {a : Answer} (ok : LinkOk s.link) : LinkOk (answerSlot i x a s).link := by
  unfold answerSlot
  dsimp only
  split
  · exact ok
  · exact ok.enqueue _

theorem freedFrom_answerSlot {i : SlotId} {x : Slot} (h : row s.slots i = some x) (a : Answer) :
    FreedFrom s (freeSlotOf i x.initiator (answerSlot i x a s)) i x where
  held := h
  slots := by
    obtain ⟨y, written⟩ := answerSlot_slots i x a s
    rw [freeSlotOf_slots, written, putRow_putRow_self]
  initiators := by simp [freeSlotOf, lowerOccupancy]
  link ok := by simpa using answerSlot_linkOk ok
  regions := by simp
  counter := by simp
  chains := by simp
  ports := by simp
  stations := by simp
  line := by simp
  events := by simp
  management := by simp

theorem slotsOf_free {t : State} {i : SlotId} {x : Slot} (h : row s.slots i = some x) (slots : t.slots = putRow s.slots i none)
    (k : Initiator) : slotsOf t k + (if x.initiator = k then 1 else 0) = slotsOf s k := by
  have count := countP_finRange_add i (fun j => (row s.slots j).any fun y => decide (y.initiator = k))
    (fun j => (row t.slots j).any fun y => decide (y.initiator = k))
    (fun j ne => by rw [slots, row_putRow_ne _ _ _ _ ne])
  simp only [slots, row_putRow_self, h, Option.any_none, Option.any_some, Bool.toNat_false, Nat.add_zero] at count
  rw [slotsOf, slotsOf, ← count, slots]
  by_cases e : x.initiator = k <;> simp [e]

theorem FreedFrom.kept {t : State} {i j : SlotId} {x y : Slot} (f : FreedFrom s t i x) (h : row t.slots j = some y) :
    j ≠ i ∧ row s.slots j = some y := by
  rw [f.slots, row_putRow] at h
  split at h
  · simp at h
  · next ne => exact ⟨ne, h⟩

theorem FreedFrom.table {t : State} {i : SlotId} {x : Slot} (f : FreedFrom s t i x) (ok : SlotTableOk s) : SlotTableOk t := by
  obtain ⟨keys, counts, done, answered⟩ := ok
  refine ⟨fun i j x y hx hy => keys i j x y (f.kept hx).2 (f.kept hy).2, fun k => ?_, fun i x hx => done i x (f.kept hx).2,
    fun i x hx => answered i x (f.kept hx).2⟩
  have count := slotsOf_free f.held f.slots k
  rw [f.initiators, lowerOccupancy, State.setInitiator_initiators, row_putRow]
  split
  · next e => subst e; rw [counts, ← count, if_pos rfl]; exact Nat.add_sub_cancel ..
  · next ne => rw [counts, ← count, if_neg (fun e => ne e.symm)]; rfl

theorem FreedFrom.sound {t : State} {i : SlotId} {x : Slot} (f : FreedFrom s t i x) : Sound s t where
  regions := RegionMapOk.congr f.regions
  managers := ManagersOk.congr (by rw [f.management])
  stations := StationsOk.congr f.stations
  ports := PortsOk.congr f.ports
  chains := ChainsOk.congr f.chains
  events := EventsOk.congr f.events f.stations
  link := f.link
  table := f.table

theorem FreedFrom.lessens {t : State} {i : SlotId} {x : Slot} (f : FreedFrom s t i x) (n : NoReference g s i x) :
    Lessens g s t where
  rows j y h := by
    by_cases e : j = i
    · subst e
      obtain rfl : x = y := by simpa [f.held] using h
      refine .inr ⟨by rw [f.slots, row_putRow_self], ?_⟩
      exact ⟨by rw [f.ports]; exact n.queue, by rw [f.line]; exact n.lineQueue, by rw [f.ports]; exact n.current,
        by rw [f.line]; exact n.lineOp, by rw [f.management]; exact n.retires⟩
    · exact .inl ⟨y, by rw [f.slots, row_putRow_ne _ _ _ _ e, h], rfl⟩
  free j h := by rw [f.slots, row_putRow]; split <;> [rfl; exact h]
  queue p := by rw [f.ports]
  lineQueue := by rw [f.line]
  current p cur h := ⟨cur, by rwa [f.ports] at h, rfl⟩
  lineOp op h := .inl (by rwa [f.line] at h)
  retires := by rw [f.management]

/-- A slot that becomes FREE leaves its entry's count one too high. -/
theorem FreedFrom.refs {t : State} {i : SlotId} {x : Slot} (f : FreedFrom s t i x) (ok : ReferencesOk s) :
    RefsOff (workEntry x.work) none t := by
  obtain ⟨counts, draining, retires, lockReads⟩ := (refsOff_none_iff s).mpr ok
  refine ⟨fun e => ?_, by rw [f.regions]; exact draining, by rw [f.regions, f.management]; exact retires, ?_⟩
  · have slots := countP_finRange_add i (fun j => (row s.slots j).any fun y => decide (workEntry y.work = some e))
      (fun j => (row t.slots j).any fun y => decide (workEntry y.work = some e))
      (fun j ne => by rw [f.slots, row_putRow_ne _ _ _ _ ne])
    simp only [f.slots, row_putRow_self, f.held, Option.any_none, Option.any_some, Bool.toNat_false, Nat.add_zero] at slots
    have before := counts e
    simp only [references, countOf, oneFor, reduceCtorEq, if_false, Nat.add_zero] at before ⊢
    rw [f.regions, f.ports, f.slots, ← before, ← slots]
    by_cases e' : workEntry x.work = some e
    · simp [e']; omega
    · simp [e']
  · exact lockReads.lessen (fun j y h => ⟨y, (f.kept h).2, rfl, rfl, id⟩) fun p l h => ⟨l, by rwa [f.ports] at h, rfl⟩

/-! ### Drains (R18, R144) -/

/-- The pairs of an entry have left the pending retire list. -/
def retireListed (e : EntryId) (s : State) : State :=
  s.setManagement { s.management with retires := s.management.retires.filter fun r => decide (r.entry ≠ e) }

/-- What the end of a drain comes to: no RETIRE-REGION waits, or its pair leaves the list and its slot, where there is one, is
answered and becomes FREE. -/
theorem answerRetire_cases (e : EntryId) (s : State) :
    ((∀ r, r ∈ s.management.retires → r.entry ≠ e) ∧ answerRetire e s = s) ∨
      ∃ r, r ∈ s.management.retires ∧ r.entry = e ∧
        ((slotOfKey s r.initiator r.tag = none ∧ answerRetire e s = retireListed e s) ∨
          ∃ j y, row s.slots j = some y ∧ y.initiator = r.initiator ∧ y.tag = r.tag ∧
            answerRetire e s =
              endAbandonment y.initiator (freeSlotOf j y.initiator (answerSlot j y .done (retireListed e s)))) := by
  unfold answerRetire
  split
  · next none =>
    refine .inl ⟨fun r hr => ?_, rfl⟩
    simpa using List.find?_eq_none.mp none r hr
  · next r found =>
    have entry : r.entry = e := by simpa using List.find?_some found
    refine .inr ⟨r, List.mem_of_find?_eq_some found, entry, ?_⟩
    dsimp only
    split
    · next none => exact .inl ⟨none, rfl⟩
    · next j key =>
      obtain ⟨y, hy, hi, ht⟩ := slotOfKey_some key
      have hy : row s.slots j = some y := hy
      refine .inr ⟨j, y, hy, hi, ht, ?_⟩
      simp only [State.setManagement_slots, hy]
      rfl

theorem retireListed_sound (e : EntryId) (s : State) : Sound s (retireListed e s) where

theorem retireListed_lessens (g : Exempt) (e : EntryId) (s : State) : Lessens g s (retireListed e s) where
  rows _ x h := .inl ⟨x, h, rfl⟩
  free _ := id
  queue _ := .refl _
  lineQueue := .refl _
  current _ cur h := ⟨cur, h, rfl⟩
  lineOp _ := .inl
  retires := List.filter_sublist

theorem endAbandonment_sound (k : Initiator) (s : State) : Sound s (endAbandonment k s) :=
  (endAbandonment_keeps (A := False) (B := False) (g := .nothing) False.elim k).toSound

theorem endAbandonment_same (k : Initiator) (s : State) : SameRequests s (endAbandonment k s) :=
  .of_eq (by simp) (by simp) (by simp) (by simp) (by simp) (by simp) (by simp)

theorem answerRetire_sound (e : EntryId) (s : State) : Sound s (answerRetire e s) := by
  rcases answerRetire_cases e s with ⟨-, h⟩ | ⟨r, -, -, ⟨-, h⟩ | ⟨j, y, hy, -, -, h⟩⟩ <;> rw [h]
  · exact .refl s
  · exact retireListed_sound e s
  · have freed : FreedFrom (retireListed e s) _ j y := freedFrom_answerSlot (s := retireListed e s) hy .done
    exact (retireListed_sound e s).trans (freed.sound.trans (endAbandonment_sound _ _))

/-- Where queues and slots agree, a drain's end finds the MANAGE slot that asked for it, and nothing refers to it any more. -/
theorem answerRetire_drained (a : Agree g s) {e : EntryId} {r : PendingRetire} (hr : r ∈ s.management.retires)
    (entry : r.entry = e) :
    ∃ j y op, row s.slots j = some y ∧ y.work = .manage op ∧ NoReference g (retireListed e s) j y ∧
      answerRetire e s =
        endAbandonment y.initiator (freeSlotOf j y.initiator (answerSlot j y .done (retireListed e s))) := by
  rcases answerRetire_cases e s with ⟨none, -⟩ | ⟨q, hq, he, ⟨none, -⟩ | ⟨j, y, hy, hi, ht, run⟩⟩
  · exact absurd entry (none r hr)
  · obtain ⟨i, x, op, hx, xi, xt, -⟩ := a.retires q hq
    exact absurd ⟨xi, xt⟩ ((slotOfKey_eq_none_iff _ _ _).mp none i x hx)
  · obtain ⟨i, x, op, hx, xi, xt, -, work⟩ := a.retires q hq
    obtain rfl : i = j := a.keys i j x y hx hy (xi.trans hi.symm) (xt.trans ht.symm)
    obtain rfl : x = y := by simpa [hx] using hy
    refine ⟨i, x, op, hx, work, ?_, run⟩
    refine ((retireListed_lessens g e s).agree a).noReference_of_manage hx work fun r' hr' key => ?_
    obtain ⟨mem, other⟩ := List.mem_filter.mp hr'
    obtain rfl := a.retireKeys r' q mem hq (key.1.trans hi) (key.2.trans ht)
    simp [he] at other

theorem answerRetire_lessens (a : Agree g s) (e : EntryId) : Lessens g s (answerRetire e s) := by
  by_cases drains : ∃ r, r ∈ s.management.retires ∧ r.entry = e
  · obtain ⟨r, hr, entry⟩ := drains
    obtain ⟨j, y, op, hy, -, free, run⟩ := answerRetire_drained a hr entry
    have freed : FreedFrom (retireListed e s) _ j y := freedFrom_answerSlot (s := retireListed e s) hy .done
    rw [run]
    exact ((retireListed_lessens g e s).trans (freed.lessens free)).trans ((endAbandonment_same _ _).lessens g)
  · rcases answerRetire_cases e s with ⟨-, h⟩ | ⟨r, hr, entry, -⟩
    · rw [h]; exact SameRequests.lessens {} g
    · exact absurd ⟨r, hr, entry⟩ drains

theorem answerRetire_rows (a : Agree g s) (e : EntryId) {i : SlotId} {x : Slot} (h : row s.slots i = some x)
    (work : ∀ op, x.work ≠ .manage op) : row (answerRetire e s).slots i = some x := by
  by_cases drains : ∃ r, r ∈ s.management.retires ∧ r.entry = e
  · obtain ⟨r, hr, entry⟩ := drains
    obtain ⟨j, y, op, hy, manage, -, run⟩ := answerRetire_drained a hr entry
    have ne : i ≠ j := by rintro rfl; rw [h] at hy; cases hy; exact work op manage
    rw [run, endAbandonment_slots, (freedFrom_answerSlot (s := retireListed e s) hy .done).slots, row_putRow_ne _ _ _ _ ne]
    exact h
  · rcases answerRetire_cases e s with ⟨-, run⟩ | ⟨r, hr, entry, -⟩
    · rw [run, h]
    · exact absurd ⟨r, hr, entry⟩ drains

theorem answerRetire_retires (e : EntryId) (s : State) :
    (answerRetire e s).management.retires = s.management.retires.filter fun r => decide (r.entry ≠ e) := by
  rcases answerRetire_cases e s with ⟨none, h⟩ | ⟨r, -, -, ⟨-, h⟩ | ⟨j, y, -, -, -, h⟩⟩ <;> rw [h]
  · exact (List.filter_eq_self.mpr fun r hr => by simpa using none r hr).symm
  · rfl
  · simp only [endAbandonment_frame, freeSlotOf_frame, answerSlot_frame]; rfl

/-! ### Counts fall (R15, R16, R18) -/

theorem RegionMapOk.setRegion (ok : RegionMapOk s) {e : EntryId} {r : Option RegionRecord}
    (old : ∀ q, r = some q → ∃ p, row s.regions e = some p ∧ q.fields.base = p.fields.base ∧ q.fields.limit = p.fields.limit ∧
      (FieldsOk p.fields → FieldsOk q.fields)) : RegionMapOk (s.setRegion e r) := by
  obtain ⟨fields, apart⟩ := ok
  have origin (f : EntryId) (q : RegionRecord) (h : row (s.setRegion e r).regions f = some q) :
      ∃ p, row s.regions f = some p ∧ q.fields.base = p.fields.base ∧ q.fields.limit = p.fields.limit ∧
        (FieldsOk p.fields → FieldsOk q.fields) := by
    rw [State.setRegion_regions, row_putRow] at h
    split at h
    · next same => subst same; exact old q h
    · exact ⟨q, h, rfl, rfl, id⟩
  refine ⟨fun f q h => ?_, fun f f' q q' h h' ne => ?_⟩
  · obtain ⟨p, hp, -, -, keep⟩ := origin f q h
    exact keep (fields f p hp)
  · obtain ⟨p, hp, eb, el, -⟩ := origin f q h
    obtain ⟨p', hp', eb', el', -⟩ := origin f' q' h'
    rw [eb, el, eb', el']
    exact apart f f' p p' hp hp' ne

theorem lowerCount_sound (e : EntryId) (s : State) : Sound s (lowerCount e s) := by
  unfold lowerCount
  split
  · exact .refl s
  · next r present =>
    split
    · refine Sound.trans (t := s.setRegion e none) { regions := fun ok => ok.setRegion (by simp) } (answerRetire_sound e _)
    · exact { regions := fun ok => ok.setRegion fun q h => ⟨r, present, by cases h; exact ⟨rfl, rfl, id⟩⟩ }

/-- A present entry whose drain ends, or whose count falls. -/
theorem lowerCount_present {e : EntryId} {r : RegionRecord} (h : row s.regions e = some r) :
    lowerCount e s = if r.phase = .draining ∧ r.inFlight ≤ 1 then answerRetire e (s.setRegion e none)
      else s.setRegion e (some { r with inFlight := r.inFlight - 1 }) := by
  simp [lowerCount, h]

theorem setRegion_lessens (g : Exempt) (e : EntryId) (r : Option RegionRecord) (s : State) : Lessens g s (s.setRegion e r) where
  rows _ x h := .inl ⟨x, h, rfl⟩
  free _ := id
  queue _ := .refl _
  lineQueue := .refl _
  current _ cur h := ⟨cur, h, rfl⟩
  lineOp _ := .inl
  retires := .refl _

theorem lowerCount_lessens (a : Agree g s) (e : EntryId) : Lessens g s (lowerCount e s) := by
  unfold lowerCount
  split
  · exact SameRequests.lessens {} g
  · split
    · have removed := setRegion_lessens g e none s
      exact removed.trans (answerRetire_lessens (removed.agree a) e)
    · exact setRegion_lessens g e _ s

theorem lowerCount_rows (a : Agree g s) (e : EntryId) {i : SlotId} {x : Slot} (h : row s.slots i = some x)
    (work : ∀ op, x.work ≠ .manage op) : row (lowerCount e s).slots i = some x := by
  unfold lowerCount
  split
  · exact h
  · split
    · exact answerRetire_rows ((setRegion_lessens g e none s).agree a) e h work
    · exact h

/-- The work of a MANAGE slot references no entry, so its end changes no count. -/
theorem answerRetire_references (a : Agree g s) (e f : EntryId) : references (answerRetire e s) f = references s f := by
  by_cases drains : ∃ r, r ∈ s.management.retires ∧ r.entry = e
  · obtain ⟨r, hr, entry⟩ := drains
    obtain ⟨j, y, op, hy, manage, -, run⟩ := answerRetire_drained a hr entry
    have freed : FreedFrom (retireListed e s) _ j y := freedFrom_answerSlot (s := retireListed e s) hy .done
    have slots := countP_finRange_add j (fun i => (row s.slots i).any fun y => decide (workEntry y.work = some f))
      (fun i => (row (answerRetire e s).slots i).any fun y => decide (workEntry y.work = some f))
      (fun i ne => by rw [run, endAbandonment_slots, freed.slots, row_putRow_ne _ _ _ _ ne]; rfl)
    have gone : row (answerRetire e s).slots j = none := by
      rw [run, endAbandonment_slots, freed.slots, row_putRow_self]
    have noEntry : workEntry y.work = none := by rw [manage]; rfl
    simp only [hy, gone, Option.any_some, Option.any_none, noEntry, reduceCtorEq, decide_false, Bool.toNat_false,
      Nat.add_zero] at slots
    rw [references, references, slots, (answerRetire_frame e s).2.2.2.2.1]
  · rcases answerRetire_cases e s with ⟨-, run⟩ | ⟨r, hr, entry, -⟩
    · rw [run]
    · exact absurd ⟨r, hr, entry⟩ drains

/-- A reference that has gone is taken off its entry's count, and the drain that this ends takes its pair along (R18). -/
theorem RefsOff.lowerCount {e : EntryId} (off : RefsOff (some e) none s) (a : Agree g s) : ReferencesOk (lowerCount e s) := by
  obtain ⟨counts, draining, retires, lockReads⟩ := off
  have others {f : EntryId} (ne : f ≠ e) : references s f = countOf s f := by
    simpa [oneFor, Ne.symm ne] using counts f
  have own : references s e + 1 = countOf s e := by simpa [oneFor] using counts e
  rw [← refsOff_none_iff]
  cases present : row s.regions e with
  | none => simp [countOf, present] at own
  | some r =>
    have own : references s e + 1 = r.inFlight := by simpa [countOf, present] using own
    rw [lowerCount_present present]
    split
    · next ends =>
      have a' := (setRegion_lessens g e none s).agree a
      have kept (f : EntryId) : row (answerRetire e (s.setRegion e none)).regions f =
          if f = e then none else row s.regions f := by
        rw [(answerRetire_frame e _).2.1, State.setRegion_regions, row_putRow]
      refine ⟨fun f => ?_, fun f q h => ?_, fun f => ?_, ?_⟩
      · rw [answerRetire_references a', countOf, kept]
        by_cases same : f = e
        · subst same; rw [if_pos rfl]; exact (by omega : references s f = 0)
        · rw [if_neg same]; exact others same
      · rw [kept] at h
        split at h
        · simp at h
        · exact draining f q h
      · rw [kept, answerRetire_retires, State.setRegion_management]
        simp only [List.mem_filter, decide_eq_true_eq]
        by_cases same : f = e
        · subst same; simp
        · rw [if_neg same, retires f]
          exact ⟨fun ⟨q, hq, he⟩ => ⟨q, ⟨hq, he ▸ same⟩, he⟩, fun ⟨q, ⟨hq, _⟩, he⟩ => ⟨q, hq, he⟩⟩
      · refine lockReads.lessen (fun i y h => ?_) fun p l h => ⟨l, by simpa using h, rfl⟩
        obtain ⟨x, hx, view⟩ := (answerRetire_lessens a' e).origin h
        obtain ⟨vi, -, vw, -, vs, -⟩ := Slot.view_eq view
        exact ⟨x, hx, vw, vi, fun active => vs.trans active⟩
    · next goes =>
      have kept (f : EntryId) : row (s.setRegion e (some { r with inFlight := r.inFlight - 1 })).regions f =
          if f = e then some { r with inFlight := r.inFlight - 1 } else row s.regions f := row_putRow ..
      refine ⟨fun f => ?_, fun f q h phase => ?_, fun f => ?_, lockReads⟩
      · rw [countOf, kept]
        by_cases same : f = e
        · subst same; rw [if_pos rfl]; exact (by omega : references s f = r.inFlight - 1)
        · rw [if_neg same]; exact others same
      · rw [kept] at h
        split at h
        · cases h; simp only at phase ⊢; simp only [phase, true_and] at goes; omega
        · exact draining f q h phase
      · rw [kept, State.setRegion_management, ← retires f]
        split
        · next same => subst same; simp [present]
        · exact Iff.rfl

theorem lowerWorkCount_sound (w : Work) (s : State) : Sound s (lowerWorkCount w s) := by
  unfold lowerWorkCount
  split
  · exact lowerCount_sound _ s
  · exact .refl s

theorem lowerWorkCount_lessens (a : Agree g s) (w : Work) : Lessens g s (lowerWorkCount w s) := by
  unfold lowerWorkCount
  split
  · exact lowerCount_lessens a _
  · exact SameRequests.lessens {} g

theorem lowerWorkCount_rows (a : Agree g s) (w : Work) {i : SlotId} {x : Slot} (h : row s.slots i = some x)
    (work : ∀ op, x.work ≠ .manage op) : row (lowerWorkCount w s).slots i = some x := by
  unfold lowerWorkCount
  split
  · exact lowerCount_rows a _ h work
  · exact h

theorem RefsOff.lowerWorkCount {w : Work} (off : RefsOff (workEntry w) none s) (a : Agree g s) :
    ReferencesOk (lowerWorkCount w s) := by
  unfold Machine.lowerWorkCount
  split
  · next e h => exact RefsOff.lowerCount (h ▸ off) a
  · next h => exact (refsOff_none_iff s).mp (h ▸ off)

/-! ### Chains (R93, R100, R102) -/

/-- A change of a chain context that leaves its member list as it is. -/
theorem setChain_ends (q : A → Agree g s) {k : Initiator} {c : Chain} (ok : ChainOk (row s.chains k) → ChainOk c)
    (members : c.members = (row s.chains k).members) : Ends A B g s (s.setChain k c) := by
  refine Sound.ends { chains := fun h j => ?_ } { members := fun j => ?_ } q
  all_goals rw [State.setChain_chains, row_putRow]; split
  · next e => subst e; exact ok (h _)
  · exact h j
  · next e => subst e; exact members
  · rfl

/-- A context with a member in its list is not CLOSED. -/
theorem ChainOk.not_closed {c : Chain} (ok : ChainOk c) {i : SlotId} (h : i ∈ c.members) : c.state ≠ .closed := by
  intro closed
  rw [ok.1 closed] at h
  simp [Chain.closed] at h

theorem ChainOk.recordFailure {c : Chain} (ok : ChainOk c) (n : Nat) (code : FaultCode) : ChainOk (recordFailure c n code) := by
  obtain ⟨-, -, count⟩ := ok
  refine ⟨by simp [Machine.recordFailure], ?_, count⟩
  simp only [Machine.recordFailure, true_iff]
  split <;> rfl

theorem inChain_mem {i : SlotId} {x : Slot} (h : inChain s i x = true) : i ∈ (row s.chains x.initiator).members := by
  simp only [inChain, Bool.and_eq_true, decide_eq_true_eq] at h
  exact h.2

theorem reportToChain_ends (q : A → Agree g s) (i : SlotId) (x : Slot) (a : Answer) : Ends A B g s (reportToChain i x a s) := by
  unfold reportToChain
  split
  · split
    · exact setChain_ends q (fun ok => ok.recordFailure _ _) rfl
    · exact .refl q
  · exact .refl q

theorem leaveChain_sound (i : SlotId) (x : Slot) (s : State) : Sound s (leaveChain i x s) := by
  have written {c : Chain} (ok : ChainOk (row s.chains x.initiator) → ChainOk c) : Sound s (s.setChain x.initiator c) :=
    { chains := fun h j => by
        rw [State.setChain_chains, row_putRow]
        split
        · next e => subst e; exact ok (h _)
        · exact h j }
  unfold leaveChain
  split
  · next member =>
    split
    · exact written fun _ => ⟨fun _ => rfl, by simp [Chain.closed], by simp [Chain.closed]⟩
    · exact written fun ok => ⟨fun closed => absurd closed (ok.not_closed (inChain_mem member)), ok.2⟩
  · exact .refl s

theorem leaveChain_lessens (g : Exempt) (i : SlotId) (x : Slot) (s : State) : Lessens g s (leaveChain i x s) where
  rows _ y h := .inl ⟨y, by simpa using h, rfl⟩
  free _ h := by simpa using h
  queue p := by simp
  lineQueue := by simp
  current p cur h := ⟨cur, by simpa using h, rfl⟩
  lineOp op h := .inl (by simpa using h)
  retires := by simp

theorem leaveChain_members (i : SlotId) (x : Slot) (s : State) (k : Initiator) :
    (row (leaveChain i x s).chains k).members.Sublist (row s.chains k).members := by
  unfold leaveChain
  split
  · split <;> rw [State.setChain_chains, row_putRow] <;> split
    · simp [Chain.closed]
    · exact .refl _
    · next e => subst e; exact List.erase_sublist
    · exact .refl _
  · exact .refl _

/-- A slot that was a member has left every list. -/
theorem leaveChain_not_member {t : State} {i : SlotId} {x : Slot} (ok : MemberListsOk s) (chains : t.chains = s.chains)
    (h : row s.slots i = some x) (k : Initiator) : i ∉ (row (leaveChain i x t).chains k).members := by
  intro mem
  have was : i ∈ (row s.chains k).members := chains ▸ (leaveChain_members i x t k).subset mem
  obtain ⟨nodup, occupied, -⟩ := ok k
  obtain ⟨y, hy, own, role, -⟩ := occupied i was
  obtain rfl : x = y := by simpa [h] using hy
  have member : inChain t i x = true := by
    simp only [inChain, Bool.and_eq_true, decide_eq_true_eq]
    exact ⟨role, by rw [chains, own]; exact was⟩
  unfold leaveChain at mem
  rw [if_pos member] at mem
  split at mem <;> simp only [State.setChain_chains, own, row_putRow_self] at mem
  · simp [Chain.closed] at mem
  · rw [chains] at mem; exact nodup.not_mem_erase mem

/-! ### Completion (R35 to R38, R99, R103) -/

theorem finishSlot_ends (q : A → Agree g s) {i : SlotId} (loose : A → Loose g s i) (a : Answer) :
    Ends A B g s (finishSlot i a s) := by
  unfold finishSlot
  split
  · exact .refl q
  · next x held =>
    have reported : Ends A B g s (reportToChain i x a s) := reportToChain_ends q i x a
    refine reported.trans ?_
    have held : row (reportToChain i x a s).slots i = some x := by simpa using held
    generalize reportToChain i x a s = s1 at reported held ⊢
    have freed := freedFrom_answerSlot held a
    generalize hs2 : freeSlotOf i x.initiator (answerSlot i x a s1) = s2 at freed
    have lessens2 (h : A) : Lessens g s1 s2 := freed.lessens (((reported.lessens h).loose (loose h)) x held)
    have agree2 (h : A) : Agree g s2 := (lessens2 h).agree (reported.queues h)
    have lessens3 (h : A) : Lessens g s1 (lowerWorkCount x.work s2) :=
      (lessens2 h).trans (lowerWorkCount_lessens (agree2 h) x.work)
    have lessens4 (h : A) : Lessens g s1 (leaveChain i x (lowerWorkCount x.work s2)) :=
      (lessens3 h).trans (leaveChain_lessens g i x _)
    have left : Ends A B g s1 (leaveChain i x (lowerWorkCount x.work s2)) :=
      { toSound := (freed.sound.trans (lowerWorkCount_sound x.work s2)).trans (leaveChain_sound i x _)
        queues := fun h => (lessens4 h).agree (reported.queues h)
        refs := fun h ok => by
          have off := (refsOff_none_iff _).mpr ((freed.refs ok).lowerWorkCount (agree2 h))
          refine (refsOff_none_iff _).mp ⟨fun e => ?_, by simpa using off.draining, by simpa using off.retires, ?_⟩
          · simpa [countOf, references] using off.counts e
          · exact off.lockReads.lessen (fun j y hj => ⟨y, by simpa using hj, rfl, rfl, id⟩)
              fun p l hl => ⟨l, by simpa using hl, rfl⟩
        members := fun h ok => by
          have chains : (lowerWorkCount x.work s2).chains = s1.chains := by simp [freed.chains]
          refine ok.lessen (fun k => ?_) fun k j y mem hj => ?_
          · rw [← chains]; exact leaveChain_members i x _ k
          · have ne : j ≠ i := by rintro rfl; exact leaveChain_not_member ok chains held k mem
            have was : j ∈ (row s1.chains k).members := chains ▸ (leaveChain_members i x _ k).subset mem
            obtain ⟨-, occupied, -⟩ := ok k
            obtain ⟨z, hz, -, -, work⟩ := occupied j was
            obtain rfl : y = z := by simpa [hj] using hz
            refine ⟨y, ?_, rfl, rfl, rfl, fun _ => rfl⟩
            simp only [leaveChain_frame]
            exact lowerWorkCount_rows (agree2 h) _ (by rw [freed.slots, row_putRow_ne _ _ _ _ ne, hj]) work
        order := fun h _ => (lessens4 h).order (by simp [freed.counter])
        lessens := lessens4 }
    refine left.trans ?_
    rw [releaseSlot, hs2]
    exact { toKeeps := endAbandonment_keeps left.queues x.initiator
            lessens := fun _ => (endAbandonment_same _ _).lessens g }

theorem skipSlots_ends (l : List SlotId) (q : A → Agree g s) (loose : A → ∀ i, i ∈ l → Loose g s i) :
    Ends A B g s (skipSlots l s) := by
  induction l generalizing s with
  | nil => exact .refl q
  | cons i rest ih =>
    have first : Ends A B g s (finishSlot i .skipped s) := finishSlot_ends q (fun h => loose h i (by simp)) _
    exact first.trans (ih first.queues fun h j hj => (first.lessens h).loose (loose h j (by simp [hj])))

theorem sweepChain_ends (q : A → Agree g s) (k : Initiator) : Ends A B g s (sweepChain k s) := by
  refine skipSlots_ends _ q fun h i hi x hx => ?_
  obtain ⟨-, waiting⟩ := List.mem_filter.mp hi
  exact (q h).noReference_of_waiting hx (by simpa [isWaiting, hx] using waiting)

theorem failSlot_ends (q : A → Agree g s) {i : SlotId} (loose : A → Loose g s i) (code : FaultCode) :
    Ends A B g s (failSlot i code s) := by
  unfold failSlot
  split
  · exact .refl q
  · have finished : Ends A B g s (finishSlot i (.fault code) s) := finishSlot_ends q loose _
    dsimp only
    split
    · exact finished.trans (sweepChain_ends finished.queues _)
    · exact finished

theorem loseUnlocks_ends (l : List SlotId) (q : A → Agree g s) (loose : A → ∀ i, i ∈ l → Loose g s i) :
    Ends A B g s (loseUnlocks l s) := by
  induction l generalizing s with
  | nil => exact .refl q
  | cons i rest ih =>
    have first : Ends A B g s (finishSlot i (.fault .lockLost) s) := finishSlot_ends q (fun h => loose h i (by simp)) _
    exact first.trans (ih first.queues fun h j hj => (first.lessens h).loose (loose h j (by simp [hj])))

theorem flushQueue_ends (p : PortId) (l : List SlotId) (q : A → Agree g s) (loose : A → ∀ i, i ∈ l → Loose g s i) :
    Ends A B g s (flushQueue p l s) := by
  induction l generalizing s with
  | nil => exact .refl q
  | cons i rest ih =>
    have go {t : State} (first : Ends A B g s t) : Ends A B g s (flushQueue p rest t) :=
      first.trans (ih first.queues fun h j hj => (first.lessens h).loose (loose h j (by simp [hj])))
    unfold flushQueue
    split
    · next w _ _ =>
      split
      · have raised : Ends A B g s (raiseIncident .postedFail (some (.portAddress p w.target)) s) := raiseIncident_ends q _ _
        refine go (raised.trans (finishSlot_ends raised.queues (fun h => ?_) _))
        exact (raised.lessens h).loose (loose h i (by simp))
      · exact go (failSlot_ends q (fun h => loose h i (by simp)) _)
    · exact go (.refl q)

end

end Sys2Proof.Machine
end

section
/-! PROOFS. What one step keeps, part 5: slots that join queues and are taken from them, by the arbiters of the ports and of the line
(R33, R47, R49, R51, R69, R85, R113, R118, R120). -/

namespace Sys2Proof.Machine

-- one proof at a time: the text is compiled whole, in one process whose threads share its memory limit
set_option Elab.async false

section
variable {A B : Prop} {g : Exempt} {s : State}

/-! ### A slot's record is replaced -/

theorem row_setSlot (s : State) (i j : SlotId) (y : Option Slot) :
    row (s.setSlot i y).slots j = if j = i then y else row s.slots j := row_putRow ..

theorem SlotTableOk.replace {i : SlotId} {x y : Slot} (ok : SlotTableOk s) (held : row s.slots i = some x)
    (key : y.initiator = x.initiator ∧ y.tag = x.tag) (undone : y.state ≠ .done)
    (answered : y.answered = true → x.answered = true ∧ y.work = x.work ∨ ∃ w d, y.work = .port w ∧ w.kind = .write d) :
    SlotTableOk (s.setSlot i (some y)) := by
  obtain ⟨keys, counts, done, answers⟩ := ok
  have origin (j : SlotId) (z : Slot) (h : row (s.setSlot i (some y)).slots j = some z) :
      j = i ∧ z = y ∨ row s.slots j = some z := by
    rw [row_setSlot] at h
    split at h
    · next e => exact .inl ⟨e, (Option.some.inj h).symm⟩
    · exact .inr h
  refine ⟨fun j j' z z' h h' hi ht => ?_, fun k => ?_, fun j z h => ?_, fun j z h yes => ?_⟩
  · rcases origin j z h with ⟨e, e'⟩ | old <;> rcases origin j' z' h' with ⟨f, f'⟩ | old'
    · exact e.trans f.symm
    · subst e e'; exact keys j j' x z' held old' (key.1 ▸ hi) (key.2 ▸ ht)
    · subst f f'; exact keys j j' z x old held (key.1 ▸ hi) (key.2 ▸ ht)
    · exact keys j j' z z' old old' hi ht
  · have count := countP_finRange_add i (fun j => (row s.slots j).any fun z => decide (z.initiator = k))
      (fun j => (row (s.setSlot i (some y)).slots j).any fun z => decide (z.initiator = k))
      (fun j ne => by rw [row_setSlot, if_neg ne])
    simp only [State.setSlot_slots, row_putRow_self, held, Option.any_some, key.1, Nat.add_right_cancel_iff] at count
    exact (counts k).trans count.symm
  · rcases origin j z h with ⟨-, rfl⟩ | old
    · exact undone
    · exact done j z old
  · rcases origin j z h with ⟨-, rfl⟩ | old
    · rcases answered yes with ⟨was, same⟩ | write
      · rw [same]; exact answers i x held was
      · exact write
    · exact answers j z old yes

theorem references_setSlot {i : SlotId} {x y : Slot} (held : row s.slots i = some x) (work : y.work = x.work) (e : EntryId) :
    references (s.setSlot i (some y)) e = references s e := by
  have count := countP_finRange_add i (fun j => (row s.slots j).any fun z => decide (workEntry z.work = some e))
    (fun j => (row (s.setSlot i (some y)).slots j).any fun z => decide (workEntry z.work = some e))
    (fun j ne => by rw [row_setSlot, if_neg ne])
  simp only [State.setSlot_slots, row_putRow_self, held, Option.any_some, work, Nat.add_right_cancel_iff] at count
  simp only [references, State.setSlot_slots, count, State.setSlot_ports]

/-- A slot's record is replaced by one with the same key, work, role and place in the order of acceptance. -/
theorem setSlot_keeps {i : SlotId} {x y : Slot} (held : row s.slots i = some x) (initiator : y.initiator = x.initiator)
    (tag : y.tag = x.tag) (work : y.work = x.work) (role : y.role = x.role) (sequence : y.sequence = x.sequence)
    (agree : A → Agree g (s.setSlot i (some y))) (undone : x.state ≠ .done → y.state ≠ .done)
    (answered : y.answered = true → x.answered = true ∨ ∃ w d, y.work = .port w ∧ w.kind = .write d)
    (active : A → x.state = .active → y.state = .active)
    (member : A → MemberListsOk s → y.state = x.state ∨ ∀ k, i ∉ (row s.chains k).members.tail) :
    Keeps A B g s (s.setSlot i (some y)) where
  toSound :=
    { table := fun ok => ok.replace held ⟨initiator, tag⟩ (undone (ok.2.2.1 i x held))
        fun yes => (answered yes).imp (fun was => ⟨was, work⟩) id }
  queues := agree
  refs a ok := by
    obtain ⟨counts, draining, retires, lockReads⟩ := ok
    refine ⟨fun e => by rw [references_setSlot held work]; exact counts e, draining, retires, ?_⟩
    refine LockReadsOk.lessen lockReads (fun j z h => ?_) fun p l h => ⟨l, h, rfl⟩
    rw [row_setSlot] at h
    split at h
    · next e => subst e; cases h; exact ⟨x, held, work, initiator, active a⟩
    · exact ⟨z, h, rfl, rfl, id⟩
  members a ok := by
    refine ok.lessen (fun k => .refl _) fun k j z mem h => ?_
    rw [row_setSlot]
    split
    · next e =>
      subst e
      obtain rfl : x = z := by simpa [held] using h
      refine ⟨y, rfl, initiator, role, work, fun tail => ?_⟩
      exact (member a ok).elim id fun off => absurd tail (off k)
    · exact ⟨z, h, rfl, rfl, rfl, fun _ => rfl⟩
  order _ _ ok := by
    refine ok.lessen (fun j z h => ?_) rfl (fun _ => .refl _) (.refl _)
    rw [row_setSlot] at h
    split at h
    · next e => subst e; cases h; exact ⟨x, held, sequence⟩
    · exact ⟨z, h, rfl⟩

/-- A slot's record is replaced by one that the blocks read as they did. -/
theorem setSlot_view_keeps (q : A → Agree g s) {i : SlotId} {x y : Slot} (held : row s.slots i = some x) (view : y.view = x.view)
    (answered : y.answered = true → x.answered = true ∨ ∃ w d, y.work = .port w ∧ w.kind = .write d) :
    Keeps A B g s (s.setSlot i (some y)) := by
  obtain ⟨initiator, tag, work, role, state, sequence⟩ := Slot.view_eq view
  have same : SameRequests s (s.setSlot i (some y)) :=
    { rows := fun j => by
        rw [row_setSlot]
        split
        · next e => subst e; simp [held, view]
        · rfl }
  exact setSlot_keeps held initiator tag work role sequence (fun a => (same.lessens g).agree (q a)) (fun h => state ▸ h)
    answered (fun _ h => state.trans h) fun _ _ => .inl state

/-- A slot that nothing refers to may take any state. -/
theorem Agree.setState (a : Agree g s) {i : SlotId} {x : Slot} (h : row s.slots i = some x) (n : NoReference g s i x)
    (unheld : g.held ≠ some i) (st : SlotState) : Agree g (s.setSlot i (some { x with state := st })) where
  keys j j' y y' hy hy' hi ht := by
    have origin (k : SlotId) (z : Slot) (hz : row (s.setSlot i (some { x with state := st })).slots k = some z) :
        ∃ z', row s.slots k = some z' ∧ z'.initiator = z.initiator ∧ z'.tag = z.tag := by
      rw [row_setSlot] at hz
      split at hz
      · next e => obtain rfl := Option.some.inj hz; exact ⟨x, e ▸ h, rfl, rfl⟩
      · exact ⟨z, hz, rfl, rfl⟩
    obtain ⟨z, hz, zi, zt⟩ := origin j y hy
    obtain ⟨z', hz', zi', zt'⟩ := origin j' y' hy'
    exact a.keys j j' z z' hz hz' (by rw [zi, zi', hi]) (by rw [zt, zt', ht])
  queueNodup := a.queueNodup
  queue p q hq := by
    rw [row_setSlot, if_neg (by rintro rfl; exact n.queue p hq)]
    exact a.queue p q hq
  lineNodup := a.lineNodup
  lineQueue q hq := by
    rw [row_setSlot, if_neg (by rintro rfl; exact n.lineQueue hq)]
    exact a.lineQueue q hq
  current p cur hp hc := by
    rw [row_setSlot, if_neg (n.current p cur hp hc)]
    exact a.current p cur hp hc
  lineOp he op j ho hj := by
    rw [row_setSlot, if_neg (by rintro rfl; exact n.lineOp he op ho hj)]
    exact a.lineOp he op j ho hj
  retires r hr := by
    obtain ⟨j, y, op, hy, yi, yt, ys⟩ := a.retires r hr
    refine ⟨j, y, op, ?_, yi, yt, ys⟩
    rw [row_setSlot, if_neg, hy]
    rintro rfl
    rw [h] at hy; cases hy
    exact n.retires r hr ⟨yi.symm, yt.symm⟩
  retireKeys := a.retireKeys
  held j y hj hy := by
    rw [row_setSlot, if_neg (by rintro rfl; exact unheld hj)] at hy
    exact a.held j y hj hy

theorem setSlotState_eq {i : SlotId} {x : Slot} (h : row s.slots i = some x) (st : SlotState) :
    setSlotState i st s = s.setSlot i (some { x with state := st }) := by simp [setSlotState, h]

/-- Nothing but WAITING slots stands in a member list after its head. -/
theorem MemberListsOk.not_behind (ok : MemberListsOk s) {i : SlotId} {x : Slot} (h : row s.slots i = some x)
    (ready : x.state ≠ .waiting) (k : Initiator) : i ∉ (row s.chains k).members.tail := by
  intro mem
  obtain ⟨-, -, waiting⟩ := ok k
  obtain ⟨y, hy, hs⟩ := waiting i mem
  rw [h] at hy; cases hy
  exact ready hs

/-! ### Queues (R24, R47) -/

theorem placeInQueue_perm (s : State) (i : SlotId) (queue : List SlotId) : (placeInQueue s i queue).Perm (i :: queue) := by
  induction queue with
  | nil => exact .refl _
  | cons q rest ih =>
    unfold placeInQueue
    split
    · exact .refl _
    · exact (ih.cons q).trans (.swap i q rest)

theorem Agree.place_nodup {i : SlotId} {queue : List SlotId} (nodup : queue.Nodup) (new : i ∉ queue) :
    (placeInQueue s i queue).Nodup := (placeInQueue_perm s i queue).nodup_iff.mpr (List.nodup_cons.mpr ⟨new, nodup⟩)

/-- A slot that is placed in a queue stands in acceptance order there. -/
theorem Ordered.place (o : OrderOk s) {i : SlotId} {queue : List SlotId} (ordered : Ordered s queue) (new : i ∉ queue)
    (occupied : ∀ q, q ∈ queue → (row s.slots q).isSome = true) : Ordered s (placeInQueue s i queue) := by
  have behind_eq {j : SlotId} {x : Slot} (h : row s.slots j = some x) :
      behind s j = (s.acceptCounter - x.sequence).toNat := by simp [behind, h]
  have apart {j : SlotId} {x y : Slot} (hi : row s.slots i = some x) (hj : row s.slots j = some y) (ne : j ≠ i) :
      behind s j ≠ behind s i := by
    rw [behind_eq hi, behind_eq hj, Ne, BitVec.toNat_inj]
    intro same
    exact ne (o.1 j i y x hj hi (by simpa using congrArg (s.acceptCounter - ·) same))
  induction queue with
  | nil => simp [placeInQueue, Ordered]
  | cons q rest ih =>
    obtain ⟨first, later⟩ := List.pairwise_cons.mp ordered
    obtain ⟨y, hy⟩ := Option.isSome_iff_exists.mp (occupied q (by simp))
    unfold placeInQueue
    split
    · next before =>
      refine List.pairwise_cons.mpr ⟨fun j hj x z hx hz => ?_, ordered⟩
      rw [behind_eq hx, behind_eq hy] at before
      rcases List.mem_cons.mp hj with rfl | hj
      · rw [hy] at hz; cases hz; exact before
      · exact (first j hj y z hy hz).trans before
    · next after =>
      refine List.pairwise_cons.mpr ⟨fun j hj x z hx hz => ?_,
        ih later (fun h => new (by simp [h])) fun q' h => occupied q' (by simp [h])⟩
      rcases (mem_placeInQueue s i j rest).mp hj with rfl | hj
      · have ne := apart hz hx fun e => new (by simp [e])
        rw [behind_eq hz, behind_eq hx] at after ne
        omega
      · exact first j hj x z hx hz

/-- The port whose queue a slot joins. -/
def placedAt (p : PortId) (i : SlotId) (s : State) : State :=
  s.setPort p { row s.ports p with queue := placeInQueue s i (row s.ports p).queue }

theorem row_setPort (s : State) (p q : PortId) (x : Port) :
    row (s.setPort p x).ports q = if q = p then x else row s.ports q := row_putRow ..

/-- A QUEUED slot of the port joins its queue (R47), which an UP port has. -/
theorem placedAt_keeps (q : A → Agree g s) {p : PortId} {i : SlotId} (up : (row s.ports p).setting = .up)
    (queued : A → ∃ x w, row s.slots i = some x ∧ x.state = .queued ∧ x.work = .port w ∧ w.port = p)
    (new : A → i ∉ (row s.ports p).queue) : Keeps A B g s (placedAt p i s) where
  toSound :=
    { ports := fun ok r => by
        rw [placedAt, row_setPort]
        split
        · next e => subst e; obtain ⟨held, lock, timer, -⟩ := ok r; exact ⟨held, lock, timer, fun down => by simp [up] at down⟩
        · exact ok r }
  queues a := by
    have old := q a
    refine ⟨old.keys, fun r => ?_, fun r j hj => ?_, old.lineNodup, old.lineQueue, fun r cur hr hc => ?_, old.lineOp,
      old.retires, old.retireKeys, old.held⟩
    · rw [placedAt, row_setPort]
      split
      · next e => subst e; exact Agree.place_nodup (old.queueNodup _) (new a)
      · exact old.queueNodup r
    · rw [placedAt, row_setPort] at hj
      split at hj
      · next e =>
        subst e
        rcases (mem_placeInQueue ..).mp hj with rfl | hj
        · exact queued a
        · exact old.queue _ j hj
      · exact old.queue r j hj
    · rw [placedAt, row_setPort] at hc
      refine old.current r cur hr ?_
      split at hc
      · next e => subst e; exact hc
      · exact hc
  refs _ ok := ok.of_claims rfl rfl rfl fun r => by
    rw [placedAt, row_setPort]
    split
    · next e => subst e; rfl
    · rfl
  members _ := id
  order a _ ok := by
    refine ⟨ok.1, fun r => ?_, ok.2.2⟩
    rw [placedAt, row_setPort]
    split
    · next e =>
      subst e
      refine Ordered.place ok (ok.2.1 _) (new a) fun j hj => ?_
      obtain ⟨x, -, hx, -⟩ := (q a).queue _ j hj
      exact hx ▸ rfl
    · exact ok.2.1 r

/-- The line queue with a slot that has joined it. -/
def placedOnLine (i : SlotId) (s : State) : State := s.setLine { s.line with queue := placeInQueue s i s.line.queue }

theorem placedOnLine_keeps (q : A → Agree g s) {i : SlotId}
    (queued : A → ∃ x w, row s.slots i = some x ∧ x.state = .queued ∧ x.work = .bit w) (new : A → i ∉ s.line.queue) :
    Keeps A B g s (placedOnLine i s) where
  toSound := {}
  queues a := by
    have old := q a
    exact { old with
      lineNodup := Agree.place_nodup old.lineNodup (new a)
      lineQueue := fun j hj => by
        rcases (mem_placeInQueue ..).mp hj with rfl | hj
        · exact queued a
        · exact old.lineQueue j hj }
  refs _ := id
  members _ := id
  order a _ ok := by
    refine ⟨ok.1, ok.2.1, Ordered.place ok ok.2.2 (new a) fun j hj => ?_⟩
    obtain ⟨x, -, hx, -⟩ := (q a).lineQueue j hj
    exact hx ▸ rfl

end

end Sys2Proof.Machine
end

section
/-! PROOFS. What one step keeps, part 6: the target ports. An issue takes a slot out of its queue into the port's service, a LOCK-READ's
with a new lock record (R51, R72); a removal of a lock record gives back its reference (R69). -/

namespace Sys2Proof.Machine

-- one proof at a time: the text is compiled whole, in one process whose threads share its memory limit
set_option Elab.async false

section
variable {A B : Prop} {g : Exempt} {s : State}

/-! ### A port's record is replaced -/

theorem PortsOk.setPort (ok : PortsOk s) {p : PortId} {y : Port} (h : PortOk (row s.ports p) → PortOk y) :
    PortsOk (s.setPort p y) := by
  intro r
  rw [row_setPort]
  split
  · next e => subst e; exact h (ok _)
  · exact ok r

/-- A port's record is replaced by one with no more in its queue, whose current slot is ACTIVE there. -/
theorem Agree.setPort (a : Agree g s) {p : PortId} {y : Port} (queue : y.queue.Sublist (row s.ports p).queue)
    (current : some p ≠ g.ending → ∀ cur, y.state = .issued cur →
      ∃ x w, row s.slots cur.slot = some x ∧ x.state = .active ∧ x.work = .port w ∧ w.port = p) :
    Agree g (s.setPort p y) :=
  { a with
    queueNodup := fun r => by
      rw [row_setPort]
      split
      · next e => subst e; exact (a.queueNodup _).sublist queue
      · exact a.queueNodup r
    queue := fun r i hi => by
      rw [row_setPort] at hi
      split at hi
      · next e => subst e; exact a.queue _ i (queue.subset hi)
      · exact a.queue r i hi
    current := fun r cur hr hc => by
      rw [row_setPort] at hc
      split at hc
      · next e => subst e; exact current hr cur hc
      · exact a.current r cur hr hc }

/-- A port's record is replaced by one with the same queue and the same claim on an entry. -/
theorem setPort_keeps (q : A → Agree g s) {p : PortId} {y : Port} (ok : PortOk (row s.ports p) → PortOk y)
    (queue : y.queue = (row s.ports p).queue) (lock : y.lock.map LockRecord.claim = (row s.ports p).lock.map LockRecord.claim)
    (current : A → some p ≠ g.ending → ∀ cur, y.state = .issued cur →
      ∃ x w, row s.slots cur.slot = some x ∧ x.state = .active ∧ x.work = .port w ∧ w.port = p) :
    Keeps A B g s (s.setPort p y) := by
  have ports (r : PortId) : row (s.setPort p y).ports r = if r = p then y else row s.ports r := row_setPort ..
  exact {
    toSound := { ports := fun h => h.setPort ok }
    queues := fun a => (q a).setPort (queue ▸ .refl _) (current a)
    refs := fun _ h => h.of_claims rfl rfl rfl fun r => by
      rw [ports]; split <;> [(next e => subst e; exact lock); rfl]
    members := fun _ => id
    order := fun _ _ h => h.lessen (fun i x hx => ⟨x, hx, rfl⟩) rfl
      (fun r => by rw [ports]; split <;> [(next e => subst e; rw [queue]); exact .refl _]) (.refl _) }

/-- A port's record is replaced by one that differs in what no other block reads. -/
theorem setPort_quiet_keeps (q : A → Agree g s) {p : PortId} {y : Port} (ok : PortOk (row s.ports p) → PortOk y)
    (queue : y.queue = (row s.ports p).queue) (lock : y.lock.map LockRecord.claim = (row s.ports p).lock.map LockRecord.claim)
    (current : ∀ cur, y.state = .issued cur → ∃ old, (row s.ports p).state = .issued old ∧ cur.slot = old.slot) :
    Keeps A B g s (s.setPort p y) :=
  setPort_keeps q ok queue lock fun a hp cur h => by
    obtain ⟨old, hold, same⟩ := current cur h
    exact same ▸ (q a).current p old hp hold

/-! ### Counts rise (R14, R72) -/

/-- A reference that has come is added to its entry's count. -/
theorem RefsOff.raiseCount {e : EntryId} (off : RefsOff none (some e) s) (present : (row s.regions e).isSome = true) :
    ReferencesOk (raiseCount e s) := by
  obtain ⟨counts, draining, retires, lockReads⟩ := off
  obtain ⟨r, hr⟩ := Option.isSome_iff_exists.mp present
  have shape : Machine.raiseCount e s = s.setRegion e (some { r with inFlight := r.inFlight + 1 }) := by
    simp [Machine.raiseCount, hr]
  have kept (f : EntryId) : row (s.setRegion e (some { r with inFlight := r.inFlight + 1 })).regions f =
      if f = e then some { r with inFlight := r.inFlight + 1 } else row s.regions f := row_putRow ..
  rw [shape, ← refsOff_none_iff]
  refine ⟨fun f => ?_, fun f q h phase => ?_, fun f => ?_, lockReads⟩
  · have count := counts f
    rw [countOf, kept]
    simp only [oneFor, countOf, Option.some.injEq, reduceCtorEq, if_false] at count ⊢
    by_cases same : f = e
    · subst same; simp only [hr, if_true] at count ⊢; exact count
    · simp only [same, Ne.symm same, if_false] at count ⊢; exact count
  · rw [kept] at h
    split at h
    · cases h; exact Nat.succ_pos _
    · exact draining f q h phase
  · rw [kept, State.setRegion_management, ← retires f]
    split
    · next same => subst same; simp [hr]
    · exact Iff.rfl

theorem raiseCount_sound (e : EntryId) (s : State) : Sound s (raiseCount e s) := by
  unfold raiseCount
  split
  · exact .refl s
  · next r present => exact { regions := fun ok => ok.setRegion fun q h => ⟨r, present, by cases h; exact ⟨rfl, rfl, id⟩⟩ }

theorem raiseCount_lessens (g : Exempt) (e : EntryId) (s : State) : Lessens g s (raiseCount e s) := by
  unfold raiseCount
  split
  · exact SameRequests.lessens {} g
  · exact setRegion_lessens g e _ s

/-! ### A slot leaves its queue -/

theorem leaveQueues_lessens (g : Exempt) (i : SlotId) (w : Work) (s : State) : Lessens g s (leaveQueues i w s) where
  rows _ x h := .inl ⟨x, by simpa using h, rfl⟩
  free _ h := by simpa using h
  queue p := by
    unfold leaveQueues
    split
    · rw [row_setPort]; split <;> [(next e => subst e; exact List.erase_sublist); exact .refl _]
    · exact .refl _
    · exact .refl _
  lineQueue := by
    unfold leaveQueues
    split
    · exact .refl _
    · exact List.erase_sublist
    · exact .refl _
  current p cur h := by
    unfold leaveQueues at h
    split at h
    · rw [row_setPort] at h
      split at h
      · next e => subst e; exact ⟨cur, h, rfl⟩
      · exact ⟨cur, h, rfl⟩
    · exact ⟨cur, h, rfl⟩
    · exact ⟨cur, h, rfl⟩
  lineOp op h := by
    unfold leaveQueues at h
    split at h <;> exact .inl h
  retires := by unfold leaveQueues; split <;> exact .refl _

/-- A QUEUED slot that has left the queue of its work is referred to nowhere. -/
theorem Agree.leaveQueues_noReference (a : Agree g s) {i : SlotId} {x : Slot} (h : row s.slots i = some x)
    (queued : x.state = .queued) : NoReference g (leaveQueues i x.work s) i x := by
  refine ((leaveQueues_lessens g i x.work s).agree a).noReference_of_queued (by simpa using h) queued (fun p mem => ?_)
    fun mem => ?_
  · have was := ((leaveQueues_lessens g i x.work s).queue p).subset mem
    obtain ⟨y, w, hy, -, work, port⟩ := a.queue p i was
    rw [h] at hy; cases hy
    subst port
    simp only [leaveQueues, work, row_setPort, if_true] at mem
    exact (a.queueNodup _).not_mem_erase mem
  · have was := (leaveQueues_lessens g i x.work s).lineQueue.subset mem
    obtain ⟨y, w, hy, -, work⟩ := a.lineQueue i was
    rw [h] at hy; cases hy
    simp only [leaveQueues, work, State.setLine_line] at mem
    exact a.lineNodup.not_mem_erase mem

/-- A slot that has gone from its port's queue is referred to nowhere. -/
theorem Agree.unqueued_loose {t : State} (a : Agree g s) (l : Lessens g s t) {p : PortId} {i : SlotId}
    (mem : i ∈ (row s.ports p).queue) (gone : i ∉ (row t.ports p).queue) : Loose g t i := by
  intro y hy
  have after := l.agree a
  obtain ⟨x, hx, view⟩ := l.origin hy
  obtain ⟨z, w, hz, queued, work, port⟩ := a.queue p i mem
  obtain rfl : x = z := Option.some.inj (hx.symm.trans hz)
  obtain ⟨-, -, sameWork, -, sameState, -⟩ := Slot.view_eq view
  refine after.noReference_of_queued hy (sameState.trans queued) (fun r here => ?_) fun here => ?_
  · obtain ⟨y', w', hy', -, work', port'⟩ := after.queue r i here
    obtain rfl : y = y' := Option.some.inj (hy.symm.trans hy')
    rw [sameWork, work] at work'; cases work'
    obtain rfl : p = r := port.symm.trans port'
    exact gone here
  · obtain ⟨y', w', hy', -, work'⟩ := after.lineQueue i here
    obtain rfl : y = y' := Option.some.inj (hy.symm.trans hy')
    rw [sameWork, work] at work'; cases work'

/-! ### Issue (R51, R72, R75) -/

/-- The port that serves a slot from its first step on. -/
def servingPort (i : SlotId) (x : Slot) (w : PortWork) (r : RegionRecord) (port : Port) : Port :=
  { port with
    queue := port.queue.erase i
    lock := lockAtIssue x.initiator w port
    state := .issued
      { slot := i, step := .one, lowByte := none, timer := stepTimerOf r.fields.completion,
        presented := segmentStep w r.fields.lanes .one } }

/-- A slot issued, before a LOCK-READ's lock record is counted. -/
def issuedAt (p : PortId) (i : SlotId) (x : Slot) (w : PortWork) (r : RegionRecord) (s : State) : State :=
  (setSlotState i .active s).setPort p (servingPort i x w r (row s.ports p))

/-- The entry that an issue's new lock record references. -/
def lockEntry (w : PortWork) : Option EntryId := if w.kind = .lockRead then some w.entry else none

theorem issueSlot_eq {p : PortId} {i : SlotId} {x : Slot} {w : PortWork} {r : RegionRecord} (hx : row s.slots i = some x)
    (work : portWorkOf s i = some w) (hr : row s.regions w.entry = some r) :
    issueSlot p i s = if w.kind = .lockRead then raiseCount w.entry (issuedAt p i x w r s) else issuedAt p i x w r s := by
  simp only [issueSlot, hx, work, hr]
  cases kind : w.kind <;> simp [issuedAt, servingPort]

theorem portWorkOf_some {i : SlotId} {x : Slot} {w : PortWork} (h : row s.slots i = some x) (work : portWorkOf s i = some w) :
    x.work = .port w := by
  rw [portWorkOf, h] at work
  cases kind : x.work <;> simp_all

theorem issuedAt_eq {p : PortId} {i : SlotId} {x : Slot} {w : PortWork} {r : RegionRecord} (hx : row s.slots i = some x)
    (port : w.port = p) : issuedAt p i x w r s =
      ((leaveQueues i (.port w) s).setSlot i (some { x with state := .active })).setPort p
        (servingPort i x w r (row s.ports p)) := by
  subst port
  simp [issuedAt, setSlotState_eq hx, leaveQueues, State.setSlot, State.setPort]

theorem Agree.issuedAt (a : Agree g s) {p : PortId} {i : SlotId} {x : Slot} {w : PortWork} {r : RegionRecord}
    (hx : row s.slots i = some x) (work : x.work = .port w) (mem : i ∈ (row s.ports p).queue) :
    Agree g (issuedAt p i x w r s) := by
  obtain ⟨y, v, hy, queued, work', port⟩ := a.queue p i mem
  rw [hx] at hy; cases hy
  rw [work] at work'; cases work'
  have unheld : g.held ≠ some i := fun held => by
    have := (a.held i x held hx).1
    simp [queued] at this
  have free := a.leaveQueues_noReference hx queued
  rw [work] at free
  have left := (leaveQueues_lessens g i (.port w) s).agree a
  rw [issuedAt_eq hx port]
  have here : row (leaveQueues i (.port w) s).slots i = some x := by simpa using hx
  refine (left.setState here free unheld .active).setPort ?_ ?_
  · subst port
    simp [leaveQueues, servingPort]
  · rintro - cur h
    cases h
    exact ⟨{ x with state := .active }, w, by rw [row_setSlot, if_pos rfl], rfl, work, port⟩

theorem row_issuedAt {p : PortId} {i j : SlotId} {x y : Slot} {w : PortWork} {r : RegionRecord} (hx : row s.slots i = some x)
    (h : row (issuedAt p i x w r s).slots j = some y) :
    (j = i ∧ y = { x with state := .active }) ∨ (j ≠ i ∧ row s.slots j = some y) := by
  rw [issuedAt, State.setPort_slots, setSlotState_eq hx, row_setSlot] at h
  split at h
  · next e => exact .inl ⟨e, (Option.some.inj h).symm⟩
  · next ne => exact .inr ⟨ne, h⟩

theorem lockAtIssue_claim {x : Slot} {w : PortWork} {port : Port} (kind : w.kind ≠ .lockRead) :
    (lockAtIssue x.initiator w port).map LockRecord.claim = port.lock.map LockRecord.claim := by
  unfold lockAtIssue
  split
  · next h => exact absurd h kind
  · cases port.lock with
    | none => rfl
    | some l => simp only [Option.map_some]; split <;> rfl
  · rfl
  · rfl

/-- An issue leaves the slots' references as they are, and a LOCK-READ's adds that of its lock record. -/
theorem issuedAt_refs (a : Agree g s) (ok : ReferencesOk s) {p : PortId} {i : SlotId} {x : Slot} {w : PortWork}
    {r : RegionRecord} (hx : row s.slots i = some x) (work : x.work = .port w) (mem : i ∈ (row s.ports p).queue)
    (pick : ∀ l, (row s.ports p).lock = some l → x.initiator = l.owner) :
    RefsOff none (lockEntry w) (issuedAt p i x w r s) := by
  obtain ⟨y, v, hy, queued, work', port⟩ := a.queue p i mem
  rw [hx] at hy; cases hy
  rw [work] at work'; cases work'
  obtain ⟨counts, draining, retires, single, owned⟩ := ok
  have slots : (issuedAt p i x w r s).slots = (s.setSlot i (some { x with state := .active })).slots := by
    rw [issuedAt, setSlotState_eq hx]; rfl
  have slotCount (e : EntryId) := references_setSlot (y := { x with state := .active }) hx rfl e
  have lock (q : PortId) : (row (issuedAt p i x w r s).ports q).lock =
      if q = p then lockAtIssue x.initiator w (row s.ports p) else (row s.ports q).lock := by
    rw [issuedAt, row_setPort]; split <;> simp [servingPort]
  have regions : (issuedAt p i x w r s).regions = s.regions := by simp [issuedAt]
  have management : (issuedAt p i x w r s).management = s.management := by simp [issuedAt]
  have noLock (kind : w.kind = .lockRead) : (row s.ports p).lock = none := by
    cases hl : (row s.ports p).lock with
    | none => rfl
    | some l =>
      have := owned p l i x w hl hx work kind port (pick l hl)
      simp [queued] at this
  refine ⟨fun e => ?_, by rw [regions]; exact draining, by rw [regions, management]; exact retires, fun j j' y y' v v' hj hj' hv hv' kv kv' same own => ?_, fun q l j y v hl hj hv kv port' own => ?_⟩
  · have locks := countP_finRange_add p (fun q => (row s.ports q).lock.any fun l => decide (l.entry = e))
      (fun q => (row (issuedAt p i x w r s).ports q).lock.any fun l => decide (l.entry = e))
      (fun q ne => by rw [lock, if_neg ne])
    have before : references s e = countOf s e := counts e
    have slotCount := slotCount e
    simp only [references, State.setSlot_ports] at before slotCount ⊢
    rw [slots, countOf, regions, ← countOf, ← before]
    simp only [lock p, if_true] at locks
    by_cases kind : w.kind = .lockRead
    · simp only [lockAtIssue, kind, noLock kind, Option.any_none, Option.any_some, newLock, Bool.toNat_false] at locks
      simp only [lockEntry, kind, if_true, oneFor, Option.some.injEq, reduceCtorEq, if_false]
      by_cases same : w.entry = e
      · simp only [same, decide_true, Bool.toNat_true, if_true] at locks ⊢; omega
      · simp only [same, decide_false, Bool.toNat_false, if_false] at locks ⊢; omega
    · have claims := any_of_map_eq (P := fun l : LockRecord => decide (l.entry = e)) (fun c => decide (c.2 = e))
        (lockAtIssue_claim (x := x) (port := row s.ports p) kind) fun _ => rfl
      simp only [lockEntry, kind, if_false, oneFor_none]
      rw [claims] at locks
      omega
  · have origin (j : SlotId) (y : Slot) (h : row (issuedAt p i x w r s).slots j = some y) :
        ∃ z, row s.slots j = some z ∧ y.work = z.work ∧ y.initiator = z.initiator := by
      rcases row_issuedAt hx h with ⟨rfl, rfl⟩ | ⟨-, h⟩
      · exact ⟨x, hx, rfl, rfl⟩
      · exact ⟨y, h, rfl, rfl⟩
    obtain ⟨z, hz, wz, iz⟩ := origin j y hj
    obtain ⟨z', hz', wz', iz'⟩ := origin j' y' hj'
    exact single j j' z z' v v' hz hz' (wz ▸ hv) (wz' ▸ hv') kv kv' same (by rw [← iz, ← iz', own])
  · rcases row_issuedAt hx hj with ⟨rfl, rfl⟩ | ⟨ne, old⟩
    · rfl
    · rw [lock] at hl
      split at hl
      · next e =>
        subst e
        by_cases kind : w.kind = .lockRead
        · simp only [lockAtIssue, kind, Option.some.injEq] at hl
          subst hl
          exact absurd (single j i y x v w old hx hv work kv kind (port'.trans port.symm) own) ne
        · have claim := lockAtIssue_claim (x := x) (port := row s.ports q) kind
          rw [hl] at claim
          obtain ⟨k, hk, same⟩ : ∃ k, (row s.ports q).lock = some k ∧ k.claim = l.claim := by simpa using claim.symm
          exact owned q k j y v hk old hv kv port' (own.trans (congrArg Prod.fst same).symm)
      · exact owned q l j y v hl old hv kv port' own

theorem issuedAt_sound {p : PortId} {i : SlotId} {x : Slot} {w : PortWork} {r : RegionRecord} (hx : row s.slots i = some x)
    (idle : (row s.ports p).state = .idle) (mem : i ∈ (row s.ports p).queue) : Sound s (issuedAt p i x w r s) := by
  rw [issuedAt, setSlotState_eq hx]
  refine
    { ports := fun ok => PortsOk.setPort (s := s.setSlot i (some { x with state := .active })) ok fun here => ?_
      table := fun ok => ok.replace hx ⟨rfl, rfl⟩ (by simp) fun yes => .inl ⟨yes, rfl⟩ }
  obtain ⟨held, -, timer, down⟩ := here
  have ungranted : (row s.ports p).gate ≠ .granted := fun h => by simp [idle] at held; exact held h
  refine ⟨by simpa [servingPort] using ungranted, by simp [servingPort], timer, fun isDown => ?_⟩
  have empty := (down isDown).1
  change (row s.ports p).queue = [] at empty
  rw [empty] at mem
  simp at mem

/-- The head of an IDLE port's queue, or the oldest slot of the lock's owner, is issued. -/
theorem issueSlot_keeps (q : A → Agree g s) {p : PortId} {i : SlotId} (idle : (row s.ports p).state = .idle)
    (mem : i ∈ (row s.ports p).queue) (pick : ∀ l, (row s.ports p).lock = some l → slotInitiator s i = some l.owner) :
    Keeps A B g s (issueSlot p i s) := by
  cases hx : row s.slots i with
  | none => simpa [issueSlot, hx] using Keeps.refl q
  | some x =>
    cases work : portWorkOf s i with
    | none => simpa [issueSlot, hx, work] using Keeps.refl q
    | some w =>
      cases hr : row s.regions w.entry with
      | none => simpa [issueSlot, hx, work, hr] using Keeps.refl q
      | some r =>
        have works := portWorkOf_some hx work
        have picked (l : LockRecord) (hl : (row s.ports p).lock = some l) : x.initiator = l.owner := by
          simpa [slotInitiator, hx] using pick l hl
        have ports (h : A) : ReferencesOk s → RefsOff none (lockEntry w) (issuedAt p i x w r s) := fun ok =>
          issuedAt_refs (q h) ok hx works mem picked
        have agree (h : A) : Agree g (issuedAt p i x w r s) := (q h).issuedAt hx works mem
        have chains : (issuedAt p i x w r s).chains = s.chains := by simp [issuedAt]
        have issued : ∀ t, t = issuedAt p i x w r s ∨ t = raiseCount w.entry (issuedAt p i x w r s) →
            (A → ReferencesOk s → ReferencesOk t) → Keeps A B g s t := by
          rintro t shape refs
          have from' : Sound (issuedAt p i x w r s) t ∧ Lessens g (issuedAt p i x w r s) t ∧
              t.slots = (issuedAt p i x w r s).slots ∧ t.chains = s.chains ∧ t.acceptCounter = s.acceptCounter := by
            rcases shape with rfl | rfl
            · exact ⟨.refl _, SameRequests.lessens {} g, rfl, chains, by simp [issuedAt]⟩
            · exact ⟨raiseCount_sound _ _, raiseCount_lessens g _ _, by simp, by simp [issuedAt], by simp [issuedAt]⟩
          obtain ⟨sound, lessens, slots, same, counter⟩ := from'
          refine ⟨(issuedAt_sound hx idle mem).trans sound, fun h => lessens.agree (agree h), refs, fun h ok => ?_,
            fun h _ ok => ?_⟩
          · obtain ⟨y, v, hy, queued, -⟩ := (q h).queue p i mem
            rw [hx] at hy; cases hy
            refine ok.lessen (fun k => by rw [same]) fun k j z inList hj => ?_
            rw [slots, issuedAt, State.setPort_slots, setSlotState_eq hx, row_setSlot]
            split
            · next e =>
              subst e
              obtain rfl : x = z := by simpa [hx] using hj
              refine ⟨_, rfl, rfl, rfl, rfl, fun tail => ?_⟩
              rw [same] at tail
              exact absurd tail (ok.not_behind hx (by simp [queued]) k)
            · exact ⟨z, hj, rfl, rfl, rfl, fun _ => rfl⟩
          · refine ok.lessen (fun j y hj => ?_) counter (fun r' => ?_) ?_
            · rw [slots] at hj
              rcases row_issuedAt hx hj with ⟨rfl, rfl⟩ | ⟨-, hj⟩
              · exact ⟨x, hx, rfl⟩
              · exact ⟨y, hj, rfl⟩
            · refine (lessens.queue r').trans ?_
              rw [issuedAt, row_setPort]
              split
              · next e => subst e; exact List.erase_sublist
              · simp
            · exact lessens.lineQueue.trans (by simp [issuedAt])
        rw [issueSlot_eq hx work hr]
        split
        · next kind =>
          refine issued _ (.inr rfl) fun h ok => ?_
          have off := ports h ok
          rw [lockEntry, if_pos kind] at off
          exact off.raiseCount (by simp [issuedAt, hr])
        · next kind =>
          refine issued _ (.inl rfl) fun h ok => ?_
          have off := ports h ok
          rw [lockEntry, if_neg kind] at off
          exact (refsOff_none_iff _).mp off

/-! ### The arbiter (R49, R85) -/

theorem grantHold_keeps (q : A → Agree g s) {p : PortId}
    (pending : (row s.ports p).gate = .pending) (free : (row s.ports p).lock = none) : Keeps A B g s (grantHold p s) := by
  refine setPort_keeps q (fun ok => ?_) rfl rfl (fun _ _ cur h => by simp at h)
  obtain ⟨-, -, -, down⟩ := ok
  refine ⟨by simp, fun _ => free, by simp, fun isDown => ?_⟩
  exact absurd pending (down isDown).2.2

theorem arbiterPick_spec {p : PortId} {i : SlotId} (h : arbiterPick s (row s.ports p) = some i) :
    i ∈ (row s.ports p).queue ∧ ∀ l, (row s.ports p).lock = some l → slotInitiator s i = some l.owner := by
  unfold arbiterPick at h
  split at h
  · next l hl =>
    refine ⟨List.mem_of_find?_eq_some h, fun k hk => ?_⟩
    obtain rfl : l = k := by simpa [hl] using hk
    simpa using List.find?_some h
  · next none => exact ⟨List.mem_of_mem_head? h, fun l hl => by simp [none] at hl⟩

theorem arbiter_keeps (q : A → Agree g s) (p : PortId) : Keeps A B g s (arbiter p s) := by
  unfold arbiter
  dsimp only
  split
  · next idle =>
    split
    · next grant => exact grantHold_keeps q grant.1 grant.2
    · split
      · next i picked => exact issueSlot_keeps q idle (arbiterPick_spec picked).1 (arbiterPick_spec picked).2
      · exact .refl q
  · exact .refl q

theorem takeRaise_keeps (q : A → Agree g s) (p : PortId) : Keeps A B g s (takeRaise p s) := by
  unfold takeRaise
  dsimp only
  split
  · next takes =>
    obtain ⟨up, none⟩ := takes
    have pending : Keeps A B g s (s.setPort p { row s.ports p with gate := .pending }) := by
      refine setPort_quiet_keeps q (fun ok => ?_) rfl rfl fun cur h => ⟨cur, h, rfl⟩
      obtain ⟨held, lock, timer, -⟩ := ok
      rw [none] at held timer
      refine ⟨by simpa using held, lock, fun running => ?_, fun down => by simp [up] at down⟩
      exact absurd (timer running) (by simp)
    exact pending.trans (arbiter_keeps pending.queues p)
  · exact .refl q

/-- A QUEUED slot that nothing refers to joins its port. -/
theorem joinPort_keeps (q : A → Agree g s) {p : PortId} {i : SlotId}
    (queued : A → ∃ x w, row s.slots i = some x ∧ x.state = .queued ∧ x.work = .port w ∧ w.port = p)
    (loose : A → Loose g s i) : Keeps A B g s (joinPort p i s) := by
  unfold joinPort
  dsimp only
  split
  · exact (failSlot_ends q loose _).toKeeps
  · next up =>
    have placed : Keeps A B g s (placedAt p i s) := placedAt_keeps q up queued fun h => by
      obtain ⟨x, -, hx, -⟩ := queued h
      exact (loose h x hx).queue p
    exact placed.trans (arbiter_keeps placed.queues p)

/-! ### Removal of a lock record (R69) -/

/-- The port without its lock record and without the slots that it loses. -/
def unlockedPort (s : State) (p : PortId) (l : LockRecord) : State :=
  s.setPort p { row s.ports p with
    lock := none, queue := (row s.ports p).queue.filter fun i => !isUnlockOf s l.owner i }

theorem dropLock_eq (p : PortId) (l : LockRecord) (expired : Bool) (s : State) :
    dropLock p l expired s =
      if expired then raiseIncident .lockExpired (some (.portAddress p l.address))
        (loseUnlocks ((row s.ports p).queue.filter (isUnlockOf s l.owner)) (lowerCount l.entry (unlockedPort s p l)))
      else loseUnlocks ((row s.ports p).queue.filter (isUnlockOf s l.owner)) (lowerCount l.entry (unlockedPort s p l)) := rfl

theorem unlockedPort_lessens (g : Exempt) (p : PortId) (l : LockRecord) (s : State) : Lessens g s (unlockedPort s p l) where
  rows _ x h := .inl ⟨x, h, rfl⟩
  free _ := id
  queue r := by
    rw [unlockedPort, row_setPort]
    split <;> [(next e => subst e; exact List.filter_sublist); exact .refl _]
  lineQueue := .refl _
  current r cur h := by
    rw [unlockedPort, row_setPort] at h
    split at h
    · next e => subst e; exact ⟨cur, h, rfl⟩
    · exact ⟨cur, h, rfl⟩
  lineOp _ := .inl
  retires := .refl _

theorem unlockedPort_refs (ok : ReferencesOk s) {p : PortId} {l : LockRecord} (hl : (row s.ports p).lock = some l) :
    RefsOff (some l.entry) none (unlockedPort s p l) := by
  obtain ⟨counts, draining, retires, lockReads⟩ := ok
  have lock (r : PortId) : (row (unlockedPort s p l).ports r).lock = if r = p then none else (row s.ports r).lock := by
    rw [unlockedPort, row_setPort]; split <;> rfl
  refine ⟨fun e => ?_, draining, retires, lockReads.lessen (fun i x hx => ⟨x, hx, rfl, rfl, id⟩) fun r k hk => ?_⟩
  · have locks := countP_finRange_add p (fun q => (row s.ports q).lock.any fun l => decide (l.entry = e))
      (fun q => (row (unlockedPort s p l).ports q).lock.any fun l => decide (l.entry = e))
      (fun q ne => by rw [lock, if_neg ne])
    simp only [lock p, if_true, hl, Option.any_none, Option.any_some, Bool.toNat_false, Nat.add_zero] at locks
    have before : references s e = countOf s e := counts e
    simp only [references] at before ⊢
    have slots : (unlockedPort s p l).slots = s.slots := rfl
    have same : countOf (unlockedPort s p l) e = countOf s e := rfl
    rw [slots, same, ← before, oneFor_none, ← locks, oneFor]
    by_cases e' : l.entry = e
    · simp [e']; omega
    · simp [e']
  · rw [lock] at hk
    split at hk
    · simp at hk
    · exact ⟨k, hk, rfl⟩

theorem dropLock_ends (q : A → Agree g s) {p : PortId} {l : LockRecord} (expired : Bool) (hl : (row s.ports p).lock = some l) :
    Ends A B g s (dropLock p l expired s) := by
  have agree (h : A) : Agree g (unlockedPort s p l) := (unlockedPort_lessens g p l s).agree (q h)
  have lessens (h : A) : Lessens g s (lowerCount l.entry (unlockedPort s p l)) :=
    (unlockedPort_lessens g p l s).trans (lowerCount_lessens (agree h) _)
  have removed : Ends A B g s (lowerCount l.entry (unlockedPort s p l)) :=
    { toSound := by
        refine Sound.trans (t := unlockedPort s p l) { ports := fun ok => ok.setPort fun here => ?_ } (lowerCount_sound _ _)
        obtain ⟨held, -, timer, down⟩ := here
        refine ⟨held, fun _ => rfl, timer, fun isDown => ?_⟩
        obtain ⟨empty, -, gate⟩ := down isDown
        exact ⟨by simp [empty], rfl, gate⟩
      queues := fun h => (lessens h).agree (q h)
      refs := fun h ok => (unlockedPort_refs ok hl).lowerCount (agree h)
      members := fun h ok => by
        have chains : (lowerCount l.entry (unlockedPort s p l)).chains = s.chains := by simp [unlockedPort]
        refine ok.lessen (fun k => by rw [chains]) fun k i x mem hx => ?_
        rw [chains] at mem
        obtain ⟨-, occupied, -⟩ := ok k
        obtain ⟨y, hy, -, -, work⟩ := occupied i mem
        obtain rfl : x = y := by simpa [hx] using hy
        exact ⟨x, lowerCount_rows (agree h) _ hx work, rfl, rfl, rfl, fun _ => rfl⟩
      order := fun h _ => (lessens h).order (by simp [unlockedPort])
      lessens := lessens }
  have lost (h : A) (i : SlotId) (hi : i ∈ (row s.ports p).queue.filter (isUnlockOf s l.owner)) :
      Loose g (lowerCount l.entry (unlockedPort s p l)) i := by
    obtain ⟨mem, unlock⟩ := List.mem_filter.mp hi
    refine (lowerCount_lessens (agree h) _).loose ((q h).unqueued_loose (unlockedPort_lessens g p l s) mem ?_)
    simp [unlockedPort, unlock]
  have told := removed.trans (loseUnlocks_ends _ removed.queues lost)
  rw [dropLock_eq]
  split
  · exact told.trans (raiseIncident_ends told.queues _ _)
  · exact told

theorem removeLock_keeps (q : A → Agree g s) (p : PortId) (expired : Bool) : Keeps A B g s (removeLock p expired s) := by
  unfold removeLock
  split
  · exact .refl q
  · next l hl =>
    have dropped : Ends A B g s (dropLock p l expired s) := dropLock_ends q expired hl
    exact dropped.toKeeps.trans (arbiter_keeps dropped.queues p)

end

end Sys2Proof.Machine
end

section
/-! PROOFS. What one step keeps, part 7: the bit line's arbiter, the destinations of a slot, and the end of a service with what a
chain's release starts (R33, R35 to R37, R58, R98, R111, R113, R120). -/

namespace Sys2Proof.Machine

-- one proof at a time: the text is compiled whole, in one process whose threads share its memory limit
set_option Elab.async false

section
variable {A B : Prop} {g : Exempt} {s : State}

/-! ### The line arbiter -/

/-- The line's operation changes: a request's belongs to an ACTIVE bit slot. -/
theorem setLine_op_keeps (q : A → Agree g s) {l : LineUnit} (queue : l.queue = s.line.queue)
    (op : A → g.lineEnds = false → ∀ o i, l.op = some o → o.origin = .request i →
      ∃ x w, row s.slots i = some x ∧ x.state = .active ∧ x.work = .bit w) : Keeps A B g s (s.setLine l) where
  toSound := {}
  queues a :=
    { q a with
      lineNodup := queue ▸ (q a).lineNodup
      lineQueue := fun i hi => (q a).lineQueue i (queue ▸ hi)
      lineOp := op a }
  refs _ := id
  members _ := id
  order _ _ ok := ⟨ok.1, ok.2.1, queue ▸ ok.2.2⟩

/-- A QUEUED slot that nothing refers to becomes ACTIVE. -/
theorem activate_keeps (q : A → Agree g s) {i : SlotId} {x : Slot} (h : row s.slots i = some x)
    (queued : A → x.state = .queued) (loose : A → Loose g s i) :
    Keeps A B g s (s.setSlot i (some { x with state := .active })) := by
  refine setSlot_keeps h rfl rfl rfl rfl rfl (fun a => ?_) (fun _ => by simp)   .inl (fun _ _ => rfl) fun a ok => ?_
  · refine (q a).setState h (loose a x h) (fun held => ?_) .active
    have := ((q a).held i x held h).1
    simp [queued a] at this
  · exact .inr (ok.not_behind h (by simp [queued a]))

theorem NoReference.setSlot {i : SlotId} {x y : Slot} (n : NoReference g s i x) (key : y.initiator = x.initiator ∧ y.tag = x.tag) :
    NoReference g (s.setSlot i (some y)) i y :=
  ⟨n.queue, n.lineQueue, n.current, n.lineOp, fun r hr h => n.retires r hr ⟨h.1.trans key.1, h.2.trans key.2⟩⟩

theorem Loose.setSlot {i : SlotId} {x y : Slot} (h : row s.slots i = some x) (loose : Loose g s i)
    (key : y.initiator = x.initiator ∧ y.tag = x.tag) : Loose g (s.setSlot i (some y)) i := by
  intro z hz
  rw [row_setSlot, if_pos rfl, Option.some.injEq] at hz
  exact hz ▸ (loose x h).setSlot key

theorem takeBitSlot_keeps (q : A → Agree g s) {i : SlotId}
    (queued : A → ∃ x w, row s.slots i = some x ∧ x.state = .queued ∧ x.work = .bit w) (loose : A → Loose g s i) :
    Keeps A B g s (takeBitSlot i s) := by
  unfold takeBitSlot
  split
  · next x w hx _ =>
    have isQueued (a : A) : x.state = .queued := by
      obtain ⟨y, v, hy, state, -⟩ := queued a
      exact Option.some.inj (hx.symm.trans hy) ▸ state
    have taken : Keeps A B g s (s.setSlot i (some { x with state := .active })) := activate_keeps q hx isQueued loose
    dsimp only
    split
    · exact taken.trans (failSlot_ends taken.queues (fun a => (loose a).setSlot hx ⟨rfl, rfl⟩) _).toKeeps
    · refine taken.trans (setLine_op_keeps taken.queues rfl fun a _ o j ho hj => ?_)
      cases ho
      cases hj
      obtain ⟨y, v, hy, -, work⟩ := queued a
      obtain rfl : x = y := Option.some.inj (hx.symm.trans hy)
      exact ⟨{ x with state := .active }, v, by rw [row_setSlot, if_pos rfl], rfl, work⟩
  · exact .refl q

theorem dequeue_ends (q : A → Agree g s) : Ends A B g s (s.setLine s.line.dequeue) := by
  have lessens : Lessens g s (s.setLine s.line.dequeue) :=
    { rows := fun _ x h => .inl ⟨x, h, rfl⟩
      free := fun _ => id
      queue := fun _ => .refl _
      lineQueue := List.tail_sublist _
      current := fun _ cur h => ⟨cur, h, rfl⟩
      lineOp := fun _ => .inl
      retires := .refl _ }
  exact { toSound := {}, queues := fun a => lessens.agree (q a), refs := fun _ => id, members := fun _ => id,
          order := fun _ _ => lessens.order rfl, lessens := fun _ => lessens }

/-- The head of the line queue, taken from it, is referred to nowhere. -/
theorem Agree.dequeue_loose (a : Agree g s) {i : SlotId} {rest : List SlotId} (head : s.line.queue = i :: rest) :
    Loose g (s.setLine s.line.dequeue) i := by
  intro x hx
  have dequeued : Agree g (s.setLine s.line.dequeue) := (dequeue_ends (A := True) (B := True) fun _ => a).queues trivial
  obtain ⟨y, w, hy, queued, work⟩ := a.lineQueue i (by simp [head])
  obtain rfl : y = x := Option.some.inj (hy.symm.trans hx)
  refine dequeued.noReference_of_queued hx queued (fun p hp => ?_) fun mem => ?_
  · obtain ⟨z, v, hz, -, work', -⟩ := dequeued.queue p i hp
    obtain rfl : y = z := Option.some.inj (hx.symm.trans hz)
    simp [work] at work'
  · have nodup := a.lineNodup
    simp only [State.setLine_line, LineUnit.dequeue, head, List.tail_cons] at mem
    rw [head] at nodup
    exact (List.nodup_cons.mp nodup).1 mem

theorem lineArbiterFor_keeps (fuel : Nat) (q : A → Agree g s) : Keeps A B g s (lineArbiterFor fuel s) := by
  induction fuel generalizing s with
  | zero => exact .refl q
  | succ fuel ih =>
    unfold lineArbiterFor
    split
    · split
      · next poll i rest head =>
        split
        · have dequeued : Ends A B g s (s.setLine s.line.dequeue) := dequeue_ends q
          have taken : Keeps A B g s (takeBitSlot i (s.setLine s.line.dequeue)) :=
            dequeued.toKeeps.trans (takeBitSlot_keeps dequeued.queues (fun a => (q a).lineQueue i (by simp [head]))
              fun a => (q a).dequeue_loose head)
          exact taken.trans (ih taken.queues)
        · split
          · exact takePoll_keeps q _
          · exact .refl q
      · exact takePoll_keeps q _
      · exact .refl q
    · exact .refl q

theorem lineArbiter_keeps (q : A → Agree g s) : Keeps A B g s (lineArbiter s) := lineArbiterFor_keeps _ q

theorem joinLine_keeps (q : A → Agree g s) {i : SlotId}
    (queued : A → ∃ x w, row s.slots i = some x ∧ x.state = .queued ∧ x.work = .bit w) (loose : A → Loose g s i) :
    Keeps A B g s (joinLine i s) := by
  have placed : Keeps A B g s (placedOnLine i s) := placedOnLine_keeps q queued fun a => by
    obtain ⟨x, -, hx, -⟩ := queued a
    exact (loose a x hx).lineQueue
  exact placed.trans (lineArbiter_keeps placed.queues)

/-! ### Destinations and chains (R33, R98, R99) -/

/-- A WAITING slot that nothing refers to and that stands behind no member joins the queue of its destination. -/
theorem joinDestination_keeps (q : A → Agree g s) {i : SlotId} {w : Work}
    (waiting : A → ∃ x, row s.slots i = some x ∧ x.state = .waiting ∧ x.work = w) (loose : A → Loose g s i)
    (head : A → MemberListsOk s → ∀ k, i ∉ (row s.chains k).members.tail) : Keeps A B g s (joinDestination i w s) := by
  have queued : Keeps A B g s (setSlotState i .queued s) := by
    cases hx : row s.slots i with
    | none => simpa [setSlotState, hx] using Keeps.refl q
    | some x =>
      have isWaiting (a : A) : x.state = .waiting := by
        obtain ⟨y, hy, state, -⟩ := waiting a
        exact Option.some.inj (hx.symm.trans hy) ▸ state
      rw [setSlotState_eq hx]
      refine setSlot_keeps hx rfl rfl rfl rfl rfl (fun a => ?_) (fun _ => by simp) .inl (fun a active => ?_) fun a ok => .inr (head a ok)
      · refine (q a).setState hx (loose a x hx) (fun held => ?_) .queued
        have := ((q a).held i x held hx).1
        simp [isWaiting a] at this
      · simp [isWaiting a] at active
  have loose' (a : A) : Loose g (setSlotState i .queued s) i := by
    obtain ⟨x, hx, -⟩ := waiting a
    rw [setSlotState_eq hx]
    exact (loose a).setSlot hx ⟨rfl, rfl⟩
  have placed (a : A) : ∃ x, row (setSlotState i .queued s).slots i = some x ∧ x.state = .queued ∧ x.work = w := by
    obtain ⟨x, hx, -, work⟩ := waiting a
    exact ⟨{ x with state := .queued }, by rw [setSlotState_eq hx, row_setSlot, if_pos rfl], rfl, work⟩
  unfold joinDestination
  dsimp only
  split
  · next pw =>
    refine queued.trans (joinPort_keeps queued.queues (fun a => ?_) loose')
    obtain ⟨x, hx, state, work⟩ := placed a
    exact ⟨x, pw, hx, state, work, rfl⟩
  · next bw =>
    refine queued.trans (joinLine_keeps queued.queues (fun a => ?_) loose')
    obtain ⟨x, hx, state, work⟩ := placed a
    exact ⟨x, bw, hx, state, work⟩
  · exact queued.trans (Sound.keeps {} {} queued.queues)

theorem advanceChain_keeps (q : A → Agree g s) (k : Initiator) : Keeps A B g s (advanceChain k s) := by
  unfold advanceChain
  split
  · next i rest _ members =>
    split
    · next x hx =>
      split
      · next waiting =>
        refine joinDestination_keeps q (fun _ => ⟨x, hx, waiting, rfl⟩) (fun a y hy => ?_) fun _ ok k' tail => ?_
        · obtain rfl : x = y := Option.some.inj (hx.symm.trans hy)
          exact (q a).noReference_of_waiting hx waiting
        · have own {j : Initiator} (mem : i ∈ (row s.chains j).members) : x.initiator = j := by
            obtain ⟨y, hy, own, -⟩ := (ok j).2.1 i mem
            exact Option.some.inj (hx.symm.trans hy) ▸ own
          obtain rfl : k' = k := (own (List.mem_of_mem_tail tail)).symm.trans (own (by simp [members]))
          have nodup := (ok k').1
          rw [members] at nodup tail
          exact (List.nodup_cons.mp nodup).1 tail
      · exact .refl q
    · exact .refl q
  · exact (sweepChain_ends q k).toKeeps
  · exact .refl q
  · exact .refl q

theorem completeSlot_keeps (q : A → Agree g s) {i : SlotId} (loose : A → Loose g s i) (a : Answer) :
    Keeps A B g s (completeSlot i a s) := by
  unfold completeSlot
  split
  · exact .refl q
  · have finished : Ends A B g s (finishSlot i a s) := finishSlot_ends q loose a
    dsimp only
    split
    · exact finished.toKeeps.trans (advanceChain_keeps finished.queues _)
    · exact finished.toKeeps

/-! ### What an event leaves out while a service ends -/

/-- Between events a slot is held by no one. -/
theorem Agree.exempt (a : Agree .nothing s) (held : g.held = none) : Agree g s :=
  { a with
    current := fun p cur _ => a.current p cur (by simp [Exempt.nothing])
    lineOp := fun _ => a.lineOp rfl
    held := fun i x h => by simp [held] at h }

/-- The slot that a port serves is referred to by that port alone. -/
theorem Agree.noReference_of_served (a : Agree g s) {i : SlotId} {x : Slot} {w : PortWork} (h : row s.slots i = some x)
    (active : x.state = .active) (work : x.work = .port w) (ending : g.ending = some w.port) : NoReference g s i x where
  queue p hi := by obtain ⟨y, v, hy, hs, -⟩ := a.queue p i hi; simp_all
  lineQueue hi := by obtain ⟨y, v, hy, hs, -⟩ := a.lineQueue i hi; simp_all
  current p cur hp hc e := by
    obtain ⟨y, v, hy, -, hw, port⟩ := a.current p cur hp hc
    subst e
    simp_all
  lineOp he op ho e := by obtain ⟨y, v, hy, -, hw⟩ := a.lineOp he op i ho e; simp_all
  retires r hr key := by
    obtain ⟨j, y, op, hy, hi, ht, -, hw⟩ := a.retires r hr
    obtain rfl := a.keys i j x y h hy (key.1.symm.trans hi.symm) (key.2.symm.trans ht.symm)
    simp_all

/-- The slot of a request's line operation is referred to by that operation alone. -/
theorem Agree.noReference_of_lineOp (a : Agree g s) {i : SlotId} {x : Slot} {w : BitWork} (h : row s.slots i = some x)
    (active : x.state = .active) (work : x.work = .bit w) (ends : g.lineEnds = true) : NoReference g s i x where
  queue p hi := by obtain ⟨y, v, hy, hs, -⟩ := a.queue p i hi; simp_all
  lineQueue hi := by obtain ⟨y, v, hy, hs, -⟩ := a.lineQueue i hi; simp_all
  current p cur hp hc e := by obtain ⟨y, v, hy, -, hw, port⟩ := a.current p cur hp hc; subst e; simp_all
  lineOp he := by simp [ends] at he
  retires r hr key := by
    obtain ⟨j, y, op, hy, hi, ht, -, hw⟩ := a.retires r hr
    obtain rfl := a.keys i j x y h hy (key.1.symm.trans hi.symm) (key.2.symm.trans ht.symm)
    simp_all

/-- While a port's service ends, its current slot is left out. -/
def Exempt.service (p : PortId) : Exempt := ⟨some p, false, none⟩

/-- While a request's line operation ends, its slot is left out. -/
def Exempt.operation : Exempt := ⟨none, true, none⟩

/-! ### The end of a service (R58) -/

theorem issueSlot_port_ne {p r : PortId} (ne : p ≠ r) (i : SlotId) (s : State) :
    row (issueSlot r i s).ports p = row s.ports p := by
  unfold issueSlot
  split
  · split
    · dsimp only
      split <;> simp [row_putRow_ne _ _ _ _ ne]
    · rfl
  · rfl

/-- The arbiter of one port decides nothing at another. -/
theorem arbiter_port_ne {p r : PortId} (ne : p ≠ r) (s : State) : row (arbiter r s).ports p = row s.ports p := by
  unfold arbiter
  dsimp only
  split
  · split
    · exact row_putRow_ne _ _ _ _ ne
    · split
      · exact issueSlot_port_ne ne _ s
      · rfl
  · rfl

/-- A port that serves a slot keeps its current slot while others join. -/
theorem joinDestination_busy {p : PortId} (busy : (row s.ports p).state ≠ .idle) (i : SlotId) (w : Work) :
    (row (joinDestination i w s).ports p).state = (row s.ports p).state := by
  unfold joinDestination joinPort
  dsimp only
  split
  · next pw =>
    split
    · simp
    · by_cases same : p = pw.port
      · subst same
        rw [arbiter_busy (by rw [row_setPort, if_pos rfl]; simpa using busy), row_setPort, if_pos rfl]
        simp
      · rw [arbiter_port_ne same, row_setPort, if_neg same]
        simp
  · simp
  · simp

theorem completeSlot_busy {p : PortId} (busy : (row s.ports p).state ≠ .idle) (i : SlotId) (a : Answer) :
    (row (completeSlot i a s).ports p).state = (row s.ports p).state := by
  have finished : (finishSlot i a s).ports = s.ports := by simp
  unfold completeSlot
  split
  · rfl
  · dsimp only
    split
    · unfold advanceChain
      split
      · split
        · split
          · rw [joinDestination_busy (by rwa [finished]), finished]
          · rw [finished]
        · rw [finished]
      · simp
      · rw [finished]
      · rw [finished]
    · rw [finished]

theorem lockAtEnd_ends (q : A → Agree g s) {p : PortId} (busy : (row s.ports p).state ≠ .idle) (w : PortWork) (failed : Bool) :
    Ends A B g s (lockAtEnd p w failed s) := by
  unfold lockAtEnd
  split
  · unfold removeLock
    split
    · exact .refl q
    · next l hl =>
      rw [arbiter_busy (by rwa [dropLock_portState])]
      exact dropLock_ends q false hl
  · exact .refl q

theorem lockAtEnd_busy {p : PortId} (busy : (row s.ports p).state ≠ .idle) (w : PortWork) (failed : Bool) :
    (row (lockAtEnd p w failed s).ports p).state = (row s.ports p).state := by
  unfold lockAtEnd
  split
  · unfold removeLock
    split
    · rfl
    · rw [arbiter_busy (by rwa [dropLock_portState]), dropLock_portState]
  · rfl

theorem postedFailAtEnd_ends (q : A → Agree g s) (p : PortId) (x : Slot) (w : PortWork) (failed : Bool) :
    Ends A B g s (postedFailAtEnd p x w failed s) := by
  unfold postedFailAtEnd
  split
  · exact raiseIncident_ends q _ _
  · exact .refl q

theorem idlePort_keeps {p : PortId} (q : A → Agree (.service p) s) (serving : (row s.ports p).state ≠ .held) :
    Keeps A B .nothing s (idlePort p s) := by
  have idled : Keeps A B (.service p) s (idlePort p s) :=
    setPort_quiet_keeps q (fun ok => ?_) rfl rfl fun cur h => by simp at h
  · refine { idled with queues := fun a => ?_ }
    have here := idled.queues a
    refine { here with current := fun r cur _ hc => ?_, held := fun i x h => by simp [Exempt.nothing] at h }
    by_cases same : r = p
    · subst same; simp [idlePort] at hc
    · exact here.current r cur (by simpa [Exempt.service] using same) hc
  · obtain ⟨held, -, timer, down⟩ := ok
    exact ⟨by simpa [serving] using held, by simp, timer, down⟩

theorem endService_keeps (q : A → Agree .nothing s) {p : PortId} {cur : Issued} (serving : (row s.ports p).state = .issued cur)
    (a : Answer) (failed : Bool) : Keeps A B .nothing s (endService p cur.slot a failed s) := by
  have busy : (row s.ports p).state ≠ .idle := by simp [serving]
  have exempt (h : A) : Agree (.service p) s := (q h).exempt rfl
  unfold endService
  split
  · next x w hx _ =>
    have loose (h : A) : Loose (.service p) s cur.slot := by
      obtain ⟨y, v, hy, active, work, port⟩ := (q h).current p cur (by simp [Exempt.nothing]) serving
      intro z hz
      obtain rfl : y = z := Option.some.inj (hy.symm.trans hz)
      exact (exempt h).noReference_of_served hy active work (by rw [port]; rfl)
    have unlocked : Ends A B (.service p) s (lockAtEnd p w failed s) := lockAtEnd_ends exempt busy w failed
    have told : Ends A B (.service p) s (postedFailAtEnd p x w failed (lockAtEnd p w failed s)) :=
      unlocked.trans (postedFailAtEnd_ends unlocked.queues p x w failed)
    have completed := told.toKeeps.trans
      (completeSlot_keeps (A := A) (B := B) told.queues (fun h => (told.lessens h).loose (loose h)) a)
    have still : (row (completeSlot cur.slot a (postedFailAtEnd p x w failed (lockAtEnd p w failed s))).ports p).state =
        (row s.ports p).state := by
      have before : (row (postedFailAtEnd p x w failed (lockAtEnd p w failed s)).ports p).state = (row s.ports p).state := by
        simpa using lockAtEnd_busy busy w failed
      rw [completeSlot_busy (by rwa [before]), before]
    have idled := completed.trans (idlePort_keeps completed.queues (by simp [still, serving]))
    exact idled.trans (arbiter_keeps idled.queues p)
  · have idled : Keeps A B .nothing s (idlePort p s) := (Keeps.refl exempt).trans (idlePort_keeps exempt (by simp [serving]))
    exact idled.trans (arbiter_keeps idled.queues p)

/-! ### The end of a line operation (R111) -/

theorem freeLine_keeps (q : A → Agree .operation s) : Keeps A B .nothing s (freeLine s) := by
  have freed : Keeps A B .operation s (s.setLine { s.line with op := none }) := setLine_keeps q rfl fun o h => by simp at h
  have ended : Keeps A B .nothing s (s.setLine { s.line with op := none }) :=
    { freed with
      queues := fun a =>
        { freed.queues a with
          current := fun p cur _ => (freed.queues a).current p cur (by simp [Exempt.operation])
          lineOp := fun _ o i h => by simp at h
          held := fun i x h => by simp [Exempt.nothing] at h } }
  have checked := ended.trans (checkCycleEnd_keeps (A := A) (B := B) ended.queues)
  exact checked.trans (lineArbiter_keeps checked.queues)

/-- The slot of the operation on the line is loose while that operation ends. -/
theorem Agree.operation_loose (a : Agree .nothing s) {op : LineOp} {i : SlotId} (running : s.line.op = some op)
    (origin : op.origin = .request i) : Loose .operation s i := by
  obtain ⟨y, w, hy, active, work⟩ := a.lineOp rfl op i running origin
  intro z hz
  obtain rfl : y = z := Option.some.inj (hy.symm.trans hz)
  exact (a.exempt (g := .operation) rfl).noReference_of_lineOp hy active work rfl

theorem completeWithReply_keeps (q : A → Agree .nothing s) {op : LineOp} (running : s.line.op = some op) (pins : Positions) :
    Keeps A B .nothing s (completeWithReply op pins s) := by
  have exempt (h : A) : Agree .operation s := (q h).exempt rfl
  unfold completeWithReply
  dsimp only
  split
  · next i origin =>
    have applied : Keeps A B .operation s (s.setStation op.station (afterRequestReply (row s.stations op.station) op)) := by
      refine setStation_keeps exempt (fun ok => ok.afterRequestReply op) fun h => ?_
      unfold afterRequestReply at h
      split at h
      · exact h
      · split at h <;> (unfold afterReply at h; split at h <;> exact h)
    split
    · next w _ =>
      have completed := applied.trans (completeSlot_keeps (A := A) (B := B) applied.queues
        (fun a => (SameRequests.lessens {} .operation).loose ((q a).operation_loose running origin))
        (replyAnswer (row s.stations op.station) op w pins))
      exact completed.trans (freeLine_keeps completed.queues)
    · exact applied.trans (freeLine_keeps applied.queues)
  · have polled : Keeps A B .operation s (s.setStation op.station (afterPoll (row s.stations op.station) pins)) := by
      refine setStation_keeps exempt (fun ok => ok.afterPoll pins) fun h => ?_
      unfold afterPoll at h
      split at h
      · exact h
      · unfold afterPollReply afterReply at h
        repeat' split at h
        all_goals exact h
    exact polled.trans (freeLine_keeps polled.queues)

theorem timeoutStation_same (n : StationId) (s : State) : SameRequests s (timeoutStation n s) :=
  .of_eq (by simp) (by simp) (by simp) (by simp) (by simp) (by simp) (by simp)

theorem completeWithTimeout_keeps (q : A → Agree .nothing s) {op : LineOp} (running : s.line.op = some op) :
    Keeps A B .nothing s (completeWithTimeout op s) := by
  have exempt (h : A) : Agree .operation s := (q h).exempt rfl
  have counted : Keeps A B .operation s (timeoutStation op.station s) := timeoutStation_keeps exempt op.station
  unfold completeWithTimeout
  dsimp only
  split
  · next i origin =>
    have completed := counted.trans (completeSlot_keeps (A := A) (B := B) counted.queues
      (fun a => ((timeoutStation_same _ s).lessens .operation).loose ((q a).operation_loose running origin))
      (timeoutAnswer (row s.stations op.station)))
    exact completed.trans (freeLine_keeps completed.queues)
  · exact counted.trans (freeLine_keeps counted.queues)

theorem scanExpiry_keeps (q : A → Agree .nothing s) : Keeps A B .nothing s (scanExpiry s) := by
  have restarted : Keeps A B .nothing s (s.setLine { s.line with scanTimer := .running s.line.scanPeriod }) :=
    setLine_keeps q rfl fun _ => .inl
  unfold scanExpiry
  dsimp only
  split
  · have begun := restarted.trans (beginCycle_keeps (A := A) (B := B) restarted.queues)
    exact begun.trans (lineArbiter_keeps begun.queues)
  · have due : Keeps A B .nothing s (s.setLine { s.line with scanTimer := .running s.line.scanPeriod, cycleDue := true }) :=
      setLine_keeps q rfl fun _ => .inl
    exact due.trans (raiseIncident_keeps due.queues _ _)

end

end Sys2Proof.Machine
end

section
/-! PROOFS. What one step keeps, part 8: the steps of a service, a port's setting and hold, and abandonment (R40 to R43, R53 to R65, R69,
R84, R87, R88, R161). -/

namespace Sys2Proof.Machine

-- one proof at a time: the text is compiled whole, in one process whose threads share its memory limit
set_option Elab.async false

section
variable {A B : Prop} {g : Exempt} {s : State}

/-! ### Steps of a service (R53 to R55, R59) -/

theorem presentStepTwo_keeps (q : A → Agree g s) {p : PortId} {cur : Issued} {x : Slot}
    (serving : (row s.ports p).state = .issued cur) (hx : row s.slots cur.slot = some x) (w : PortWork) (f : RegionFields)
    (bytes : SegmentBytes) : Keeps A B g s (presentStepTwo p cur x w f bytes s) := by
  have stepped : Keeps A B g s (s.setSlot cur.slot (some { x with step := .two })) := setSlot_view_keeps q hx rfl .inl
  refine stepped.trans (setPort_quiet_keeps stepped.queues (fun ok => ?_) rfl rfl fun new h => ?_)
  · obtain ⟨held, -, timer, down⟩ := ok
    have ungranted : (row s.ports p).gate ≠ .granted := fun h => by
      have := held.mpr h
      simp [serving] at this
    exact ⟨by simpa using ungranted, by simp, timer, down⟩
  · cases h
    exact ⟨cur, serving, rfl⟩

theorem stepSucceeds_keeps (q : A → Agree .nothing s) {p : PortId} {cur : Issued}
    (serving : (row s.ports p).state = .issued cur) (bytes : SegmentBytes) :
    Keeps A B .nothing s (stepSucceeds p cur bytes s) := by
  unfold stepSucceeds
  split
  · next x w hx _ =>
    split
    · split
      · exact presentStepTwo_keeps q serving hx w _ bytes
      · exact endService_keeps q serving _ false
    · exact .refl q
  · exact .refl q

theorem stepFails_keeps (q : A → Agree .nothing s) {p : PortId} {cur : Issued} (serving : (row s.ports p).state = .issued cur) :
    Keeps A B .nothing s (stepFails p cur s) := by
  have raised : Keeps A B .nothing s (raiseIncident .readyTimeout (some (.portAddress p cur.presented.address)) s) :=
    raiseIncident_keeps q _ _
  exact raised.trans (endService_keeps raised.queues (by simpa using serving) _ true)

theorem raiseStray_keeps (q : A → Agree g s) (p : PortId) : Keeps A B g s (raiseStray p s) := raiseIncident_keeps q _ _

theorem fixedExpiryAt_keeps (q : A → Agree .nothing s) (p : PortId) (bytes : SegmentBytes) :
    Keeps A B .nothing s (fixedExpiryAt p bytes s) := by
  unfold fixedExpiryAt
  split
  · next serving =>
    split
    · exact stepSucceeds_keeps q serving bytes
    · exact .refl q
  · exact .refl q
  · exact .refl q

theorem readyAt_keeps (q : A → Agree .nothing s) (p : PortId) (bytes : SegmentBytes) :
    Keeps A B .nothing s (readyAt p bytes s) := by
  unfold readyAt
  split
  · next serving =>
    split
    · exact stepSucceeds_keeps q serving bytes
    · exact raiseStray_keeps q p
  · exact raiseStray_keeps q p
  · exact .refl q

theorem readyExpiryAt_keeps (q : A → Agree .nothing s) (p : PortId) : Keeps A B .nothing s (readyExpiryAt p s) := by
  unfold readyExpiryAt
  split
  · next serving =>
    split
    · exact stepFails_keeps q serving
    · exact .refl q
  · exact .refl q
  · exact .refl q

/-! ### Setting and hold (R63, R65, R84, R87, R88) -/

theorem holdLine_keeps (q : A → Agree g s) (p : PortId) (level : Bool) :
    Keeps A B g s (s.setPort p { row s.ports p with holdLine := level }) :=
  setPort_quiet_keeps q id rfl rfl fun cur h => ⟨cur, h, rfl⟩

theorem takeWithdrawal_keeps (q : A → Agree g s) (p : PortId) : Keeps A B g s (takeWithdrawal p s) := by
  unfold takeWithdrawal
  dsimp only
  split
  · exact holdLine_keeps q p false
  · next pending =>
    refine setPort_quiet_keeps q (fun ok => ?_) rfl rfl fun cur h => ⟨cur, h, rfl⟩
    obtain ⟨held, lock, timer, down⟩ := ok
    rw [pending] at held timer
    refine ⟨by simpa using held, lock, fun running => absurd (timer running) (by simp), fun isDown => ?_⟩
    exact ⟨(down isDown).1, (down isDown).2.1, by simp⟩
  · have ended : Keeps A B g s (s.setPort p
        { row s.ports p with holdLine := false, gate := .none, state := .idle, holdTimer := .stopped }) := by
      refine setPort_quiet_keeps q (fun ok => ?_) rfl rfl fun cur h => by simp at h
      obtain ⟨-, -, -, down⟩ := ok
      exact ⟨by simp, by simp, by simp, fun isDown => ⟨(down isDown).1, (down isDown).2.1, by simp⟩⟩
    exact ended.trans (arbiter_keeps ended.queues p)

theorem overrunHold_keeps (q : A → Agree g s) (p : PortId) : Keeps A B g s (overrunHold p s) := by
  have stopped : Keeps A B g s (s.setPort p { row s.ports p with holdTimer := .stopped }) :=
    setPort_quiet_keeps q (fun ok => ⟨ok.1, ok.2.1, by simp, ok.2.2.2⟩) rfl rfl fun cur h => ⟨cur, h, rfl⟩
  exact stopped.trans (raiseIncident_keeps stopped.queues _ _)

/-- The port that a change to DOWN empties, with its lock record still in place. -/
def emptiedPort (s : State) (p : PortId) : State :=
  s.setPort p { row s.ports p with setting := .down, queue := [], gate := gateAfterDown (row s.ports p).gate }

theorem setPortDown_eq (p : PortId) (s : State) :
    setPortDown p s = removeLock p false (flushQueue p (row s.ports p).queue (emptiedPort s p)) := rfl

theorem gateAfterDown_granted (gate : Gate) : gateAfterDown gate = .granted ↔ gate = .granted := by
  cases gate <;> simp [gateAfterDown]

theorem gateAfterDown_not_pending (gate : Gate) : gateAfterDown gate ≠ .pending := by cases gate <;> simp [gateAfterDown]

theorem dropLock_ports (p : PortId) (l : LockRecord) (expired : Bool) (s : State) :
    (dropLock p l expired s).ports = (unlockedPort s p l).ports := by
  rw [dropLock_eq]
  split <;> simp

/-- An arbiter with neither a hold to grant nor a slot to issue decides nothing. -/
theorem arbiter_nothing {p : PortId} (gate : (row s.ports p).gate ≠ .pending) (empty : (row s.ports p).queue = []) :
    arbiter p s = s := by
  have noPick : arbiterPick s (row s.ports p) = none := by
    unfold arbiterPick
    rw [empty]
    cases (row s.ports p).lock <;> rfl
  unfold arbiter
  dsimp only
  rw [if_neg (show ¬((row s.ports p).gate = .pending ∧ (row s.ports p).lock = none) from fun h => gate h.1), noPick]
  split <;> rfl

/-- The removal of the lock record of a port with nothing that its arbiter could serve. -/
theorem removeLock_ports {p : PortId} (gate : (row s.ports p).gate ≠ .pending) (empty : (row s.ports p).queue = [])
    (expired : Bool) : (removeLock p expired s).ports = putRow s.ports p { row s.ports p with lock := none } := by
  unfold removeLock
  split
  · next noLock =>
    have same : ({ row s.ports p with lock := none } : Port) = row s.ports p := by rw [← noLock]
    rw [same, putRow_row_self]
  · next l _ =>
    have ports : (dropLock p l expired s).ports = putRow s.ports p { row s.ports p with lock := none } := by
      have nothing : ({ row s.ports p with
          lock := none, queue := (row s.ports p).queue.filter fun i => !isUnlockOf s l.owner i } : Port) =
          { row s.ports p with lock := none } := by rw [Port.mk.injEq]; simp [empty]
      rw [dropLock_ports, unlockedPort, nothing, State.setPort_ports]
    rw [arbiter_nothing (by rw [ports, row_putRow_self]; exact gate) (by rw [ports, row_putRow_self]; exact empty), ports]

/-- What a change to DOWN leaves at the ports: the named one has an empty queue, no lock record and no PENDING hold. -/
theorem setPortDown_ports (p : PortId) (s : State) :
    (setPortDown p s).ports = putRow s.ports p
      { row s.ports p with
        setting := .down, queue := [], gate := gateAfterDown (row s.ports p).gate, lock := none } := by
  have ports : (flushQueue p (row s.ports p).queue (emptiedPort s p)).ports = (emptiedPort s p).ports := by simp
  have here : row (flushQueue p (row s.ports p).queue (emptiedPort s p)).ports p =
      { row s.ports p with setting := .down, queue := [], gate := gateAfterDown (row s.ports p).gate } := by
    rw [ports, emptiedPort, row_setPort, if_pos rfl]
  rw [setPortDown_eq, removeLock_ports (by rw [here]; exact gateAfterDown_not_pending _) (by rw [here]), here, ports, emptiedPort,
    State.setPort_ports, putRow_putRow_self]

theorem setPortDown_keeps (q : A → Agree g s) (p : PortId) : Keeps A B g s (setPortDown p s) := by
  have lessens : Lessens g s (emptiedPort s p) :=
    { rows := fun _ x h => .inl ⟨x, h, rfl⟩
      free := fun _ => id
      queue := fun r => by
        rw [emptiedPort, row_setPort]
        split <;> [exact List.nil_sublist _; exact .refl _]
      lineQueue := .refl _
      current := fun r cur h => by
        rw [emptiedPort, row_setPort] at h
        split at h
        · next e => subst e; exact ⟨cur, h, rfl⟩
        · exact ⟨cur, h, rfl⟩
      lineOp := fun _ => .inl
      retires := .refl _ }
  have agree (a : A) : Agree g (emptiedPort s p) := lessens.agree (q a)
  have flushed : Ends A B g (emptiedPort s p) (flushQueue p (row s.ports p).queue (emptiedPort s p)) :=
    flushQueue_ends p _ agree fun a i mem => (q a).unqueued_loose lessens mem (by simp [emptiedPort])
  have ended : Keeps A B g (emptiedPort s p) (setPortDown p s) := flushed.toKeeps.trans (removeLock_keeps flushed.queues p false)
  exact {
    regions := ended.regions
    managers := ended.managers
    stations := ended.stations
    ports := fun ok r => by
      rw [setPortDown_ports, row_putRow]
      split
      · next e =>
        subst e
        obtain ⟨held, -, timer, -⟩ := ok r
        exact ⟨held.trans (gateAfterDown_granted _).symm, fun _ => rfl, fun h => (gateAfterDown_granted _).mpr (timer h),
          fun _ => ⟨rfl, rfl, gateAfterDown_not_pending _⟩⟩
      · exact ok r
    chains := ended.chains
    events := ended.events
    link := ended.link
    table := ended.table
    queues := ended.queues
    refs := fun a ok => ended.refs a (ok.of_claims rfl rfl rfl fun r => by
      rw [emptiedPort, row_setPort]; split <;> [(next e => subst e; rfl); rfl])
    members := fun a ok => ended.members a ok
    order := fun a b ok => ended.order a b (lessens.order rfl ok) }

theorem setPortUp_keeps (q : A → Agree g s) (p : PortId) : Keeps A B g s (setPortUp p s) := by
  have up : Keeps A B g s (s.setPort p { row s.ports p with setting := .up }) :=
    setPort_quiet_keeps q (fun ok => ⟨ok.1, ok.2.1, ok.2.2.1, by simp⟩) rfl rfl fun cur h => ⟨cur, h, rfl⟩
  unfold setPortUp
  dsimp only
  split
  · exact up.trans (takeRaise_keeps up.queues p)
  · exact up

theorem applySetPort_keeps (q : A → Agree g s) (p : PortId) (new : Setting) (lifetime limit : Nat) :
    Keeps A B g s (applySetPort p new lifetime limit s) := by
  have given : Keeps A B g s (s.setPort p { row s.ports p with lockLifetime := lifetime, holdLimit := limit }) :=
    setPort_quiet_keeps q id rfl rfl fun cur h => ⟨cur, h, rfl⟩
  unfold applySetPort applySetting
  split
  · exact given.trans (setPortDown_keeps given.queues p)
  · exact given.trans (setPortUp_keeps given.queues p)
  · exact given
  · exact given

/-! ### Abandonment (R40 to R43) -/

/-- Doing something for each thing of a list keeps what doing it for one keeps. -/
theorem Keeps.forEach {α : Type} {f : α → State → State} {P : State → Prop}
    (h : ∀ x s, P s → (A → Agree g s) → Keeps A B g s (f x s) ∧ P (f x s)) (l : List α) (ready : P s) (q : A → Agree g s) :
    Keeps A B g s (forEach f l s) := by
  induction l generalizing s with
  | nil => exact .refl q
  | cons x rest ih =>
    obtain ⟨first, still⟩ := h x s ready q
    exact first.trans (ih still first.queues)

theorem suppressSlot_keeps (q : A → Agree g s) (who : InitiatorSet) (i : SlotId) : Keeps A B g s (suppressSlot who i s) := by
  unfold suppressSlot
  split
  · next x hx =>
    split
    · exact setSlot_view_keeps q hx rfl .inl
    · exact .refl q
  · exact .refl q

theorem closeChain_keeps (q : A → Agree g s) (k : Initiator) : Keeps A B g s (s.setChain k Chain.closed) := by
  have row_chains (j : Initiator) : row (s.setChain k Chain.closed).chains j = if j = k then Chain.closed else row s.chains j :=
    row_putRow ..
  have members (j : Initiator) : (row (s.setChain k Chain.closed).chains j).members.Sublist (row s.chains j).members := by
    rw [row_chains]; split <;> [simp [Chain.closed]; exact .refl _]
  exact {
    toSound :=
      { chains := fun ok j => by
          rw [row_chains]
          split
          · exact ⟨fun _ => rfl, by simp [Chain.closed], by simp [Chain.closed]⟩
          · exact ok j }
    queues := fun a => { q a with }
    refs := fun _ => id
    members := fun _ ok => ok.lessen members fun _ i x _ hx => ⟨x, hx, rfl, rfl, rfl, fun _ => rfl⟩
    order := fun _ _ => id }

theorem freedFrom_freeSlotOf {i : SlotId} {x : Slot} (h : row s.slots i = some x) :
    FreedFrom s (freeSlotOf i x.initiator s) i x where
  held := h
  slots := freeSlotOf_slots ..
  initiators := by simp [freeSlotOf, lowerOccupancy]
  link ok := by simpa using ok
  regions := by simp
  counter := by simp
  chains := by simp
  ports := by simp
  stations := by simp
  line := by simp
  events := by simp
  management := by simp

theorem leaveQueues_keeps (q : A → Agree g s) (i : SlotId) (w : Work) : Keeps A B g s (leaveQueues i w s) where
  toSound := by
    unfold leaveQueues
    split
    · refine { ports := fun ok => ok.setPort fun here => ?_ }
      obtain ⟨held, lock, timer, down⟩ := here
      exact ⟨held, lock, timer, fun isDown => ⟨by simp [(down isDown).1], (down isDown).2⟩⟩
    · exact {}
    · exact {}
  queues a := (leaveQueues_lessens g i w s).agree (q a)
  refs _ ok := by
    refine ok.of_claims (by simp) (by simp) (by unfold leaveQueues; split <;> rfl) fun p => ?_
    unfold leaveQueues
    split
    · rw [row_setPort]; split <;> [(next e => subst e; rfl); rfl]
    · rfl
    · rfl
  members _ ok := ok.lessen (fun k => by simp) fun k j x _ hx => ⟨x, by simpa using hx, rfl, rfl, rfl, fun _ => rfl⟩
  order _ _ := (leaveQueues_lessens g i w s).order (by simp)

/-- A slot that nothing refers to and that is in no member list becomes FREE with its entry's count lowered. -/
theorem free_lower_keeps (q : A → Agree g s) {i : SlotId} {x : Slot} (h : row s.slots i = some x)
    (loose : A → NoReference g s i x) (outside : A → MemberListsOk s → ∀ k, i ∉ (row s.chains k).members) :
    Keeps A B g s (lowerWorkCount x.work (freeSlotOf i x.initiator s)) := by
  have freed := freedFrom_freeSlotOf h
  have agree (a : A) : Agree g (freeSlotOf i x.initiator s) := (freed.lessens (loose a)).agree (q a)
  have lessens (a : A) : Lessens g s (lowerWorkCount x.work (freeSlotOf i x.initiator s)) :=
    (freed.lessens (loose a)).trans (lowerWorkCount_lessens (agree a) x.work)
  exact {
    toSound := freed.sound.trans (lowerWorkCount_sound x.work _)
    queues := fun a => (lessens a).agree (q a)
    refs := fun a ok => (freed.refs ok).lowerWorkCount (agree a)
    members := fun a ok => by
      have chains : (lowerWorkCount x.work (freeSlotOf i x.initiator s)).chains = s.chains := by simp
      refine ok.lessen (fun k => by rw [chains]) fun k j y mem hy => ?_
      rw [chains] at mem
      have ne : j ≠ i := by rintro rfl; exact outside a ok k mem
      obtain ⟨z, hz, -, -, work⟩ := (ok k).2.1 j mem
      obtain rfl : y = z := Option.some.inj (hy.symm.trans hz)
      refine ⟨y, lowerWorkCount_rows (agree a) _ ?_ work, rfl, rfl, rfl, fun _ => rfl⟩
      rw [freed.slots, row_putRow_ne _ _ _ _ ne, hy]
    order := fun a _ => (lessens a).order (by simp) }

theorem dropSlot_keeps (q : A → Agree g s) {who : InitiatorSet}
    (closed : ∀ k, who.has k = true → (row s.chains k).members = []) (i : SlotId) : Keeps A B g s (dropSlot who i s) := by
  unfold dropSlot
  split
  · next x hx =>
    split
    · next drops =>
      simp only [dropsSlot, Bool.and_eq_true, Bool.or_eq_true, decide_eq_true_eq, Bool.not_eq_true'] at drops
      obtain ⟨⟨own, -⟩, state⟩ := drops
      have left : Keeps A B g s (leaveQueues i x.work s) := leaveQueues_keeps q i x.work
      refine left.trans (free_lower_keeps left.queues (by simpa using hx) (fun a => ?_) fun a ok k mem => ?_)
      · rcases state with waiting | queued
        · exact ((q a).noReference_of_waiting hx waiting).lessen (leaveQueues_lessens g i x.work s) ⟨rfl, rfl⟩
        · exact (q a).leaveQueues_noReference hx queued
      · obtain ⟨y, hy, is, -⟩ := (ok k).2.1 i mem
        have hy : row s.slots i = some y := by simpa using hy
        obtain rfl : x = y := Option.some.inj (hx.symm.trans hy)
        have none := closed k (is ▸ own)
        simp [none] at mem
    · exact .refl q
  · exact .refl q

theorem dropOwnedLock_keeps (q : A → Agree g s) (who : InitiatorSet) (p : PortId) :
    Keeps A B g s (dropOwnedLock who p s) := by
  unfold dropOwnedLock
  split
  · exact removeLock_keeps q p false
  · exact .refl q

theorem row_forEach_clearChain (l : List Initiator) (s : State) (k : Initiator) :
    row (forEach clearChain l s).chains k = if k ∈ l then Chain.closed else row s.chains k := by
  induction l generalizing s with
  | nil => rfl
  | cons j rest ih =>
    rw [forEach, ih, clearChain, State.setChain_chains, row_putRow]
    by_cases later : k ∈ rest
    · simp [later]
    · by_cases same : k = j <;> simp [later, same]

theorem mem_initiatorsOf (who : InitiatorSet) (k : Initiator) : k ∈ initiatorsOf who ↔ who.has k = true := by
  simp [initiatorsOf]

theorem abandonWork_keeps (q : A → Agree g s) (who : InitiatorSet) (tag : Option Tag) :
    Keeps A B g s (abandonWork who tag s) := by
  have modes : Keeps A B g s (forEach (startMode tag) (initiatorsOf who) s) :=
    Keeps.forEach (P := fun _ => True) (fun k s _ q => ⟨startMode_keeps q tag k, trivial⟩) _ trivial q
  have suppressed := modes.trans (Keeps.forEach (A := A) (B := B) (P := fun _ => True) (f := suppressSlot who)
    (fun i s _ q => ⟨suppressSlot_keeps q who i, trivial⟩) (List.finRange 32) trivial modes.queues)
  have cleared := suppressed.trans (Keeps.forEach (A := A) (B := B) (P := fun _ => True) (f := clearChain)
    (fun k s _ q => ⟨closeChain_keeps q k, trivial⟩) (initiatorsOf who) trivial suppressed.queues)
  have closed (k : Initiator) (own : who.has k = true) : (row (forEach clearChain (initiatorsOf who)
      (forEach (suppressSlot who) (List.finRange 32) (forEach (startMode tag) (initiatorsOf who) s))).chains k).members = [] := by
    rw [row_forEach_clearChain, if_pos ((mem_initiatorsOf who k).mpr own)]
    rfl
  have dropped := cleared.trans (Keeps.forEach (A := A) (B := B)
    (P := fun t => ∀ k, who.has k = true → (row t.chains k).members = []) (f := dropSlot who)
    (fun i s closed q => ⟨dropSlot_keeps q closed i, fun k own => by simpa using closed k own⟩) (List.finRange 32) closed
    cleared.queues)
  exact dropped.trans (Keeps.forEach (P := fun _ => True) (fun p s _ q => ⟨dropOwnedLock_keeps q who p, trivial⟩)
    (List.finRange 4) trivial dropped.queues)

theorem abandonInitiator_keeps (q : A → Agree g s) (k : Initiator) (tag : Tag) :
    Keeps A B g s (abandonInitiator k tag s) := by
  have worked : Keeps A B g s (abandonWork (InitiatorSet.single k) (some tag) s) := abandonWork_keeps q _ _
  unfold abandonInitiator
  dsimp only
  split
  · have withdrawn := worked.trans (withdrawMessage_keeps (A := A) (B := B) worked.queues)
    exact withdrawn.trans (endAbandonment_keeps withdrawn.queues k)
  · exact worked.trans (endAbandonment_keeps worked.queues k)

theorem abandonAll_keeps (q : A → Agree g s) : Keeps A B g s (abandonAll s) := by
  have worked : Keeps A B g s (abandonWork everyInitiator none s) := abandonWork_keeps q _ _
  have withdrawn := worked.trans (withdrawMessage_keeps (A := A) (B := B) worked.queues)
  exact withdrawn.trans (Keeps.forEach (P := fun _ => True) (fun k s _ q => ⟨endAbandonment_keeps q k, trivial⟩) _ trivial
    withdrawn.queues)

theorem linkResetByMessage_keeps (q : A → Agree g s) : Keeps A B g s (linkResetByMessage s) := by
  have raised : Keeps A B g s (raiseResetCount s) := raiseResetCount_keeps q
  have abandoned := raised.trans (abandonAll_keeps (A := A) (B := B) raised.queues)
  exact abandoned.trans (handNotice_keeps abandoned.queues)

theorem linkOk_signalGone (l : LinkUnit) : LinkOk (signalGone l) :=
  ⟨fun _ => ⟨rfl, rfl⟩, fun _ => ⟨rfl, rfl, rfl⟩, by simp [signalGone], by simp [signalGone]⟩

theorem loseSignal_keeps (q : A → Agree g s) : Keeps A B g s (loseSignal s) := by
  unfold loseSignal
  split
  · exact setLink_keeps q fun _ => linkOk_signalGone _
  · have gone : Keeps A B g s ((raiseResetCount s).setLink (signalGone (raiseResetCount s).link)) :=
      setLink_keeps q fun _ => linkOk_signalGone _
    exact gone.trans (abandonAll_keeps gone.queues)

end

end Sys2Proof.Machine
end

section
/-! PROOFS. What one step keeps, part 9: the acceptance of a request (R25, R30, R32 to R34, R94 to R97, R103). -/

namespace Sys2Proof.Machine

-- one proof at a time: the text is compiled whole, in one process whose threads share its memory limit
set_option Elab.async false

section
variable {A B : Prop} {g : Exempt} {s : State}

/-! ### Refusals that the chain takes account of -/

theorem ChainOk.receiveMember {c : Chain} (ok : ChainOk c) : ChainOk (receiveMember c) := by
  obtain ⟨closed, failed, count⟩ := ok
  unfold Machine.receiveMember
  refine ⟨fun h => ?_, ?_, ?_⟩
  · dsimp only at h
    split at h
    · simp at h
    · next open' => exact absurd h open'
  · dsimp only
    split
    · next h => simp [closed h, Chain.closed]
    · exact failed
  · dsimp only
    split
    · next few => simp only [Config.maxChainMembers] at few; omega
    · exact count

theorem closeAtRefusal_keeps (q : A → Agree g s) (h : ReqHeader) (a : Answer) : Keeps A B g s (closeAtRefusal h a s) := by
  have swept : Ends A B g s (sweepChain h.initiator s) := sweepChain_ends q h.initiator
  have answered := swept.toKeeps.trans (answerKey_keeps (A := A) (B := B) swept.queues h.initiator h.tag a
    (some (chainSummary (sweepChain h.initiator s) h.initiator)))
  exact answered.trans (closeChain_keeps answered.queues h.initiator)

theorem answerMember_keeps (q : A → Agree g s) (h : ReqHeader) (a : Answer) : Keeps A B g s (answerMember h a s) := by
  unfold answerMember
  split
  · exact closeAtRefusal_keeps q h a
  · exact answerKey_keeps q _ _ _ _

/-- A member's refusal that changes the context but not its member list. -/
theorem refuse_keeps (q : A → Agree g s) (h : ReqHeader) (a : Answer) {c : Chain}
    (ok : ChainOk (row s.chains h.initiator) → ChainOk c) (members : c.members = (row s.chains h.initiator).members) :
    Keeps A B g s (answerMember h a (s.setChain h.initiator c)) := by
  have set : Ends A B g s (s.setChain h.initiator c) := setChain_ends q ok members
  exact set.toKeeps.trans (answerMember_keeps set.queues h a)

theorem refuseSkipped_keeps (q : A → Agree g s) (h : ReqHeader) : Keeps A B g s (refuseSkipped h s) :=
  refuse_keeps q h _ (fun ok => ok.receiveMember) rfl

theorem refuseChainLong_keeps (q : A → Agree g s) (h : ReqHeader) : Keeps A B g s (refuseChainLong h s) :=
  refuse_keeps q h _ (fun ok => ok.recordFailure _ _) rfl

theorem refuseFailed_keeps (q : A → Agree g s) (h : ReqHeader) (code : FaultCode) : Keeps A B g s (refuseFailed h code s) :=
  refuse_keeps q h _ (fun ok => ok.receiveMember.recordFailure _ _) rfl

/-! ### Allocation (R32, R97) -/

/-- What the acceptance order has seen to when a slot is allocated: the key is free, the work's entry is present, a LOCK-READ's
initiator has no claim on the port's lock, and a chain member is no MANAGE. -/
structure Allocates (s : State) (i : SlotId) (h : ReqHeader) (w : Work) : Prop where
  free : row s.slots i = none
  key : ∀ j x, row s.slots j = some x → ¬(x.initiator = h.initiator ∧ x.tag = h.tag)
  entry : ∀ e, workEntry w = some e → (row s.regions e).isSome = true
  claim : ∀ v, w = .port v → v.kind = .lockRead → hasLockClaim s h.initiator v.port = false
  member : isMemberMark h.mark = true → ∀ op, w ≠ .manage op

/-- The record that an allocation fills. -/
def allocatedSlot (s : State) (h : ReqHeader) (w : Work) : Slot :=
  newSlot h w (roleFor h.mark (receiveMember (row s.chains h.initiator))) s.acceptCounter

theorem row_allocateSlot (s : State) (i : SlotId) (h : ReqHeader) (w : Work) (j : SlotId) :
    row (allocateSlot i h w s).slots j = if j = i then some (allocatedSlot s h w) else row s.slots j := by
  rw [allocateSlot_slots, row_putRow, allocatedSlot]

/-- A slot of the state before stands as it was. -/
theorem Allocates.row_old {i : SlotId} {h : ReqHeader} {w : Work} (al : Allocates s i h w) {j : SlotId} {x : Slot}
    (hx : row s.slots j = some x) : row (allocateSlot i h w s).slots j = some x := by
  rw [row_allocateSlot, if_neg, hx]
  rintro rfl
  simp [al.free] at hx

theorem row_allocateSlot_some {i j : SlotId} {h : ReqHeader} {w : Work} {x : Slot}
    (hx : row (allocateSlot i h w s).slots j = some x) : (j = i ∧ x = allocatedSlot s h w) ∨ row s.slots j = some x := by
  rw [row_allocateSlot] at hx
  split at hx
  · next e => exact .inl ⟨e, (Option.some.inj hx).symm⟩
  · exact .inr hx

theorem Allocates.table {i : SlotId} {h : ReqHeader} {w : Work} (al : Allocates s i h w) (ok : SlotTableOk s) :
    SlotTableOk (allocateSlot i h w s) := by
  obtain ⟨keys, counts, done, answered⟩ := ok
  refine ⟨fun j j' x y hx hy same tag => ?_, fun k => ?_, fun j x hx => ?_, fun j x hx yes => ?_⟩
  · rcases row_allocateSlot_some hx with ⟨rfl, rfl⟩ | old <;> rcases row_allocateSlot_some hy with ⟨rfl, rfl⟩ | old'
    · rfl
    · exact absurd ⟨same.symm, tag.symm⟩ (al.key _ _ old')
    · exact absurd ⟨same, tag⟩ (al.key _ _ old)
    · exact keys j j' x y old old' same tag
  · have count := countP_finRange_add i (fun j => (row s.slots j).any fun x => decide (x.initiator = k))
      (fun j => (row (allocateSlot i h w s).slots j).any fun x => decide (x.initiator = k))
      (fun j ne => by rw [row_allocateSlot, if_neg ne])
    simp only [al.free, row_allocateSlot, if_true, Option.any_none, Option.any_some, Bool.toNat_false, Nat.add_zero] at count
    have before := counts k
    have shape : slotsOf (allocateSlot i h w s) k = slotsOf s k + (decide ((allocatedSlot s h w).initiator = k)).toNat := by
      simp only [slotsOf, row_allocateSlot]
      exact count
    rw [shape, allocateSlot_initiators, row_putRow]
    by_cases own : k = h.initiator
    · subst own
      simp [before, allocatedSlot, newSlot]
    · simp [own, before, allocatedSlot, newSlot, Ne.symm own]
  · rcases row_allocateSlot_some hx with ⟨rfl, rfl⟩ | old
    · simp [allocatedSlot, newSlot]
    · exact done j x old
  · rcases row_allocateSlot_some hx with ⟨rfl, rfl⟩ | old
    · simp [allocatedSlot, newSlot] at yes
    · exact answered j x old yes

theorem allocateSlot_retires (i : SlotId) (h : ReqHeader) (w : Work) (s : State) :
    (allocateSlot i h w s).management = s.management := by simp

/-- A new slot is referred to by nothing yet. -/
theorem Allocates.agree {i : SlotId} {h : ReqHeader} {w : Work} (al : Allocates s i h w) (a : Agree .nothing s) :
    Agree .nothing (allocateSlot i h w s) where
  keys j j' x y hx hy same tag := by
    rcases row_allocateSlot_some hx with ⟨rfl, rfl⟩ | old <;> rcases row_allocateSlot_some hy with ⟨rfl, rfl⟩ | old'
    · rfl
    · exact absurd ⟨same.symm, tag.symm⟩ (al.key _ _ old')
    · exact absurd ⟨same, tag⟩ (al.key _ _ old)
    · exact a.keys j j' x y old old' same tag
  queueNodup p := by simpa using a.queueNodup p
  queue p j hj := by
    obtain ⟨x, v, hx, rest⟩ := a.queue p j (by simpa using hj)
    exact ⟨x, v, al.row_old hx, rest⟩
  lineNodup := by simpa using a.lineNodup
  lineQueue j hj := by
    obtain ⟨x, v, hx, rest⟩ := a.lineQueue j (by simpa using hj)
    exact ⟨x, v, al.row_old hx, rest⟩
  current p cur hp hc := by
    obtain ⟨x, v, hx, rest⟩ := a.current p cur hp (by simpa using hc)
    exact ⟨x, v, al.row_old hx, rest⟩
  lineOp he op j ho hj := by
    obtain ⟨x, v, hx, rest⟩ := a.lineOp he op j (by simpa using ho) hj
    exact ⟨x, v, al.row_old hx, rest⟩
  retires r hr := by
    obtain ⟨j, x, op, hx, rest⟩ := a.retires r (by simpa using hr)
    exact ⟨j, x, op, al.row_old hx, rest⟩
  retireKeys r q hr hq := a.retireKeys r q (by simpa using hr) (by simpa using hq)
  held j x hj := by simp [Exempt.nothing] at hj

theorem Allocates.loose {i : SlotId} {h : ReqHeader} {w : Work} (al : Allocates s i h w) (a : Agree .nothing s) :
    Loose .nothing (allocateSlot i h w s) i := by
  intro y hy
  obtain ⟨-, rfl⟩ | old := row_allocateSlot_some hy
  · refine ⟨fun p hi => ?_, fun hi => ?_, fun p cur hp hc e => ?_, fun he op ho e => ?_, fun r hr key => ?_⟩
    · obtain ⟨x, v, hx, -⟩ := a.queue p i (by simpa using hi)
      simp [al.free] at hx
    · obtain ⟨x, v, hx, -⟩ := a.lineQueue i (by simpa using hi)
      simp [al.free] at hx
    · obtain ⟨x, v, hx, -⟩ := a.current p cur hp (by simpa using hc)
      simp [e, al.free] at hx
    · obtain ⟨x, v, hx, -⟩ := a.lineOp he op i (by simpa using ho) e
      simp [al.free] at hx
    · obtain ⟨j, x, op, hx, own, tag, -⟩ := a.retires r (by simpa using hr)
      exact al.key j x hx ⟨own.trans key.1, tag.trans key.2⟩
  · simp [al.free] at old

theorem Allocates.lockReads {i : SlotId} {h : ReqHeader} {w : Work} (al : Allocates s i h w) (ok : LockReadsOk s) :
    LockReadsOk (allocateSlot i h w s) := by
  obtain ⟨single, owned⟩ := ok
  have unclaimed {v : PortWork} (hw : w = .port v) (kind : v.kind = .lockRead) :
      (∀ l, (row s.ports v.port).lock = some l → l.owner ≠ h.initiator) ∧
        ∀ j x u, row s.slots j = some x → x.work = .port u → u.kind = .lockRead → u.port = v.port → x.initiator ≠ h.initiator := by
    have none := al.claim v hw kind
    simp only [hasLockClaim, Bool.or_eq_false_iff, List.any_eq_false] at none
    refine ⟨fun l hl own => ?_, fun j x u hx hu ku same own => ?_⟩
    · simp [hl, own] at none
    · have := none.2 j (List.mem_finRange j)
      simp [hx, isLockReadOf, hu, ku, same, own] at this
  refine ⟨fun j j' x y u v hx hy hu hv ku kv same own => ?_, fun p l j x v hl hx hv kv port own => ?_⟩
  · rcases row_allocateSlot_some hx with ⟨rfl, rfl⟩ | old <;> rcases row_allocateSlot_some hy with ⟨rfl, rfl⟩ | old'
    · rfl
    · exact absurd own.symm ((unclaimed hu ku).2 j' y v old' hv kv same.symm)
    · exact absurd own ((unclaimed hv kv).2 j x u old hu ku same)
    · exact single j j' x y u v old old' hu hv ku kv same own
  · replace hl : (row s.ports p).lock = some l := by simpa using hl
    rcases row_allocateSlot_some hx with ⟨rfl, rfl⟩ | old
    · subst port
      exact absurd own.symm ((unclaimed hv kv).1 l hl)
    · exact owned p l j x v hl old hv kv port own

theorem raiseWorkCount_regions_congr (w : Work) {t u : State} (same : t.regions = u.regions) :
    (raiseWorkCount w t).regions = (raiseWorkCount w u).regions := by
  unfold raiseWorkCount raiseCount
  split
  · rw [same]; split <;> simp [same]
  · exact same

theorem allocateSlot_regions_eq (i : SlotId) (h : ReqHeader) (w : Work) {t : State} (same : t.regions = s.regions) :
    (allocateSlot i h w s).regions = (raiseWorkCount w t).regions := by
  have received (u : State) : (receiveSlot i h u).regions = u.regions := by simp
  rw [allocateSlot, received]
  exact raiseWorkCount_regions_congr w same.symm

theorem Allocates.referencesOk {i : SlotId} {h : ReqHeader} {w : Work} (al : Allocates s i h w) (ok : ReferencesOk s) :
    ReferencesOk (allocateSlot i h w s) := by
  obtain ⟨counts, draining, retires, lockReads⟩ := ok
  have filled := al.lockReads lockReads
  -- the state whose work is not counted yet
  have off : RefsOff none (workEntry w) (s.setSlot i (some (allocatedSlot s h w))) := by
    refine ⟨fun e => ?_, draining, retires, ?_⟩
    · have slots := countP_finRange_add i (fun j => (row s.slots j).any fun x => decide (workEntry x.work = some e))
        (fun j => (row (s.setSlot i (some (allocatedSlot s h w))).slots j).any fun x => decide (workEntry x.work = some e))
        (fun j ne => by rw [row_setSlot, if_neg ne])
      have before : references s e = countOf s e := counts e
      simp only [State.setSlot_slots, row_putRow_self, al.free, Option.any_none, Option.any_some, Bool.toNat_false,
        Nat.add_zero] at slots
      have same : countOf (s.setSlot i (some (allocatedSlot s h w))) e = countOf s e := rfl
      rw [same, ← before]
      simp only [references, State.setSlot_slots, State.setSlot_ports, slots, oneFor]
      by_cases own : workEntry w = some e
      · simp [own, allocatedSlot, newSlot]; omega
      · simp [own, allocatedSlot, newSlot]
    · refine filled.lessen (fun j x hx => ⟨x, ?_, rfl, rfl, id⟩) fun p l hl => ⟨l, by simpa using hl, rfl⟩
      rwa [row_allocateSlot, ← row_setSlot]
  have raised : ReferencesOk (raiseWorkCount w (s.setSlot i (some (allocatedSlot s h w)))) := by
    unfold raiseWorkCount
    split
    · next e he => exact RefsOff.raiseCount (he ▸ off) (al.entry e he)
    · next none => exact (refsOff_none_iff _).mp (none ▸ off)
  exact raised.of_claims (by simp [allocatedSlot]) (allocateSlot_regions_eq i h w rfl) (by simp) fun p => by simp

theorem row_allocateSlot_chains (i : SlotId) (h : ReqHeader) (w : Work) (s : State) (k : Initiator) :
    (row (allocateSlot i h w s).chains k).members =
      if isMemberMark h.mark = true ∧ k = h.initiator then (row s.chains k).members ++ [i] else (row s.chains k).members := by
  unfold allocateSlot receiveSlot
  dsimp only
  split
  · next member =>
    rw [State.setChain_chains, row_putRow]
    by_cases own : k = h.initiator
    · subst own; simp [member, joinChain, receiveMember]
    · simp [own]
  · next lone => simp [lone]

theorem Allocates.memberLists {i : SlotId} {h : ReqHeader} {w : Work} (al : Allocates s i h w) (ok : MemberListsOk s) :
    MemberListsOk (allocateSlot i h w s) := by
  intro k
  obtain ⟨nodup, occupied, waiting⟩ := ok k
  have outside : i ∉ (row s.chains k).members := fun mem => by
    obtain ⟨x, hx, -⟩ := occupied i mem
    simp [al.free] at hx
  have new : row (allocateSlot i h w s).slots i = some (allocatedSlot s h w) := by rw [row_allocateSlot, if_pos rfl]
  unfold MembersOk
  rw [row_allocateSlot_chains]
  split
  · next joins =>
    obtain ⟨member, rfl⟩ := joins
    refine ⟨List.nodup_append.mpr ⟨nodup, by simp, fun j hj j' hj' => ?_⟩, fun j hj => ?_, fun j hj => ?_⟩
    · rintro rfl
      exact outside (List.mem_singleton.mp hj' ▸ hj)
    · rcases List.mem_append.mp hj with old | last
      · obtain ⟨x, hx, rest⟩ := occupied j old
        exact ⟨x, al.row_old hx, rest⟩
      · obtain rfl := List.mem_singleton.mp last
        refine ⟨_, new, rfl, ?_, al.member member⟩
        cases mark : h.mark <;> simp_all [allocatedSlot, newSlot, roleFor, isMemberMark]
    · have mem : j ∈ (row s.chains h.initiator).members.tail ∨ j = i := by
        cases list : (row s.chains h.initiator).members with
        | nil => simp [list] at hj
        | cons first rest => simpa [list] using hj
      rcases mem with old | rfl
      · obtain ⟨x, hx, state⟩ := waiting j old
        exact ⟨x, al.row_old hx, state⟩
      · exact ⟨_, new, rfl⟩
  · refine ⟨nodup, fun j hj => ?_, fun j hj => ?_⟩
    · obtain ⟨x, hx, rest⟩ := occupied j hj
      exact ⟨x, al.row_old hx, rest⟩
    · obtain ⟨x, hx, state⟩ := waiting j hj
      exact ⟨x, al.row_old hx, state⟩

/-- With every slot recent, the acceptance counter's next value keeps the order of acceptance (R24). -/
theorem Allocates.order {i : SlotId} {h : ReqHeader} {w : Work} (al : Allocates s i h w) (a : Agree .nothing s)
    (recent : Recent s) (ok : OrderOk s) : OrderOk (allocateSlot i h w s) := by
  obtain ⟨distinct, ports, line⟩ := ok
  have further {j : SlotId} {x : Slot} (hx : row s.slots j = some x) :
      (s.acceptCounter + 1 - x.sequence).toNat = (s.acceptCounter - x.sequence).toNat + 1 := by
    have := (recent j x hx).2
    bv_omega
  have ordered {queue : List SlotId} (occupied : ∀ j, j ∈ queue → ∃ x, row s.slots j = some x) (h' : Ordered s queue) :
      Ordered (allocateSlot i h w s) queue := by
    refine List.Pairwise.imp_of_mem (fun {j j'} hj hj' before x y hx hy => ?_) h'
    obtain ⟨x', hx'⟩ := occupied j hj
    obtain ⟨y', hy'⟩ := occupied j' hj'
    obtain rfl : x' = x := Option.some.inj ((al.row_old hx').symm.trans hx)
    obtain rfl : y' = y := Option.some.inj ((al.row_old hy').symm.trans hy)
    rw [allocateSlot_acceptCounter, further hx', further hy']
    exact Nat.succ_lt_succ (before x' y' hx' hy')
  have newest {j : SlotId} {x : Slot} (hx : row s.slots j = some x) : x.sequence ≠ s.acceptCounter := fun same => by
    have := (recent j x hx).1
    simp [same] at this
  refine ⟨fun j j' x y hx hy same => ?_, fun p => ?_, ?_⟩
  · rcases row_allocateSlot_some hx with ⟨rfl, rfl⟩ | old <;> rcases row_allocateSlot_some hy with ⟨rfl, rfl⟩ | old'
    · rfl
    · exact absurd same.symm (newest old')
    · exact absurd same (newest old)
    · exact distinct j j' x y old old' same
  · have queue : (row (allocateSlot i h w s).ports p).queue = (row s.ports p).queue := by simp
    rw [queue]
    exact ordered (fun j hj => (a.queue p j hj).imp fun x ⟨_, hx, _⟩ => hx) (ports p)
  · have queue : (allocateSlot i h w s).line.queue = s.line.queue := by simp
    rw [queue]
    exact ordered (fun j hj => (a.lineQueue j hj).imp fun x ⟨_, hx, _⟩ => hx) line

theorem raiseWorkCount_regionMap {w : Work} (ok : RegionMapOk s) : RegionMapOk (raiseWorkCount w s) := by
  unfold raiseWorkCount
  split
  · exact (raiseCount_sound _ s).regions ok
  · exact ok

theorem Allocates.sound {i : SlotId} {h : ReqHeader} {w : Work} (al : Allocates s i h w) : Sound s (allocateSlot i h w s) where
  regions ok := (raiseWorkCount_regionMap (w := w) ok).congr (allocateSlot_regions_eq i h w rfl)
  managers := ManagersOk.congr (by simp)
  stations := StationsOk.congr (by simp)
  ports := PortsOk.congr (by simp)
  chains ok k := by
    unfold allocateSlot receiveSlot
    dsimp only
    split
    · rw [State.setChain_chains, row_putRow]
      split
      · simp only [raiseWorkCount_frame, raiseOccupancy_frame, State.setAcceptCounter_chains, State.setSlot_chains]
        obtain ⟨-, failed, count⟩ := (ok h.initiator).receiveMember
        refine ⟨fun closed => ?_, failed, count⟩
        simp only [joinChain, receiveMember] at closed
        split at closed
        · simp at closed
        · next open' => exact absurd closed open'
      · simpa using ok k
    · simpa using ok k
  events := EventsOk.congr (by simp) (by simp)
  link := LinkOk.congr (by simp)
  table := al.table

theorem Allocates.keeps {i : SlotId} {h : ReqHeader} {w : Work} (al : Allocates s i h w) (q : A → Agree .nothing s)
    (recent : A → B → Recent s) : Keeps A B .nothing s (allocateSlot i h w s) where
  toSound := al.sound
  queues a := al.agree (q a)
  refs _ := al.referencesOk
  members _ := al.memberLists
  order a b := al.order (q a) (recent a b)

/-! ### A slot is accepted and routed (R33, R34) -/

theorem isPostedWrite_kind {w : Work} (posted : isPostedWrite s w = true) : ∃ v d, w = .port v ∧ v.kind = .write d := by
  unfold isPostedWrite at posted
  split at posted
  · split at posted
    · next v _ d kind => exact ⟨v, d, rfl, kind⟩
    all_goals simp at posted
  all_goals simp at posted

theorem answerPosted_keeps (q : A → Agree g s) {i : SlotId} {x : Slot} (hx : row s.slots i = some x) (h : ReqHeader)
    (write : ∃ v d, x.work = .port v ∧ v.kind = .write d) : Keeps A B g s (answerPosted i h s) := by
  unfold answerPosted
  rw [hx]
  have answered : Keeps A B g s (s.setSlot i (some { x with answered := true, outcome := some .done })) :=
    setSlot_view_keeps q hx rfl fun _ => .inr write
  exact answered.trans (answerKey_keeps answered.queues _ _ _ _)

theorem answerPosted_lessens {i : SlotId} {x : Slot} (hx : row s.slots i = some x) (h : ReqHeader) :
    Lessens g s (answerPosted i h s) := by
  have same : SameRequests s (answerPosted i h s) := by
    unfold answerPosted
    rw [hx]
    exact
      { rows := fun j => by
          simp only [answerKey_frame]
          rw [row_setSlot]
          split
          · next e => subst e; simp [hx, Slot.view]
          · rfl }
  exact same.lessens g

/-- A slot that has been allocated, after what it is answered at acceptance. -/
structure Allotted (s t : State) (i : SlotId) (h : ReqHeader) (w : Work) : Prop where
  slot : ∃ x, row t.slots i = some x ∧ x.view = (allocatedSlot s h w).view
  chains : t.chains = (allocateSlot i h w s).chains

/-- A new member that need not wait heads its chain's member list. -/
theorem Allotted.head {t : State} {i : SlotId} {h : ReqHeader} {w : Work} (ad : Allotted s t i h w)
    (first : mustWait s h = false) (ok : MemberListsOk t) (k : Initiator) : i ∉ (row t.chains k).members.tail := by
  intro tail
  obtain ⟨x, hx, view⟩ := ad.slot
  obtain ⟨own, -, -, sameRole, -⟩ := Slot.view_eq view
  obtain ⟨y, hy, is, role, -⟩ := (ok k).2.1 i (List.mem_of_mem_tail tail)
  obtain rfl : x = y := Option.some.inj (hx.symm.trans hy)
  have member : isMemberMark h.mark = true := by
    rw [sameRole] at role
    cases mark : h.mark <;> simp_all [allocatedSlot, newSlot, roleFor, isMemberMark]
  have mine : k = h.initiator := is.symm.trans own
  subst mine
  have empty : (row s.chains h.initiator).members = [] := by
    simpa [mustWait, member] using first
  rw [ad.chains, row_allocateSlot_chains, if_pos ⟨member, rfl⟩, empty] at tail
  simp at tail

theorem Allotted.waiting {t : State} {i : SlotId} {h : ReqHeader} {w : Work} (ad : Allotted s t i h w) :
    ∃ x, row t.slots i = some x ∧ x.state = .waiting ∧ x.work = w := by
  obtain ⟨x, hx, view⟩ := ad.slot
  obtain ⟨-, -, work, -, state, -⟩ := Slot.view_eq view
  exact ⟨x, hx, state, work⟩

theorem routeSlot_keeps {t : State} (q : A → Agree g t) {i : SlotId} {h : ReqHeader} {w : Work} (ad : Allotted s t i h w)
    (loose : A → Loose g t i) : Keeps A B g t (routeSlot i w (mustWait s h) t) := by
  unfold routeSlot
  split
  · exact .refl q
  · next first =>
    exact joinDestination_keeps q (fun _ => ad.waiting) loose fun _ ok => ad.head (by simpa using first) ok

theorem acceptWork_keeps (q : A → Agree .nothing s) (recent : A → B → Recent s) {h : ReqHeader} {w : Work}
    (al : ∀ i, freeSlot s = some i → Allocates s i h w) : Keeps A B .nothing s (acceptWork h w s) := by
  unfold acceptWork
  split
  · exact .refl q
  · next i free =>
    have al := al i free
    have allocated : Keeps A B .nothing s (allocateSlot i h w s) := al.keeps q recent
    have new : row (allocateSlot i h w s).slots i = some (allocatedSlot s h w) := by rw [row_allocateSlot, if_pos rfl]
    dsimp only
    split
    · next posted =>
      have posted : isPostedWrite s w = true := by simp_all
      have answered : Keeps A B .nothing _ (answerPosted i h (allocateSlot i h w s)) :=
        answerPosted_keeps allocated.queues new h (isPostedWrite_kind posted)
      refine allocated.trans (answered.trans (routeSlot_keeps answered.queues ⟨?_, by simp⟩ fun a => ?_))
      · refine ⟨{ allocatedSlot s h w with answered := true, outcome := some .done }, ?_, rfl⟩
        rw [answerPosted, new]
        simp
      · exact (answerPosted_lessens new h).loose (al.loose (q a))
    · exact allocated.trans (routeSlot_keeps allocated.queues ⟨⟨_, new, rfl⟩, rfl⟩ fun a => al.loose (q a))

end

end Sys2Proof.Machine
end

section
/-! PROOFS. What one step keeps, part 10: MANAGE operations (R138 to R153). While an operation is carried out its slot is held: it is
ACTIVE and nothing refers to it, until it is answered or a drain's pair names it. -/

namespace Sys2Proof.Machine

-- one proof at a time: the text is compiled whole, in one process whose threads share its memory limit
set_option Elab.async false

section
variable {A B : Prop} {g : Exempt} {s : State}

/-- While a MANAGE operation is carried out, its slot is held. -/
def Exempt.managing (i : SlotId) : Exempt := ⟨none, false, some i⟩

/-! ### The slot is taken (R139) -/

theorem NoReference.of_eq {t : State} {i : SlotId} {x y : Slot} (n : NoReference g s i x) (ports : t.ports = s.ports)
    (line : t.line = s.line) (retires : t.management.retires = s.management.retires)
    (key : y.initiator = x.initiator ∧ y.tag = x.tag) : NoReference g t i y where
  queue := by rw [ports]; exact n.queue
  lineQueue := by rw [line]; exact n.lineQueue
  current := by rw [ports]; exact n.current
  lineOp := by rw [line]; exact n.lineOp
  retires := by rw [retires, key.1, key.2]; exact n.retires

theorem manageTaken_keeps (q : A → Agree .nothing s) (recent : A → B → Recent s) {i : SlotId} {h : ReqHeader} {op : ManageOp}
    (al : Allocates s i h (.manage op)) :
    Keeps A B (.managing i) s (manageTaken i h op s) ∧
      ∃ x, row (manageTaken i h op s).slots i = some x ∧ x.initiator = h.initiator ∧ x.tag = h.tag := by
  have allocated : Keeps A B .nothing s (allocateSlot i h (.manage op) s) := al.keeps q recent
  have new : row (allocateSlot i h (.manage op) s).slots i = some (allocatedSlot s h (.manage op)) := by
    rw [row_allocateSlot, if_pos rfl]
  have allotted : Allotted s (allocateSlot i h (.manage op) s) i h (.manage op) := ⟨⟨_, new, rfl⟩, rfl⟩
  have lone : mustWait s h = false := by
    cases member : isMemberMark h.mark with
    | true => exact absurd rfl (al.member member op)
    | false => simp [mustWait, member]
  have joined := allocated.trans (joinDestination_keeps (A := A) (B := B) allocated.queues (fun _ => allotted.waiting)
    (fun a => al.loose (q a)) fun _ ok => allotted.head lone ok)
  generalize hu : joinDestination i (.manage op) (allocateSlot i h (.manage op) s) = u at joined
  obtain ⟨x, hx, state, own, tag, work⟩ : ∃ x, row u.slots i = some x ∧ x.state = .queued ∧ x.initiator = h.initiator ∧
      x.tag = h.tag ∧ x.work = .manage op := by
    refine ⟨{ allocatedSlot s h (.manage op) with state := .queued }, ?_, rfl, rfl, rfl, rfl⟩
    rw [← hu, joinDestination, setSlotState_eq new, State.setManagement_slots, row_setSlot, if_pos rfl]
  have loose (a : A) : Loose .nothing u i := by
    intro y hy
    obtain rfl : x = y := Option.some.inj (hx.symm.trans hy)
    refine (al.loose (q a) _ new).of_eq ?_ ?_ ?_ ⟨own, tag⟩
    all_goals rw [← hu]; simp [joinDestination]
  have taken := joined.trans (activate_keeps (A := A) (B := B) joined.queues hx (fun _ => state) loose)
  have shape : manageTaken i h op s = (u.setSlot i (some { x with state := .active })).setManagement
      { u.management with queue := u.management.queue.erase i } := by
    rw [manageTaken, hu, takeManageSlot, setSlotState_eq hx]
  have left : Keeps A B .nothing s (manageTaken i h op s) := by
    rw [shape]
    exact taken.trans (Sound.keeps {} {} taken.queues)
  have held : row (manageTaken i h op s).slots i = some { x with state := .active } := by
    rw [shape, State.setManagement_slots, row_setSlot, if_pos rfl]
  refine ⟨{ left with queues := fun a => ?_ }, _, held, own, tag⟩
  exact
    { left.queues a with
      current := fun p cur _ => (left.queues a).current p cur (by simp [Exempt.nothing])
      lineOp := fun _ => (left.queues a).lineOp rfl
      held := fun j y hj hy => by
        cases hj
        rw [held, Option.some.injEq] at hy
        subst hy
        refine ⟨rfl, ⟨op, work⟩, fun r hr => (loose a x hx).retires r ?_⟩
        rwa [shape] at hr }

/-- The slot is released, or a drain's pair names it: between events no slot is held. -/
theorem Agree.released {i : SlotId} (a : Agree (.managing i) s) : Agree .nothing s :=
  { a with
    current := fun p cur _ => a.current p cur (by simp [Exempt.managing])
    lineOp := fun _ => a.lineOp rfl
    held := fun j x h => by simp [Exempt.nothing] at h }

/-! ### Regions (R142 to R145) -/

theorem windowsMeet_eq_false {f h : RegionFields} (apart : windowsMeet f h = false) :
    f.limit.toNat < h.base.toNat ∨ h.limit.toNat < f.base.toNat := by
  simp only [windowsMeet, Bool.and_eq_false_iff, decide_eq_false_iff_not, BitVec.le_def, not_le] at apart
  tauto

theorem completionOf_range {kind time : Byte} {c : Completion} (h : completionOf kind time = some c) :
    (∀ d, c = .fixed d → 1 ≤ d ∧ d ≤ 63) ∧ ∀ t, c = .ready t → 1 ≤ t ∧ t ≤ 255 := by
  unfold completionOf at h
  split at h
  · split at h
    · next range => cases h; exact ⟨fun d h => by cases h; exact range, by simp⟩
    · simp at h
  · split at h
    · split at h
      · next range => cases h; exact ⟨by simp, fun t h => by cases h; exact ⟨range, by have := time.isLt; omega⟩⟩
      · simp at h
    · simp at h

theorem loadFields_ok {o : LoadOperands} {f : RegionFields} (h : loadFields o = some f) : FieldsOk f := by
  unfold loadFields at h
  split at h
  · next port completion posted lanes lockable _ range _ _ _ =>
    dsimp only at h
    split at h
    · next relations =>
      obtain rfl := Option.some.inj h
      simp only [windowOk, Bool.and_eq_true, decide_eq_true_eq] at relations
      obtain ⟨⟨⟨⟨base, limit⟩, size⟩, target⟩, last⟩ := relations
      refine ⟨base, limit, size, target, last, ?_⟩
      obtain ⟨fixed, ready⟩ := completionOf_range range
      dsimp only
      split
      · exact fixed _ rfl
      · exact ready _ rfl
    · simp at h
  · simp at h

theorem RegionMapOk.load (ok : RegionMapOk s) {e : EntryId} {f : RegionFields} (fields : FieldsOk f)
    (apart : overlapsMap s f = false) (r : RegionRecord) (same : r.fields = f) : RegionMapOk (s.setRegion e (some r)) := by
  obtain ⟨sound, windows⟩ := ok
  have clear {j : EntryId} {q : RegionRecord} (hq : row s.regions j = some q) :
      f.limit.toNat < q.fields.base.toNat ∨ q.fields.limit.toNat < f.base.toNat := by
    simp only [overlapsMap, List.any_eq_false] at apart
    have := apart j (List.mem_finRange j)
    exact windowsMeet_eq_false (by simpa [hq] using this)
  have origin {j : EntryId} {q : RegionRecord} (hq : row (s.setRegion e (some r)).regions j = some q) :
      (j = e ∧ q = r) ∨ row s.regions j = some q := by
    rw [State.setRegion_regions, row_putRow] at hq
    split at hq
    · next here => exact .inl ⟨here, (Option.some.inj hq).symm⟩
    · exact .inr hq
  refine ⟨fun j q hq => ?_, fun j k p q hp hq ne => ?_⟩
  · rcases origin hq with ⟨-, rfl⟩ | old
    · exact same ▸ fields
    · exact sound j q old
  · rcases origin hp with ⟨rfl, rfl⟩ | old <;> rcases origin hq with ⟨rfl, rfl⟩ | old'
    · exact absurd rfl ne
    · exact same ▸ clear old'
    · exact same ▸ (clear old).symm
    · exact windows j k p q old old' ne

/-- An entry without references comes or goes. -/
theorem ReferencesOk.setRegion (ok : ReferencesOk s) {e : EntryId} {r : Option RegionRecord} (unreferenced : countOf s e = 0)
    (idle : ∀ q, row s.regions e = some q → q.phase = .active) (fresh : ∀ q, r = some q → q.phase = .active ∧ q.inFlight = 0) :
    ReferencesOk (s.setRegion e r) := by
  obtain ⟨counts, draining, retires, lockReads⟩ := (refsOff_none_iff s).mpr ok
  have kept (f : EntryId) : row (s.setRegion e r).regions f = if f = e then r else row s.regions f := row_putRow ..
  rw [← refsOff_none_iff]
  refine ⟨fun f => ?_, fun f q h phase => ?_, fun f => ?_, lockReads⟩
  · have count : references (s.setRegion e r) f = countOf s f := counts f
    rw [count, countOf, countOf, kept]
    by_cases here : f = e
    · subst here
      rw [if_pos rfl]
      cases r with
      | none => exact congrArg (· + 0) unreferenced
      | some q => exact congrArg (· + 0) (unreferenced.trans (fresh q rfl).2.symm)
    · rw [if_neg here]
  · rw [kept] at h
    split at h
    · simp [(fresh q h).1] at phase
    · exact draining f q h phase
  · rw [kept, State.setRegion_management, ← retires f]
    split
    · next here =>
      subst here
      constructor
      · rintro ⟨q, hq, phase⟩; simp [(fresh q hq).1] at phase
      · rintro ⟨q, hq, phase⟩; simp [idle q hq] at phase
    · exact Iff.rfl

theorem setRegion_keeps (q : A → Agree g s) {e : EntryId} {r : Option RegionRecord}
    (map : RegionMapOk s → RegionMapOk (s.setRegion e r)) (refs : ReferencesOk s → ReferencesOk (s.setRegion e r)) :
    Keeps A B g s (s.setRegion e r) where
  toSound := { regions := map }
  queues a := (setRegion_lessens g e r s).agree (q a)
  refs _ := refs
  members _ := id
  order _ _ := id

theorem mem_insertRetire (r q : PendingRetire) (l : List PendingRetire) : q ∈ insertRetire r l ↔ q = r ∨ q ∈ l := by
  induction l with
  | nil => simp [insertRetire]
  | cons first rest ih =>
    unfold insertRetire
    split
    · simp
    · simp [ih]; tauto

theorem startDrain_keeps {i : SlotId} (q : A → Agree (.managing i) s) {x : Slot} (hx : row s.slots i = some x) {e : EntryId}
    {r : RegionRecord} (hr : row s.regions e = some r) (referenced : r.inFlight ≠ 0) :
    Keeps A B .nothing s (startDrain e r x.initiator x.tag s) where
  toSound := { regions := fun ok => ok.setRegion fun p h => ⟨r, hr, by cases h; exact ⟨rfl, rfl, id⟩⟩ }
  queues a := by
    have old := (q a).released
    obtain ⟨state, ⟨op, work⟩, unnamed⟩ := (q a).held i x rfl hx
    have mem (p : PendingRetire) : p ∈ (startDrain e r x.initiator x.tag s).management.retires ↔
        p = ⟨e, x.initiator, x.tag⟩ ∨ p ∈ s.management.retires := mem_insertRetire ..
    exact
      { old with
        retires := fun p hp => by
          rcases (mem p).mp hp with rfl | hp
          · exact ⟨i, x, op, hx, rfl, rfl, state, work⟩
          · exact old.retires p hp
        retireKeys := fun p p' hp hp' own tag => by
          rcases (mem p).mp hp with rfl | hp <;> rcases (mem p').mp hp' with rfl | hp'
          · rfl
          · exact absurd ⟨own.symm, tag.symm⟩ (unnamed p' hp')
          · exact absurd ⟨own, tag⟩ (unnamed p hp)
          · exact old.retireKeys p p' hp hp' own tag
        held := fun j y h => by simp [Exempt.nothing] at h }
  refs _ ok := by
    obtain ⟨counts, draining, retires, lockReads⟩ := (refsOff_none_iff s).mpr ok
    have kept (f : EntryId) : row (startDrain e r x.initiator x.tag s).regions f =
        if f = e then some { r with phase := .draining } else row s.regions f := row_putRow ..
    have mem (p : PendingRetire) : p ∈ (startDrain e r x.initiator x.tag s).management.retires ↔
        p = ⟨e, x.initiator, x.tag⟩ ∨ p ∈ s.management.retires := mem_insertRetire ..
    rw [← refsOff_none_iff]
    refine ⟨fun f => ?_, fun f p h phase => ?_, fun f => ?_, lockReads⟩
    · have count : references (startDrain e r x.initiator x.tag s) f = countOf s f := counts f
      rw [count, countOf, countOf, kept]
      by_cases here : f = e
      · subst here; simp [hr]
      · rw [if_neg here]
    · rw [kept] at h
      split at h
      · cases h; exact Nat.pos_of_ne_zero referenced
      · exact draining f p h phase
    · rw [kept]
      simp only [mem]
      by_cases here : f = e
      · subst here; simp
      · rw [if_neg here, retires f]
        refine ⟨fun ⟨p, hp, he⟩ => ⟨p, .inr hp, he⟩, fun ⟨p, hp, he⟩ => ?_⟩
        rcases hp with rfl | hp
        · exact absurd he.symm here
        · exact ⟨p, hp, he⟩
  members _ := id
  order _ _ := id

/-! ### Claims -/

/-- What a claim is left with: its slot is still held when it has an answer, and otherwise a drain's pair names it. -/
def claimExempt (i : SlotId) (answer : Option Answer) : Exempt :=
  match answer with
  | some _ => .managing i
  | none => .nothing

/-- A claim keeps what a step keeps. -/
def ClaimKeeps (A B : Prop) (i : SlotId) (s : State) (c : Claim) : Prop := Keeps A B (claimExempt i c.answer) s c.state

theorem claim_unchanged {i : SlotId} (q : A → Agree (.managing i) s) (a : Answer) : ClaimKeeps A B i s (unchanged s a) :=
  Keeps.refl q

theorem claim_carriedOut {i : SlotId} {t : State} (k : Keeps A B (.managing i) s t) : ClaimKeeps A B i s (carriedOut t) := k

theorem claimLoadRegion_keeps {i : SlotId} (q : A → Agree (.managing i) s) (o : LoadOperands) :
    ClaimKeeps A B i s (claimLoadRegion o s) := by
  unfold claimLoadRegion
  split
  · next e f _ fields =>
    split
    · exact claim_unchanged q _
    · next absent =>
      split
      · exact claim_unchanged q _
      · next apart =>
        have absent : row s.regions e = none := by simpa using absent
        refine claim_carriedOut (setRegion_keeps q (fun ok => ok.load (loadFields_ok fields) (by simpa using apart) _ rfl)
          fun ok => ok.setRegion (by simp [countOf, absent]) (fun p hp => by simp [absent] at hp) fun p hp => ?_)
        cases hp
        exact ⟨rfl, rfl⟩
  · exact claim_unchanged q _

theorem claimRetireRegion_keeps {i : SlotId} (q : A → Agree (.managing i) s) {x : Slot} (hx : row s.slots i = some x)
    (entry : Byte) : ClaimKeeps A B i s (claimRetireRegion entry x.initiator x.tag s) := by
  unfold claimRetireRegion
  split
  · exact claim_unchanged q _
  · next e _ =>
    split
    · exact claim_unchanged q _
    · next r hr =>
      split
      · exact claim_unchanged q _
      · next active =>
        split
        · next none =>
          refine claim_carriedOut (setRegion_keeps q (fun ok => ok.setRegion (by simp)) fun ok => ?_)
          refine ok.setRegion (by simp [countOf, hr, none]) (fun p hp => ?_) (by simp)
          rw [hr, Option.some.injEq] at hp
          exact hp ▸ active
        · next some => exact startDrain_keeps q hx hr some

theorem claimAlterRights_keeps {i : SlotId} (q : A → Agree (.managing i) s) (entry : Byte) (rs ws : InitiatorSet) :
    ClaimKeeps A B i s (claimAlterRights entry rs ws s) := by
  unfold claimAlterRights
  split
  · exact claim_unchanged q _
  · next e _ =>
    split
    · exact claim_unchanged q _
    · next r hr =>
      refine claim_carriedOut (setRegion_keeps q
        (fun ok => ok.setRegion fun p hp => ⟨r, hr, by cases hp; exact ⟨rfl, rfl, id⟩⟩) fun ok => ?_)
      obtain ⟨counts, draining, retires, lockReads⟩ := ok
      have kept (f : EntryId) : row (s.setRegion e
          (some { r with fields := { r.fields with readSet := rs, writeSet := ws } })).regions f =
          if f = e then some { r with fields := { r.fields with readSet := rs, writeSet := ws } } else row s.regions f :=
        row_putRow ..
      refine ⟨fun f => ?_, fun f p hp phase => ?_, fun f => ?_, lockReads⟩
      · refine (counts f).trans ?_
        rw [kept]
        by_cases here : f = e
        · subst here; simp [hr]
        · rw [if_neg here]
      · rw [kept] at hp
        split at hp
        · next here => subst here; cases hp; exact draining f r hr phase
        · exact draining f p hp phase
      · rw [kept, State.setRegion_management, ← retires f]
        split
        · next here => subst here; simp [hr]
        · exact Iff.rfl

theorem claimSetPort_keeps {i : SlotId} (q : A → Agree (.managing i) s) (port setting lifetime limit : Byte) :
    ClaimKeeps A B i s (claimSetPort port setting lifetime limit s) := by
  unfold claimSetPort
  split
  · split
    · exact claim_unchanged q _
    · exact claim_carriedOut (applySetPort_keeps q _ _ _ _)
  · exact claim_unchanged q _

theorem claimSetStation_keeps {i : SlotId} (q : A → Agree (.managing i) s) (o : StationOperands) :
    ClaimKeeps A B i s (claimSetStation o s) := by
  unfold claimSetStation
  split
  · next n enable _ _ =>
    split
    · exact claim_unchanged q _
    · next watched =>
      have set : Keeps A B (.managing i) s (s.setStation n (afterSetStation (row s.stations n) enable o)) :=
        setStation_keeps q (fun ok => ok.afterSetStation enable (by simpa using watched)) (afterSetStation_copy _ _ _)
      have checked := set.trans (checkCycleEnd_keeps (A := A) (B := B) set.queues)
      exact claim_carriedOut (checked.trans (lineArbiter_keeps checked.queues))
  · exact claim_unchanged q _

theorem claimSetEvent_keeps {i : SlotId} (q : A → Agree (.managing i) s) (source priority : Byte) :
    ClaimKeeps A B i s (claimSetEvent source priority s) := by
  unfold claimSetEvent
  split
  · exact claim_carriedOut (Sound.keeps { events := fun ok => ok.of_settings rfl rfl rfl rfl rfl rfl } {} q)
  · exact claim_unchanged q _

theorem claimSetEventTarget_keeps {i : SlotId} (q : A → Agree (.managing i) s) (initiator window : Byte) :
    ClaimKeeps A B i s (claimSetEventTarget initiator window s) := by
  unfold claimSetEventTarget
  split
  · exact claim_unchanged q _
  · split
    · exact claim_unchanged q _
    · have withdrawn : Keeps A B (.managing i) s (withdrawMessage s) := withdrawMessage_keeps q
      exact claim_carriedOut (withdrawn.trans
        (Sound.keeps { events := fun ok => ok.of_settings rfl rfl rfl rfl rfl rfl } {} withdrawn.queues))

theorem claimEventAck_keeps {i : SlotId} (q : A → Agree (.managing i) s) (source sequence : Byte) (k : Initiator) :
    ClaimKeeps A B i s (claimEventAck source sequence k s) := by
  unfold claimEventAck
  split
  · exact claim_unchanged q _
  · split
    · exact claim_unchanged q _
    · next m flying =>
      split
      · exact claim_carriedOut (acknowledge_keeps q flying)
      · exact claim_unchanged q _

theorem claimEventResume_keeps {i : SlotId} (q : A → Agree (.managing i) s) (k : Initiator) :
    ClaimKeeps A B i s (claimEventResume k s) := by
  unfold claimEventResume
  split
  · exact claim_unchanged q _
  · split
    · next m stalled =>
      exact claim_carriedOut (resendMessage_keeps q (by simp [inFlightMessage, stalled]) (by omega))
    · exact claim_unchanged q _
    · exact claim_unchanged q _

theorem claimReadIncident_keeps {i : SlotId} (q : A → Agree (.managing i) s) (kind clear : Byte) :
    ClaimKeeps A B i s (claimReadIncident kind clear s) := by
  unfold claimReadIncident
  split
  · next k yes _ _ =>
    cases yes with
    | true => exact clearIncident_keeps (A := A) (B := B) q k
    | false => exact claim_unchanged q _
  · exact claim_unchanged q _

theorem claimSetManagers_keeps {i : SlotId} (q : A → Agree (.managing i) s) (set : InitiatorSet) (k : Initiator) :
    ClaimKeeps A B i s (claimSetManagers set k s) := by
  unfold claimSetManagers
  split
  · next mine => exact claim_carriedOut (Sound.keeps { managers := fun _ => ⟨k, mine⟩ } {} q)
  · exact claim_unchanged q _

theorem claimReadRegion_keeps {i : SlotId} (q : A → Agree (.managing i) s) (entry : Byte) :
    ClaimKeeps A B i s (claimReadRegion entry s) := by
  unfold claimReadRegion
  split <;> exact claim_unchanged q _

theorem claimReadPort_keeps {i : SlotId} (q : A → Agree (.managing i) s) (port : Byte) :
    ClaimKeeps A B i s (claimReadPort port s) := by
  unfold claimReadPort
  split <;> exact claim_unchanged q _

theorem claimReadStation_keeps {i : SlotId} (q : A → Agree (.managing i) s) (station : Byte) :
    ClaimKeeps A B i s (claimReadStation station s) := by
  unfold claimReadStation
  split <;> exact claim_unchanged q _

theorem claimOf_keeps {i : SlotId} (q : A → Agree (.managing i) s) {x : Slot} (hx : row s.slots i = some x) (op : ManageOp) :
    ClaimKeeps A B i s (claimOf op x.initiator x.tag s) := by
  cases op with
  | loadRegion o => exact claimLoadRegion_keeps q o
  | retireRegion entry => exact claimRetireRegion_keeps q hx entry
  | alterRights entry rs ws => exact claimAlterRights_keeps q entry rs ws
  | readRegion entry => exact claimReadRegion_keeps q entry
  | setPort port setting lifetime limit => exact claimSetPort_keeps q port setting lifetime limit
  | readPort port => exact claimReadPort_keeps q port
  | setStation o => exact claimSetStation_keeps q o
  | readStation station => exact claimReadStation_keeps q station
  | setScan period => exact claim_carriedOut (setLine_keeps q rfl fun _ => .inl)
  | setEvent source priority => exact claimSetEvent_keeps q source priority
  | setEventTarget initiator window => exact claimSetEventTarget_keeps q initiator window
  | eventAck source sequence => exact claimEventAck_keeps q source sequence x.initiator
  | eventResume => exact claimEventResume_keeps q x.initiator
  | readIncident kind clear => exact claimReadIncident_keeps q kind clear
  | setManagers set => exact claimSetManagers_keeps q set x.initiator
  | readOccupancy => exact claim_unchanged q _

/-! ### An operation is carried out whole (R139) -/

theorem concludeClaim_keeps {i : SlotId} {c : Claim} (k : ClaimKeeps A B i s c) :
    Keeps A B .nothing s (concludeClaim i c) := by
  unfold ClaimKeeps claimExempt at k
  unfold concludeClaim
  cases answer : c.answer with
  | some a =>
    simp only [answer] at k
    have selected := k.trans (selectEvent_keeps (A := A) (B := B) k.queues)
    have finished := selected.trans (finishSlot_ends (A := A) (B := B) selected.queues
      (fun h x hx => (selected.queues h).noReference_of_held rfl hx) a).toKeeps
    exact { finished with queues := fun h => (finished.queues h).released }
  | none =>
    simp only [answer] at k
    exact k.trans (selectEvent_keeps k.queues)

theorem acceptManage_keeps (q : A → Agree .nothing s) (recent : A → B → Recent s) {h : ReqHeader} {op : ManageOp}
    (al : ∀ i, freeSlot s = some i → Allocates s i h (.manage op)) : Keeps A B .nothing s (acceptManage h op s) := by
  unfold acceptManage
  split
  · exact .refl q
  · next i free =>
    obtain ⟨taken, x, hx, own, tag⟩ := manageTaken_keeps (A := A) (B := B) q recent (al i free)
    have claim : ClaimKeeps A B i (manageTaken i h op s) (claimOf op x.initiator x.tag (manageTaken i h op s)) :=
      claimOf_keeps taken.queues hx op
    rw [own, tag] at claim
    exact taken.trans (concludeClaim_keeps claim)

end

end Sys2Proof.Machine
end

section
/-! PROOFS. What one step keeps, part 11: the commands, power-on reset, and the invariants of every step (O53 to O60). -/

namespace Sys2Proof.Machine

-- one proof at a time: the text is compiled whole, in one process whose threads share its memory limit
set_option Elab.async false

section
variable {A B : Prop} {g : Exempt} {s : State}

/-! ### The acceptance order (R25, R29) -/

theorem portCheck_passed {k : Initiator} {kind : PortKind} {addr : Addr} {width : Width} {w : Work}
    (h : portCheck s k kind addr width = .passed w) :
    ∃ e r, row s.regions e = some r ∧ w = .port (portWorkFor e r.fields kind addr width) ∧
      lockCheck s k r.fields.port kind addr width = none := by
  unfold portCheck at h
  split at h
  · simp at h
  · next e _ =>
    split at h
    · simp at h
    · next r hr =>
      iterate 5 (split at h; · simp at h)
      split at h
      · simp at h
      · next none => exact ⟨e, r, hr, (Checked.passed.inj h).symm, none⟩

theorem lockCheck_lockRead {k : Initiator} {p : PortId} {addr : Addr} {width : Width}
    (h : lockCheck s k p .lockRead addr width = none) : hasLockClaim s k p = false := by
  simpa [lockCheck] using h

/-- What step 7 passes has its entry present, and its LOCK-READ unclaimed. -/
theorem kindCheck_passed {k : Initiator} {r : Parsed} {w : Work} (h : kindCheck s k r = .passed w) :
    (∀ e, workEntry w = some e → (row s.regions e).isSome = true) ∧
      (∀ v, w = .port v → v.kind = .lockRead → hasLockClaim s k v.port = false) ∧
      ∀ op, w = .manage op → ∃ op', r = .manage op' := by
  cases r with
  | port kind addr width =>
    obtain ⟨e, r, hr, rfl, lock⟩ := portCheck_passed h
    refine ⟨fun f hf => ?_, fun v hv kind' => ?_, by simp⟩
    · cases hf; simp [portWorkFor, hr]
    · cases hv
      have kind' : kind = .lockRead := kind'
      subst kind'
      exact lockCheck_lockRead lock
  | bit kind addr =>
    simp only [kindCheck, bitCheck] at h
    split at h
    · simp at h
    · split at h
      · simp at h
      · cases h; exact ⟨by simp [workEntry], by simp, by simp⟩
  | manage op =>
    simp only [kindCheck, manageCheck] at h
    split at h
    · cases h; exact ⟨by simp [workEntry], by simp, fun op' _ => ⟨op, rfl⟩⟩
    · simp at h
  | abandon => simp [kindCheck] at h

theorem verdictFrom3_accepted {h : ReqHeader} {check : Checked} {w : Work} (accepted : verdictFrom3 s h check = .accepted w) :
    slotOfKey s h.initiator h.tag = none ∧ check = .passed w := by
  unfold verdictFrom3 at accepted
  split at accepted
  · simp at accepted
  · next free =>
    refine ⟨by simpa using free, ?_⟩
    split at accepted
    · next v chain =>
      split at chain
      · unfold chainVerdict at chain
        repeat' split at chain
        all_goals simp_all
      · simp at chain
    · unfold lateVerdict at accepted
      split at accepted
      · simp at accepted
      · unfold verdictOfCheck at accepted
        split at accepted
        · cases accepted; rfl
        · split at accepted <;> simp at accepted
        · simp at accepted

theorem judge_accepted_inv {h : ReqHeader} {parsed : Option Parsed} {w : Work} (accepted : judge s h parsed = .accepted w) :
    ∃ r, badMark h.mark r = false ∧ slotOfKey s h.initiator h.tag = none ∧ kindCheck s h.initiator r = .passed w := by
  unfold judge at accepted
  split at accepted
  · simp at accepted
  · split at accepted
    · simp at accepted
    · next r =>
      split at accepted
      · simp at accepted
      · next good =>
        refine ⟨r, by simpa using good, ?_⟩
        split at accepted
        · simp at accepted
        all_goals exact verdictFrom3_accepted accepted

/-- A request that is accepted may be given any FREE slot. -/
theorem judge_allocates {h : ReqHeader} {parsed : Option Parsed} {w : Work} (accepted : judge s h parsed = .accepted w)
    (i : SlotId) (free : freeSlot s = some i) : Allocates s i h w := by
  obtain ⟨r, good, key, check⟩ := judge_accepted_inv accepted
  obtain ⟨entry, claim, manage⟩ := kindCheck_passed check
  refine ⟨freeSlot_some free, (slotOfKey_eq_none_iff _ _ _).mp key, entry, claim, fun member op hw => ?_⟩
  obtain ⟨op', rfl⟩ := manage op hw
  simp [badMark, member, allowsChain] at good

theorem handRequest_keeps (h : ReqHeader) (parsed : Option Parsed) (q : A → Agree .nothing s) (recent : A → B → Recent s) :
    Keeps A B .nothing s (handRequest h parsed s) := by
  unfold handRequest
  split
  · exact .refl q
  · cases verdict : judge s h parsed with
    | refused a => exact answerKey_keeps q _ _ _ _
    | skipped => exact refuseSkipped_keeps q h
    | chainLong => exact refuseChainLong_keeps q h
    | failed code => exact refuseFailed_keeps q h code
    | abandon => exact abandonInitiator_keeps q h.initiator h.tag
    | accepted w =>
      cases w with
      | port w => exact acceptWork_keeps q recent (judge_allocates verdict)
      | bit w => exact acceptWork_keeps q recent (judge_allocates verdict)
      | manage op => exact acceptManage_keeps q recent (judge_allocates verdict)

/-! ### The link interface (R155 to R159) -/

theorem takeMessage_keeps {process : State → State} (body : List Byte) (q : A → Agree .nothing s) (recent : A → B → Recent s)
    (processed : ∀ t, (A → Agree .nothing t) → (A → B → Recent t) → Keeps A B .nothing t (process t)) :
    Keeps A B .nothing s (takeMessage body process s) := by
  unfold takeMessage
  split
  · next empty =>
    split
    · next signal =>
      split
      · exact processed s q recent
      · exact setLink_keeps q fun ok => ⟨ok.1, by simp [signal], by simp, ok.2.2.2⟩
    · exact .refl q
  · next front rest buffer =>
    split
    · have taken : Keeps A B .nothing s (s.setLink { s.link with rx := rest }) := by
        refine setLink_keeps q fun ok => ⟨ok.1, fun silent => ?_, ?_, ok.2.2.2⟩
        · have := (ok.2.1 silent).2.1
          simp [buffer] at this
        · have := ok.2.2.1
          simp only [buffer, List.length_cons] at this
          simp only
          omega
      exact taken.trans (processed _ taken.queues recent)
    · exact .refl q

theorem setFraming_keeps (q : A → Agree g s) (signal : s.link.signal = true) (f : Framing) :
    Keeps A B g s (s.setFraming f) :=
  setLink_keeps q fun ok => ⟨ok.1, by simp [signal], ok.2.2⟩

theorem raiseLinkError_keeps (q : A → Agree g s) (c : LinkErrorCause) : Keeps A B g s (raiseLinkError c s) :=
  raiseIncident_keeps q _ _

theorem bufferBody_keeps (q : A → Agree g s) (signal : s.link.signal = true) (body : List Byte) :
    Keeps A B g s (bufferBody body s) := by
  unfold bufferBody
  split
  · next room =>
    refine setLink_keeps q fun ok => ⟨ok.1, by simp [signal], ?_, ok.2.2.2⟩
    simp only [Config.receiveBufferFrames] at room
    simp only [List.length_append, List.length_singleton]
    omega
  · exact .refl q

theorem takeSymbol_keeps (q : A → Agree g s) (signal : s.link.signal = true) (sym : LineSymbol) :
    Keeps A B g s (takeSymbol sym s) ∧ (takeSymbol sym s).link.signal = true := by
  have framed (f : Framing) : Keeps A B g s (s.setFraming f) := setFraming_keeps q signal f
  have failed (c : LinkErrorCause) (f : Framing) : Keeps A B g s (raiseLinkError c (s.setFraming f)) :=
    (framed f).trans (raiseLinkError_keeps (framed f).queues c)
  unfold takeSymbol takeFrame
  split
  · exact ⟨framed _, signal⟩
  · exact ⟨.refl q, signal⟩
  · exact ⟨failed _ _, by simpa [State.setFraming] using signal⟩
  · split
    · exact ⟨framed _, signal⟩
    · exact ⟨failed _ _, by simpa [State.setFraming] using signal⟩
  · exact ⟨failed _ _, by simpa [State.setFraming] using signal⟩
  · split
    · exact ⟨framed _, signal⟩
    · dsimp only
      split
      · refine ⟨(framed .hunting).trans (bufferBody_keeps (framed .hunting).queues signal _), ?_⟩
        unfold bufferBody
        split <;> exact signal
      · exact ⟨failed _ _, by simpa [State.setFraming] using signal⟩

theorem takeSymbols_keeps (l : List LineSymbol) (q : A → Agree g s) (signal : s.link.signal = true) :
    Keeps A B g s (takeSymbols l s) := by
  induction l generalizing s with
  | nil => exact .refl q
  | cons sym rest ih =>
    obtain ⟨taken, still⟩ := takeSymbol_keeps (A := A) (B := B) q signal sym
    have selected := taken.trans (selectEvent_keeps (A := A) (B := B) taken.queues)
    exact selected.trans (ih selected.queues (by simpa using still))

theorem LinkOk.messageLeft {l : LinkUnit} (ok : LinkOk l) : LinkOk (messageLeft l) := by
  unfold Machine.messageLeft
  split
  · refine LinkOk.beginFrame ⟨fun down => ?_, ok.2.1, ok.2.2.1, by simp⟩
    simp [(ok.1 down).1]
  · exact ok

theorem takeSync_keeps (q : A → Agree g s) : Keeps A B g s (takeSync s) := by
  unfold takeSync
  split
  · exact handNotice_keeps q
  · split
    · next signal =>
      have up : Keeps A B g s (s.setLink { s.link with state := .up }) :=
        setLink_keeps q fun ok => ⟨by simp, by simp [signal], ok.2.2⟩
      exact up.trans (handNotice_keeps up.queues)
    · exact .refl q

theorem takeLinkReset_keeps (q : A → Agree g s) : Keeps A B g s (takeLinkReset s) := by
  unfold takeLinkReset
  split
  · exact linkResetByMessage_keeps q
  · exact .refl q

theorem answerUnknown_keeps (q : A → Agree g s) (h : ReqHeader) : Keeps A B g s (answerUnknown h s) := by
  unfold answerUnknown
  split
  · exact answerKey_keeps q _ _ _ _
  · exact .refl q

/-! ### Power-on reset (R44, R83) -/

theorem single_has (k : Initiator) : (InitiatorSet.single k).has k = true := by revert k; decide

/-- The blocks in their reset state meet every invariant. -/
theorem safeState_resetBlocks (strap : Initiator) (s : State) : SafeState (resetBlocks strap s) where
  managers := ⟨strap, single_has strap⟩
  regions := by simp [RegionMapOk, resetBlocks, State.powerOn]
  stations n := by simp [resetBlocks, State.powerOn, StationOk, Station.powerOn]
  ports p := by simp [resetBlocks, State.powerOn, PortOk, Port.powerOn]
  chains k := by simp [resetBlocks, State.powerOn, ChainOk, Chain.closed]
  events := by
    simp [EventsOk, DeliveryOk, resetBlocks, State.powerOn, EventUnit.powerOn, Incident.powerOn, Station.powerOn]
  link := by simp [LinkOk, resetBlocks, LinkUnit.powerOn]
  slots := by simp [SlotTableOk, slotsOf, resetBlocks, State.powerOn, InitiatorRecord.powerOn]
  queues := by simp [QueuesOk, resetBlocks, State.powerOn, Port.powerOn, LineUnit.powerOn, ManagementUnit.powerOn]
  order := by simp [OrderOk, Ordered, resetBlocks, State.powerOn, Port.powerOn, LineUnit.powerOn]
  members k := by simp [MembersOk, resetBlocks, State.powerOn, Chain.closed]
  references := by
    simp [ReferencesOk, references, LockReadsOk, resetBlocks, State.powerOn, Port.powerOn, ManagementUnit.powerOn]

theorem SafeState.of_keeps {t : State} (safe : SafeState s) (k : Keeps True True .nothing s t) : SafeState t where
  managers := k.managers safe.managers
  regions := k.regions safe.regions
  stations := k.stations safe.stations
  ports := k.ports safe.ports
  chains := k.chains safe.chains
  events := k.events safe.events
  link := k.link safe.link
  slots := k.table safe.slots
  queues := (agree_nothing_iff t).mp (k.queues trivial)
  order := k.order trivial trivial safe.order
  members := k.members trivial safe.members
  references := k.refs trivial safe.references

theorem sampleHoldLine_keeps (q : A → Agree g s) (lines : BitVec 4) (p : PortId) :
    Keeps A B g s (sampleHoldLine lines p s) := by
  have sampled : Keeps A B g s (s.setPort p { row s.ports p with holdLine := lines.getLsbD p.val }) := holdLine_keeps q p _
  unfold sampleHoldLine
  dsimp only
  split
  · exact sampled.trans (takeRaise_keeps sampled.queues p)
  · exact sampled

/-- Power-on reset leaves a state that meets every invariant, whatever the state. -/
theorem powerOnReset_safe (strap : BitVec 3) (lines : BitVec 4) (s : State) :
    ∃ t, exec (.powerOnReset strap lines) s = .next t ∧ SafeState t := by
  have safe := safeState_resetBlocks (strapValue strap) s
  have agree : True → Agree .nothing (resetBlocks (strapValue strap) s) := fun _ => (agree_nothing_iff _).mpr safe.queues
  have sampled : Keeps True True .nothing (resetBlocks (strapValue strap) s)
      (forEach (sampleHoldLine lines) (List.finRange 4) (resetBlocks (strapValue strap) s)) :=
    Keeps.forEach (P := fun _ => True) (fun p s _ q => ⟨sampleHoldLine_keeps q lines p, trivial⟩) _ trivial agree
  exact ⟨_, rfl, safe.of_keeps (sampled.trans (selectEvent_keeps sampled.queues))⟩

/-- Settles O52. -/
theorem resetMeetsEveryInvariant : Obligations.ResetMeetsEveryInvariant :=
  ⟨safeState_resetBlocks 0 State.reset, powerOnReset_safe⟩

/-! ### Every command and every step -/

theorem endEvent_keeps {t u : State} (k : Keeps A B .nothing s t) (h : endEvent t = .next u) : Keeps A B .nothing s u := by
  cases h
  exact k.trans (selectEvent_keeps k.queues)

theorem takeRequest_keeps {kind : Byte} {h : ReqHeader} {rest : List Byte} {parsed : Option Parsed} {t : State}
    (q : A → Agree .nothing s) (recent : A → B → Recent s) (run : takeRequest kind h rest parsed s = .next t) :
    Keeps A B .nothing s t :=
  endEvent_keeps (takeMessage_keeps _ q recent fun _ => handRequest_keeps h parsed) run

/-- Every command but power-on reset keeps what a step keeps. -/
theorem exec_keeps {c : Instr} {t : State} (q : A → Agree .nothing s) (recent : A → B → Recent s)
    (lit : ∀ strap lines, c ≠ .powerOnReset strap lines) (run : exec c s = .next t) : Keeps A B .nothing s t := by
  cases request : requestOf c with
  | some h =>
    obtain ⟨body, -, taken⟩ := exec_request request s
    rw [taken] at run
    exact endEvent_keeps (takeMessage_keeps body q recent fun _ => handRequest_keeps h _) run
  | none =>
    cases c <;> simp only [requestOf, reduceCtorEq] at request
    case powerOnReset strap lines => exact absurd rfl (lit strap lines)
    case frameReceived symbols =>
      change Host.Outcome.next _ = _ at run
      cases run
      split
      · next signal => exact takeSymbols_keeps symbols q signal
      · exact .refl q
    case farEndPauseMark =>
      exact endEvent_keeps
        (setLink_keeps q fun ok => ok.of_quiet (l := { s.link with farPause := true }) rfl rfl rfl rfl rfl rfl) run
    case farEndPauseMarkGone =>
      exact endEvent_keeps
        (setLink_keeps q fun ok => LinkOk.beginFrame (ok.of_quiet (l := { s.link with farPause := false }) rfl rfl rfl rfl rfl rfl)) run
    case messageSent => exact endEvent_keeps (setLink_keeps q fun ok => ok.messageLeft) run
    case signalFound =>
      exact endEvent_keeps (setLink_keeps q (l := { s.link with signal := true }) fun ok => ⟨ok.1, by simp, ok.2.2⟩) run
    case signalLost => exact endEvent_keeps (loseSignal_keeps q) run
    case sync rest => exact endEvent_keeps (takeMessage_keeps _ q recent fun _ q _ => takeSync_keeps q) run
    case linkReset rest => exact endEvent_keeps (takeMessage_keeps _ q recent fun _ q _ => takeLinkReset_keeps q) run
    case unknownMessageType first h rest =>
      change execUnknownMessageType first h rest s = _ at run
      unfold execUnknownMessageType at run
      split at run
      · exact takeRequest_keeps q recent run
      · split at run
        · cases run; exact .refl q
        · exact endEvent_keeps (takeMessage_keeps _ q recent fun _ q _ => answerUnknown_keeps q h) run
    case fixedDelayExpiry p bytes => exact endEvent_keeps (fixedExpiryAt_keeps q p bytes) run
    case readyIndication p bytes => exact endEvent_keeps (readyAt_keeps q p bytes) run
    case readyTimerExpiry p => exact endEvent_keeps (readyExpiryAt_keeps q p) run
    case lockLifetimeExpiry p =>
      refine endEvent_keeps (t := if lifetimeRuns (row s.ports p) then removeLock p true s else s) ?_ run
      split
      · exact removeLock_keeps q p true
      · exact .refl q
    case holdRequestRaise p =>
      refine endEvent_keeps (t := if (row s.ports p).holdLine then s
        else takeRaise p (s.setPort p { row s.ports p with holdLine := true })) ?_ run
      split
      · exact .refl q
      · have raised : Keeps A B .nothing s (s.setPort p { row s.ports p with holdLine := true }) := holdLine_keeps q p true
        exact raised.trans (takeRaise_keeps raised.queues p)
    case holdRequestWithdrawal p =>
      refine endEvent_keeps (t := if (row s.ports p).holdLine then takeWithdrawal p s else s) ?_ run
      split
      · exact takeWithdrawal_keeps q p
      · exact .refl q
    case holdLimitExpiry p =>
      refine endEvent_keeps (t := if holdLimitRuns (row s.ports p) then overrunHold p s else s) ?_ run
      split
      · exact overrunHold_keeps q p
      · exact .refl q
    case stationReply r =>
      change endEvent _ = _ at run
      refine endEvent_keeps ?_ run
      split
      · next op running =>
        split
        · exact completeWithReply_keeps q running r.pins
        · exact .refl q
      · exact .refl q
    case lineTimerExpiry =>
      change endEvent _ = _ at run
      refine endEvent_keeps ?_ run
      split
      · next op running => exact completeWithTimeout_keeps q running
      · exact .refl q
    case scanTimerExpiry =>
      refine endEvent_keeps (t := if s.line.scanTimer = .stopped then s else scanExpiry s) ?_ run
      split
      · exact .refl q
      · exact scanExpiry_keeps q
    case ackWindowExpiry =>
      change endEvent _ = _ at run
      refine endEvent_keeps ?_ run
      split
      · next m d waiting _ => exact windowExpiry_keeps q waiting
      · exact .refl q
      · exact .refl q
      · exact .refl q

/-- What every step keeps: all that `Keeps` says, or a power-on reset has made every invariant hold. -/
theorem step_keeps {t : State} (run : step s = .next t) :
    Keeps (QueuesOk s) (Recent s) .nothing s t ∨ SafeState t := by
  have agree : QueuesOk s → Agree .nothing s := (agree_nothing_iff s).mpr
  unfold step at run
  split at run
  · cases run; exact .inl (.refl agree)
  · next c rest _ =>
    have popped : Keeps (QueuesOk s) (Recent s) .nothing s { s with pending := rest } := Sound.keeps {} {} agree
    by_cases lit : ∃ strap lines, c = .powerOnReset strap lines
    · obtain ⟨strap, lines, rfl⟩ := lit
      obtain ⟨u, reset, safe⟩ := powerOnReset_safe strap lines { s with pending := rest }
      rw [reset] at run
      cases run
      exact .inr safe
    · push Not at lit
      exact .inl (popped.trans (exec_keeps popped.queues (fun _ recent => recent) lit run))

/-- Settles O53. -/
theorem stepsKeepRegionMapAndManagers : Obligations.StepsKeepRegionMapAndManagers := by
  rintro s t ⟨map, managers⟩ run
  obtain kept | safe := step_keeps run
  · exact ⟨kept.regions map, kept.managers managers⟩
  · exact ⟨safe.regions, safe.managers⟩

/-- Settles O54. -/
theorem stepsKeepStationRecords : Obligations.StepsKeepStationRecords := fun _ _ ok run =>
  (step_keeps run).elim (fun kept => kept.stations ok) fun safe => safe.stations

/-- Settles O55. -/
theorem stepsKeepPortsAndHolds : Obligations.StepsKeepPortsAndHolds := fun _ _ ok run =>
  (step_keeps run).elim (fun kept => kept.ports ok) fun safe => safe.ports

/-- Settles O56. -/
theorem stepsKeepChainContexts : Obligations.StepsKeepChainContexts := by
  intro s t run
  obtain kept | safe := step_keeps run
  · exact ⟨kept.chains, kept.members⟩
  · exact ⟨fun _ => safe.chains, fun _ _ => safe.members⟩

/-- Settles O57. -/
theorem stepsKeepEventDelivery : Obligations.StepsKeepEventDelivery := fun _ _ ok run =>
  (step_keeps run).elim (fun kept => kept.events ok) fun safe => safe.events

/-- Settles O58. -/
theorem stepsKeepLinkInterface : Obligations.StepsKeepLinkInterface := fun _ _ ok run =>
  (step_keeps run).elim (fun kept => kept.link ok) fun safe => safe.link

/-- Settles O59. -/
theorem stepsKeepSlotTable : Obligations.StepsKeepSlotTable := by
  intro s t run
  obtain kept | safe := step_keeps run
  · exact ⟨kept.table, kept.refs⟩
  · exact ⟨fun _ => safe.slots, fun _ _ => safe.references⟩

/-- Settles O60. -/
theorem stepsKeepQueuesAndSlotsInAgreement : Obligations.StepsKeepQueuesAndSlotsInAgreement := by
  intro s t ok run
  obtain kept | safe := step_keeps run
  · exact ⟨(agree_nothing_iff t).mp (kept.queues ok), kept.order ok⟩
  · exact ⟨safe.queues, fun _ _ => safe.order⟩

end

end Sys2Proof.Machine
end

section
/-! PROOFS. The block as a whole (R44, R83): one step, the completion of every command, power-on reset, the lane rules (R11, R12, R52)
and the hold request line (R84, R87, R88). -/

namespace Sys2Proof.Machine

-- one proof at a time: the text is compiled whole, in one process whose threads share its memory limit
set_option Elab.async false

/-- Settles O1: a step is defined by the front of the queue. -/
theorem stepRunsFrontCommand : Obligations.StepRunsFrontCommand := by
  unfold Obligations.StepRunsFrontCommand
  intro c rest s front
  simp [step, front]

/-! ### Every command completes -/

theorem takeMessage_pending (body : List Byte) {process : State → State} (kept : ∀ v, (process v).pending = v.pending)
    (s : State) : (takeMessage body process s).pending = s.pending := by
  unfold takeMessage
  repeat' split
  all_goals simp [kept]

theorem takeSymbols_pending (l : List LineSymbol) (s : State) : (takeSymbols l s).pending = s.pending := by simp

/-- A command completes in `s` with the queue of waiting commands as it was. -/
def Completes (s : State) (o : Host.Outcome State Fault Refusal) : Prop := ∃ t, o = .next t ∧ t.pending = s.pending

theorem completes_endEvent {s t : State} (kept : t.pending = s.pending) : Completes s (endEvent t) :=
  ⟨selectEvent t, rfl, by simp [kept]⟩

theorem exec_request_completes {c : Instr} {h : ReqHeader} (request : requestOf c = some h) (s : State) :
    Completes s (exec c s) := by
  obtain ⟨body, -, run⟩ := exec_request request s
  rw [run]
  exact completes_endEvent (takeMessage_pending _ (fun _ => by simp) s)

theorem powerOnReset_pending (lines : BitVec 4) (s : State) :
    (forEach (sampleHoldLine lines) (List.finRange 4) s).pending = s.pending :=
  forEach_keeps State.pending _ (fun p t => by simp) _ s

theorem execUnknownMessageType_completes (first : Byte) (h : ReqHeader) (rest : List Byte) (s : State) :
    Completes s (execUnknownMessageType first h rest s) := by
  unfold execUnknownMessageType
  split
  · exact completes_endEvent (takeMessage_pending _ (fun _ => by simp) s)
  · split
    · exact ⟨s, rfl, rfl⟩
    · exact completes_endEvent (takeMessage_pending _ (fun _ => by simp) s)

/-- Settles O2: by the command; a request goes through `takeMessage`, and every other event ends with a selection. -/
theorem everyCommandCompletes : Obligations.EveryCommandCompletes := by
  unfold Obligations.EveryCommandCompletes
  intro c s
  cases request : requestOf c with
  | some h => exact exec_request_completes request s
  | none =>
    cases c with
    | powerOnReset strap lines => exact completes_endEvent (powerOnReset_pending lines _)
    | frameReceived symbols =>
      refine ⟨_, rfl, ?_⟩
      split
      · exact takeSymbols_pending symbols s
      · rfl
    | farEndPauseMark => exact completes_endEvent rfl
    | messageSent => exact completes_endEvent rfl
    | signalFound => exact completes_endEvent rfl
    | signalLost => exact completes_endEvent (by simp)
    | sync rest => exact completes_endEvent (takeMessage_pending _ (fun _ => by simp) s)
    | linkReset rest => exact completes_endEvent (takeMessage_pending _ (fun _ => by simp) s)
    | unknownMessageType first h rest => exact execUnknownMessageType_completes first h rest s
    | fixedDelayExpiry p bytes => exact completes_endEvent (by simp)
    | readyIndication p bytes => exact completes_endEvent (by simp)
    | readyTimerExpiry p => exact completes_endEvent (by simp)
    | lockLifetimeExpiry p => exact completes_endEvent (by split <;> simp)
    | holdRequestRaise p => exact completes_endEvent (by split <;> simp)
    | holdRequestWithdrawal p => exact completes_endEvent (by split <;> simp)
    | holdLimitExpiry p => exact completes_endEvent (by split <;> simp)
    | stationReply r =>
      refine completes_endEvent ?_
      split
      · split <;> simp
      · rfl
    | lineTimerExpiry => exact completes_endEvent (by split <;> simp)
    | scanTimerExpiry => exact completes_endEvent (by split <;> simp)
    | ackWindowExpiry => exact completes_endEvent (by split <;> simp)
    | farEndPauseMarkGone => exact completes_endEvent rfl
    | _ => exact absurd request (by simp [requestOf])

/-! ### The lane rules -/

theorem writeData_write {kind : PortKind} {d : BitVec 16} (writes : kind = .write d ∨ kind = .unlockWrite d) :
    writeData kind = some d := by
  rcases writes with rfl | rfl <;> rfl

theorem writeData_read {kind : PortKind} (reads : kind = .read ∨ kind = .lockRead) : writeData kind = none := by
  rcases reads with rfl | rfl <;> rfl

/-- The byte that an access takes is that of its address's lane. -/
theorem byteAt_eq (b : SegmentBytes) (a : Addr) : byteAt b a = if a.toNat % 2 = 1 then b.odd else b.even := by
  simp only [byteAt, odd_iff]

theorem byteAt_next {b : SegmentBytes} {a : Addr} (even : a.toNat % 2 = 0) : byteAt b (a + 1) = b.odd := by
  rw [byteAt_eq, if_pos]
  bv_omega

/-- Settles O15: by the kind, the width and the lane rule. -/
theorem laneRulesPlaceTheBytes : Obligations.LaneRulesPlaceTheBytes := by
  unfold Obligations.LaneRulesPlaceTheBytes
  intro w d b low
  refine ⟨fun writes word => ?_, fun writes byte lanes => ?_, fun reads word => ?_, fun reads byte lanes => ?_,
    fun word even => ?_, fun byte lanes => ?_⟩
  · simp [segmentStep, writeData_write writes, stepData, word]
  · simp [segmentStep, writeData_write writes, stepData, byte]
  · simp [segmentStep, writeData_read reads, word]
  · simp [segmentStep, writeData_read reads, byte]
  · simp only [readValue, word]
    rw [byteAt_next even]
    exact ⟨trivial, trivial, rfl⟩
  · simp [readValue, byte, byteAt_eq]

/-! ### Power-on reset -/

/-- A port in its first event after power-on reset, which finds its hold request line at a level. -/
def sampledPort (level : Bool) : Port :=
  if level then { Port.powerOn with holdLine := true, gate := .granted, state := .held }
  else { Port.powerOn with holdLine := false }

theorem sampleHoldLine_powerOn {s : State} {p : PortId} (fresh : row s.ports p = Port.powerOn) (lines : BitVec 4) :
    sampleHoldLine lines p s = s.setPort p (sampledPort (lines.getLsbD p.val)) := by
  unfold sampleHoldLine
  generalize lines.getLsbD p.val = level
  cases level with
  | false => simp [sampledPort, fresh]
  | true =>
    simp [sampledPort, fresh, takeRaise, arbiter, grantHold, Port.powerOn, State.setPort, Config.defaultHoldLimit]

theorem forEach_sampleHoldLine (lines : BitVec 4) (l : List PortId) (distinct : l.Nodup) (s : State)
    (fresh : ∀ p, p ∈ l → row s.ports p = Port.powerOn) :
    forEach (sampleHoldLine lines) l s =
      { s with ports := l.foldl (fun t p => putRow t p (sampledPort (lines.getLsbD p.val))) s.ports } := by
  induction l generalizing s with
  | nil => rfl
  | cons p rest ih =>
    obtain ⟨absent, distinct⟩ := List.nodup_cons.mp distinct
    rw [forEach, sampleHoldLine_powerOn (fresh p (by simp)), ih distinct]
    · rfl
    · intro q hq
      have ne : q ≠ p := by rintro rfl; exact absent hq
      rw [State.setPort_ports, row_putRow_ne _ _ _ _ ne]
      exact fresh q (by simp [hq])

theorem row_foldl_putRow {n : Nat} {α : Type} (f : Fin n → α) (l : List (Fin n)) (t : Table n α) (i : Fin n) :
    row (l.foldl (fun t p => putRow t p (f p)) t) i = if i ∈ l then f i else row t i := by
  induction l generalizing t with
  | nil => simp
  | cons p rest ih =>
    rw [List.foldl_cons, ih, row_putRow]
    by_cases later : i ∈ rest
    · simp [later]
    · by_cases here : i = p
      · subst here; simp
      · simp [later, here]

/-- Selection changes nothing while the link is DOWN (R128). -/
theorem selectEvent_of_down {s : State} (down : s.link.state = .down) : selectEvent s = s := by
  simp [selectEvent, selectionOpen, down]

/-- The state that power-on reset leaves. -/
theorem exec_powerOnReset (strap : BitVec 3) (lines : BitVec 4) (s : State) :
    exec (.powerOnReset strap lines) s = .next { resetBlocks (strapValue strap) s with
      ports := (List.finRange 4).foldl (fun t p => putRow t p (sampledPort (lines.getLsbD p.val))) (uniform 4 Port.powerOn) } := by
  have sampled := forEach_sampleHoldLine lines (List.finRange 4) (List.nodup_finRange 4) (resetBlocks (strapValue strap) s)
    fun p _ => row_uniform 4 Port.powerOn p
  show Host.Outcome.next (selectEvent _) = _
  rw [sampled, selectEvent_of_down rfl]
  rfl

theorem single_has_iff (k j : Initiator) : (InitiatorSet.single k).has j = decide (j.val = k.val) := by
  revert k j; decide

/-- Settles O3: each port is fresh when it samples its hold request line, and the link is DOWN, so that no selection follows. -/
theorem powerOnResetLeavesResetValues : Obligations.PowerOnResetLeavesResetValues := by
  unfold Obligations.PowerOnResetLeavesResetValues
  intro strap lines s
  refine ⟨_, exec_powerOnReset strap lines s, fun e => row_uniform _ _ _, fun i => row_uniform _ _ _, rfl,
    fun k => row_uniform _ _ _, fun k => row_uniform _ _ _, fun p => ?_, fun n => row_uniform _ _ _, rfl,
    fun n => row_uniform _ _ _, fun k => row_uniform _ _ _, rfl, rfl, rfl, rfl, rfl, rfl, fun k => ?_, rfl, rfl, rfl, rfl, rfl,
    rfl, rfl, rfl, rfl, rfl⟩
  · rw [row_foldl_putRow fun p : PortId => sampledPort (lines.getLsbD p.val), if_pos (List.mem_finRange p)]
    cases lines.getLsbD p.val <;> rfl
  · exact single_has_iff _ k

/-! ### The hold request line -/

/-- Settles O43: by the level of the line, the gate and the setting. -/
theorem holdRequestMovesTheGate : Obligations.HoldRequestMovesTheGate := by
  unfold Obligations.HoldRequestMovesTheGate
  rintro p x s rfl
  refine ⟨fun asserted => ?_, fun clear up none => ?_, fun clear refuses => ?_, fun clear => ?_, fun asserted ungranted => ?_,
    fun asserted granted => ?_, fun d granted running => ?_, fun still => ?_⟩
  · simp [exec, execHoldRequestRaise, endEvent, asserted]
  · simp [exec, execHoldRequestRaise, endEvent, clear, takeRaise, up, none, State.setPort]
  · have untaken : ¬((row s.ports p).setting = .up ∧ (row s.ports p).gate = .none) := by
      rintro ⟨up, none⟩
      rcases refuses with down | busy
      · simp [up] at down
      · exact busy none
    simp [exec, execHoldRequestRaise, endEvent, clear, takeRaise, untaken]
  · simp [exec, execHoldRequestWithdrawal, endEvent, clear]
  · cases gate : (row s.ports p).gate with
    | none => simp [exec, execHoldRequestWithdrawal, endEvent, asserted, takeWithdrawal, gate]
    | pending => simp [exec, execHoldRequestWithdrawal, endEvent, asserted, takeWithdrawal, gate]
    | granted => exact absurd gate ungranted
  · simp [exec, execHoldRequestWithdrawal, endEvent, asserted, takeWithdrawal, granted]
  · simp [exec, execHoldLimitExpiry, endEvent, holdLimitRuns, granted, running, overrunHold, raiseIncident, incidentIndex]
  · have off : holdLimitRuns (row s.ports p) = false := by
      rcases still with ungranted | stopped
      · simp [holdLimitRuns, ungranted]
      · simp [holdLimitRuns, stopped]
    simp [exec, execHoldLimitExpiry, endEvent, off]

end Sys2Proof.Machine
end

section
/-! PROOFS. Refusals (R25, R26, R29, R30, R156, R159). A refused request has one RESPONSE handed over and changes nothing else, so each
statement comes down to what the acceptance order decides. -/

namespace Sys2Proof.Machine

-- one proof at a time: the text is compiled whole, in one process whose threads share its memory limit
set_option Elab.async false

section
variable {body : List Byte} {c : Instr} {h : ReqHeader} {s u : State}

/-! ### What a refusal does -/

theorem handOver_onlyHands (up : s.link.state = .up) (m : Message) : OnlyHands s (handOver m s) m := by
  refine ⟨handOver_outbound_up m s up, ?_, ?_, ?_, ?_, ?_⟩
  · simp [SameReceiver]
  · simp [SameBlocks]
  · simp
  · simp
  · simp

theorem answerKey_onlyHands (up : s.link.state = .up) (k : Initiator) (t : Tag) (a : Answer) :
    OnlyHands s (answerKey k t a none s) (plainResponse k t a) := handOver_onlyHands up _

theorem Arrives.linkState (arrival : Arrives body s u) : u.link.state = s.link.state := by rw [arrival.same]; rfl

/-- The acceptance order does not look at the link interface. -/
theorem Arrives.judge (arrival : Arrives body s u) (h : ReqHeader) (parsed : Option Parsed) :
    judge u h parsed = judge s h parsed := by rw [arrival.same]; rfl

/-- A request that the acceptance order refuses outside its chain is answered, and nothing else changes (R30). -/
theorem exec_refused {a : Answer} (request : requestOf c = some h) (named : bodyOf c = some body) (arrival : Arrives body s u)
    (up : s.link.state = .up) (judged : judge s h (parsedOf c) = .refused a) :
    ∃ v, exec c s = .next (selectEvent v) ∧ OnlyHands u v (plainResponse h.initiator h.tag a) := by
  refine ⟨answerKey h.initiator h.tag a none u, ?_, answerKey_onlyHands (arrival.linkState.trans up) _ _ _⟩
  rw [exec_arrives request named arrival up, arrival.judge, judged]
  rfl

/-- A request is discarded while DOWN (R156). -/
theorem handRequest_down (down : s.link.state = .down) (h : ReqHeader) (parsed : Option Parsed) :
    handRequest h parsed s = s := by simp [handRequest, down]

theorem exec_request_down (request : requestOf c = some h) (named : bodyOf c = some body) (arrival : Arrives body s u)
    (down : s.link.state = .down) : exec c s = .next u := by
  have down' : u.link.state = .down := arrival.linkState.trans down
  obtain ⟨body', named', run⟩ := exec_request request s
  obtain rfl : body = body' := Option.some.inj (named.symm.trans named')
  rw [run, takeMessage_arrives arrival, handRequest_down down', endEvent, selectEvent_of_down down']

/-! ### Unknown messages (R156) -/

theorem namesKnownMessage_eq_false {first : Byte} (request : ¬(1 ≤ first.toNat ∧ first.toNat ≤ 11)) (sync : first ≠ 0x70)
    (reset : first ≠ 0x71) : namesKnownMessage first = false := by
  simp only [namesKnownMessage, sync, reset, decide_false, Bool.false_or, Bool.and_eq_false_imp, decide_eq_true_eq,
    decide_eq_false_iff_not]
  exact fun above below => request ⟨above, below⟩

theorem namesNoOperation_eq_false {first : Byte} (request : ¬(1 ≤ first.toNat ∧ first.toNat ≤ 11)) (rest : List Byte) :
    namesNoOperation first rest = false := by
  have other : first ≠ 0x0A := by rintro rfl; exact request (by decide)
  unfold namesNoOperation
  rw [decide_eq_false other, Bool.false_and]

/-- Settles O8: an unknown message goes past the acceptance order. -/
theorem unknownMessageIsAnsweredBadReq : Obligations.UnknownMessageIsAnsweredBadReq := by
  unfold Obligations.UnknownMessageIsAnsweredBadReq
  intro first h rest s u request sync reset arrival
  have run : exec (.unknownMessageType first h rest) s = .next (selectEvent (answerUnknown h u)) := by
    show execUnknownMessageType first h rest s = _
    rw [execUnknownMessageType, namesNoOperation_eq_false request, namesKnownMessage_eq_false request sync reset]
    exact congrArg endEvent (takeMessage_arrives arrival _)
  refine ⟨fun up => ?_, fun down => ?_⟩
  · have up' : u.link.state = .up := arrival.linkState.trans up
    exact ⟨_, run, by rw [answerUnknown, up']; exact answerKey_onlyHands up' _ _ _⟩
  · have down' : u.link.state = .down := arrival.linkState.trans down
    rw [run, answerUnknown, down', selectEvent_of_down down']

/-! ### The mode (R25 step 1) -/

theorem judge_abandoning (abandoning : (row s.initiators h.initiator).mode = .abandoning) (parsed : Option Parsed) :
    judge s h parsed = .refused .defer := by simp [judge, abandoning]

/-- Settles O9: the mode is the first check. -/
theorem abandoningInitiatorIsDeferred : Obligations.AbandoningInitiatorIsDeferred := by
  unfold Obligations.AbandoningInitiatorIsDeferred
  intro c h body s u request named arrival up abandoning
  exact exec_refused request named arrival up (judge_abandoning abandoning _)

/-! ### Bodies and marks (R26) -/

theorem parseAccessRead_inv {kind : PortKind} {rest : List Byte} {r : Parsed} (parsed : parseAccessRead kind rest = some r) :
    ∃ addr width, rest = widthCode width :: addrBytes addr ∧ r = .port kind addr width := by
  unfold parseAccessRead at parsed
  split at parsed
  · next w a2 a1 a0 =>
    obtain ⟨width, coded, rfl⟩ := Option.map_eq_some_iff.mp parsed
    refine ⟨_, width, ?_, rfl⟩
    rw [addrBytes_addrOf]
    unfold widthOf at coded
    split at coded
    · next byte => cases coded; rw [byte]; rfl
    · split at coded
      · next word => cases coded; rw [word]; rfl
      · cases coded
  · cases parsed

theorem parseAccessWrite_inv {kind : BitVec 16 → PortKind} {rest : List Byte} {r : Parsed}
    (parsed : parseAccessWrite kind rest = some r) :
    ∃ d addr width, rest = widthCode width :: addrBytes addr ++ dataFor width d ∧ r = .port (kind d) addr width ∧
      (width = .byte → d.toNat < 256) := by
  unfold parseAccessWrite at parsed
  split at parsed
  · next w a2 a1 a0 d =>
    split at parsed
    · next byte =>
      cases parsed
      refine ⟨_, _, _, ?_, rfl, fun _ => wordOf_zero_lt d⟩
      rw [addrBytes_addrOf, dataFor, loByte_wordOf, byte]; rfl
    · cases parsed
  · next w a2 a1 a0 d0 d1 =>
    split at parsed
    · next word =>
      cases parsed
      refine ⟨_, _, _, ?_, rfl, fun byte => by cases byte⟩
      rw [addrBytes_addrOf, dataFor, loByte_wordOf, hiByte_wordOf, word]; rfl
    · cases parsed
  · cases parsed

theorem parseSingleBit_inv {kind : BitKind} {rest : List Byte} {r : Parsed} (parsed : parseSingleBit kind rest = some r) :
    ∃ addr, rest = 0 :: addrBytes addr ∧ r = .bit kind addr := by
  unfold parseSingleBit at parsed
  split at parsed
  · split at parsed
    · next zero => cases parsed; exact ⟨_, by rw [addrBytes_addrOf, zero], rfl⟩
    · cases parsed
  · cases parsed

theorem byteOf_toNat (b : Byte) : byteOf b.toNat = b := by simp [byteOf]

theorem parseFieldRead_inv {rest : List Byte} {r : Parsed} (parsed : parseFieldRead rest = some r) :
    ∃ w addr, rest = byteOf w :: addrBytes addr ∧ r = .bit (.fieldRead w) addr ∧ 1 ≤ w ∧ w ≤ 16 := by
  unfold parseFieldRead at parsed
  split at parsed
  · split at parsed
    · next fits =>
      cases parsed
      obtain ⟨low, high⟩ := of_decide_eq_true fits
      exact ⟨_, _, by rw [addrBytes_addrOf, byteOf_toNat], rfl, low, high⟩
    · cases parsed
  · cases parsed

theorem parseFieldWrite_inv {rest : List Byte} {r : Parsed} (parsed : parseFieldWrite rest = some r) :
    ∃ w v addr, rest = byteOf w :: addrBytes addr ++ [loByte v, hiByte v] ∧ r = .bit (.fieldWrite w v) addr ∧
      1 ≤ w ∧ w ≤ 16 ∧ v.toNat < 2 ^ w := by
  unfold parseFieldWrite at parsed
  split at parsed
  · split at parsed
    · next fits =>
      cases parsed
      obtain ⟨width, value⟩ := (Bool.and_eq_true _ _).mp fits
      obtain ⟨low, high⟩ := of_decide_eq_true width
      exact ⟨_, _, _, by rw [addrBytes_addrOf, byteOf_toNat, loByte_wordOf, hiByte_wordOf]; rfl, rfl, low, high,
        of_decide_eq_true value⟩
    · cases parsed
  · cases parsed

theorem parseLoadRegion_inv {o : List Byte} {op : ManageOp} (parsed : parseLoadRegion o = some op) :
    ∃ x, o = loadBytes x ∧ op = .loadRegion x := by
  unfold parseLoadRegion at parsed
  split at parsed
  · cases parsed
    refine ⟨_, ?_, rfl⟩
    simp only [loadBytes, addrBytes_addrOf]; rfl
  · cases parsed

theorem parseSetStation_inv {o : List Byte} {op : ManageOp} (parsed : parseSetStation o = some op) :
    ∃ x, o = stationBytes x ∧ op = .setStation x := by
  unfold parseSetStation at parsed
  split at parsed
  · cases parsed
    refine ⟨_, ?_, rfl⟩
    simp only [stationBytes, positionsBytes_positionsOf]; rfl
  · cases parsed

/-- A MANAGE body that fits is that of its operation's command. -/
theorem manageCommand_of_parsed {op : ManageOp} (request : requestOf c = some h) (parsed : parsedOf c = some (.manage op)) :
    c = manageCommand h op := by
  cases c <;> simp only [requestOf, Option.some.injEq, reduceCtorEq] at request <;> subst request <;>
    simp only [parsedOf, Option.map_eq_some_iff, Parsed.manage.injEq, exists_eq_right] at parsed
  case loadRegion o => obtain ⟨x, rfl, rfl⟩ := parseLoadRegion_inv parsed; rfl
  case setStation o => obtain ⟨x, rfl, rfl⟩ := parseSetStation_inv parsed; rfl
  case retireRegion o => unfold parseRetireRegion at parsed; split at parsed <;> cases parsed; rfl
  case alterRights o => unfold parseAlterRights at parsed; split at parsed <;> cases parsed; rfl
  case readRegion o => unfold parseReadRegion at parsed; split at parsed <;> cases parsed; rfl
  case setPort o => unfold parseSetPort at parsed; split at parsed <;> cases parsed; rfl
  case readPort o => unfold parseReadPort at parsed; split at parsed <;> cases parsed; rfl
  case readStation o => unfold parseReadStation at parsed; split at parsed <;> cases parsed; rfl
  case setScan o => unfold parseSetScan at parsed; split at parsed <;> cases parsed; rfl
  case setEvent o => unfold parseSetEvent at parsed; split at parsed <;> cases parsed; rfl
  case setEventTarget o => unfold parseSetEventTarget at parsed; split at parsed <;> cases parsed; rfl
  case eventAck o => unfold parseEventAck at parsed; split at parsed <;> cases parsed; rfl
  case eventResume o => unfold parseEventResume at parsed; split at parsed <;> cases parsed; rfl
  case readIncident o => unfold parseReadIncident at parsed; split at parsed <;> cases parsed; rfl
  case setManagers o => unfold parseSetManagers at parsed; split at parsed <;> cases parsed; rfl
  case readOccupancy o => unfold parseReadOccupancy at parsed; split at parsed <;> cases parsed; rfl
  case read rest => obtain ⟨_, _, -, wrong⟩ := parseAccessRead_inv parsed; cases wrong
  case write rest => obtain ⟨_, _, _, -, wrong, -⟩ := parseAccessWrite_inv parsed; cases wrong
  case lockRead rest => obtain ⟨_, _, -, wrong⟩ := parseAccessRead_inv parsed; cases wrong
  case unlockWrite rest => obtain ⟨_, _, _, -, wrong, -⟩ := parseAccessWrite_inv parsed; cases wrong
  case bitSet rest => obtain ⟨_, -, wrong⟩ := parseSingleBit_inv parsed; cases wrong
  case bitClear rest => obtain ⟨_, -, wrong⟩ := parseSingleBit_inv parsed; cases wrong
  case bitTest rest => obtain ⟨_, -, wrong⟩ := parseSingleBit_inv parsed; cases wrong
  case fieldRead rest => obtain ⟨_, _, -, wrong, -⟩ := parseFieldRead_inv parsed; cases wrong
  case fieldWrite rest => obtain ⟨_, _, _, -, wrong, -⟩ := parseFieldWrite_inv parsed; cases wrong
  case abandon rest => unfold parseAbandon at parsed; split at parsed <;> cases parsed

/-- A body that fits its kind is that of the command written by R163. -/
theorem command_of_parsed {r : Parsed} (request : requestOf c = some h) (parsed : parsedOf c = some r) :
    (∃ kind addr width, c = portCommand h kind addr width ∧ dataFits width kind ∧ r = .port kind addr width) ∨
      (∃ kind addr, c = bitCommand h kind addr ∧ bitKindFits kind ∧ r = .bit kind addr) ∨
      (∃ op, c = manageCommand h op ∧ r = .manage op) ∨ (c = .abandon h [] ∧ r = .abandon) := by
  have manage (op : ManageOp) (same : r = .manage op) : ∃ op, c = manageCommand h op ∧ r = .manage op := by
    subst same; exact ⟨op, manageCommand_of_parsed request parsed, rfl⟩
  cases c <;> simp only [requestOf, Option.some.injEq, reduceCtorEq] at request <;> subst request <;>
    simp only [parsedOf] at parsed
  case read rest =>
    obtain ⟨_, _, rfl, rfl⟩ := parseAccessRead_inv parsed
    exact .inl ⟨.read, _, _, rfl, trivial, rfl⟩
  case write rest =>
    obtain ⟨_, _, _, rfl, rfl, fits⟩ := parseAccessWrite_inv parsed
    exact .inl ⟨.write _, _, _, rfl, fits, rfl⟩
  case lockRead rest =>
    obtain ⟨_, _, rfl, rfl⟩ := parseAccessRead_inv parsed
    exact .inl ⟨.lockRead, _, _, rfl, trivial, rfl⟩
  case unlockWrite rest =>
    obtain ⟨_, _, _, rfl, rfl, fits⟩ := parseAccessWrite_inv parsed
    exact .inl ⟨.unlockWrite _, _, _, rfl, fits, rfl⟩
  case bitSet rest =>
    obtain ⟨_, rfl, rfl⟩ := parseSingleBit_inv parsed
    exact .inr (.inl ⟨.set, _, rfl, trivial, rfl⟩)
  case bitClear rest =>
    obtain ⟨_, rfl, rfl⟩ := parseSingleBit_inv parsed
    exact .inr (.inl ⟨.clear, _, rfl, trivial, rfl⟩)
  case bitTest rest =>
    obtain ⟨_, rfl, rfl⟩ := parseSingleBit_inv parsed
    exact .inr (.inl ⟨.test, _, rfl, trivial, rfl⟩)
  case fieldRead rest =>
    obtain ⟨_, _, rfl, rfl, fits⟩ := parseFieldRead_inv parsed
    exact .inr (.inl ⟨.fieldRead _, _, rfl, fits, rfl⟩)
  case fieldWrite rest =>
    obtain ⟨_, _, _, rfl, rfl, fits⟩ := parseFieldWrite_inv parsed
    exact .inr (.inl ⟨.fieldWrite _ _, _, rfl, fits, rfl⟩)
  case abandon rest =>
    unfold parseAbandon at parsed
    split at parsed
    · cases parsed; exact .inr (.inr (.inr ⟨rfl, rfl⟩))
    · cases parsed
  all_goals
    obtain ⟨op, -, rfl⟩ := Option.map_eq_some_iff.mp parsed
    exact .inr (.inr (.inl (manage op rfl)))

theorem badMark_none (lone : h.mark = .none) (r : Parsed) : badMark h.mark r = false := by simp [badMark, lone, isMemberMark]

theorem mark_of_disallowed {r : Parsed} (mark : badMark h.mark r = false) (disallowed : allowsChain r = false) :
    h.mark = .none := by
  cases marked : h.mark <;> simp_all [badMark, isMemberMark]

theorem mark_not_malformed {r : Parsed} (mark : badMark h.mark r = false) : h.mark ≠ .malformed := by
  intro malformed; simp [badMark, malformed] at mark

/-- A request whose body fits its kind, under a mark that its kind allows, is well-formed. -/
theorem wellFormed_of_parsed {r : Parsed} (request : requestOf c = some h) (parsed : parsedOf c = some r)
    (mark : badMark h.mark r = false) : WellFormedRequest h c := by
  rcases command_of_parsed request parsed with
    ⟨kind, addr, width, rfl, fits, rfl⟩ | ⟨kind, addr, rfl, fits, rfl⟩ | ⟨op, rfl, rfl⟩ | ⟨rfl, rfl⟩
  · refine .inl ⟨kind, addr, width, rfl, fits, ?_⟩
    cases kind with
    | read => exact mark_not_malformed mark
    | write d => exact mark_not_malformed mark
    | lockRead => exact mark_of_disallowed mark rfl
    | unlockWrite d => exact mark_of_disallowed mark rfl
  · exact .inr (.inl ⟨kind, addr, rfl, fits, mark_not_malformed mark⟩)
  · exact .inr (.inr (.inl ⟨op, rfl, mark_of_disallowed mark rfl⟩))
  · exact .inr (.inr (.inr ⟨rfl, mark_of_disallowed mark rfl⟩))

theorem badMark_allowed {r : Parsed} (allowed : allowsChain r = true) (mark : h.mark ≠ .malformed) :
    badMark h.mark r = false := by
  simp [badMark, mark, allowed]

/-- What a well-formed request is read as. -/
theorem WellFormedRequest.parsed (wf : WellFormedRequest h c) :
    requestOf c = some h ∧ ∃ r, parsedOf c = some r ∧ badMark h.mark r = false ∧ (r = .abandon → c = .abandon h []) := by
  rcases wf with ⟨kind, addr, width, rfl, fits, mark⟩ | ⟨kind, addr, rfl, fits, mark⟩ | ⟨op, rfl, lone⟩ | ⟨rfl, lone⟩
  · refine ⟨requestOf_portCommand _ _ _ _, _, parsedOf_portCommand _ _ _ _ fits, ?_, fun wrong => by cases wrong⟩
    cases kind with
    | read => exact badMark_allowed rfl mark
    | write d => exact badMark_allowed rfl mark
    | lockRead => exact badMark_none mark _
    | unlockWrite d => exact badMark_none mark _
  · exact ⟨requestOf_bitCommand _ _ _, _, parsedOf_bitCommand _ _ _ fits, badMark_allowed rfl mark, fun wrong => by cases wrong⟩
  · exact ⟨requestOf_manageCommand _ _, _, parsedOf_manageCommand _ _, badMark_none lone _, fun wrong => by cases wrong⟩
  · exact ⟨rfl, _, rfl, badMark_none lone _, fun _ => rfl⟩

/-- A request that is not well-formed is refused BADREQ at step 2 (R26). -/
theorem judge_malformed (request : requestOf c = some h) (normal : (row s.initiators h.initiator).mode = .normal)
    (malformed : ¬ WellFormedRequest h c) : judge s h (parsedOf c) = .refused (.fault .badReq) := by
  cases parsed : parsedOf c with
  | none => simp [Machine.judge, normal]
  | some r =>
    have mark : badMark h.mark r = true :=
      (Bool.eq_false_or_eq_true _).resolve_right fun mark => malformed (wellFormed_of_parsed request parsed mark)
    simp [Machine.judge, normal, mark]

/-! ### Messages that are held back (R156, R159) -/

theorem takeMessage_heldBack (process : State → State) (full : 16 ≤ s.link.outbound.length) (empty : s.link.rx = [])
    (signal : s.link.signal = true) : takeMessage body process s = s.setLink { s.link with rx := [body] } := by
  simp [takeMessage, empty, signal, takesFrames, Config.takeBelow, Nat.not_lt.mpr full]

theorem takeMessage_waits (process : State → State) (full : 16 ≤ s.link.outbound.length) (waiting : s.link.rx ≠ []) :
    takeMessage body process s = s := by
  obtain ⟨front, rest, rx⟩ := List.exists_cons_of_ne_nil waiting
  simp [takeMessage, rx, takesFrames, Config.takeBelow, Nat.not_lt.mpr full]

/-- A first byte of a well-formed unknown message names no known one, but for a MANAGE without a known operation. -/
theorem namesKnownMessage_of_wellFormed {first : Byte} {rest : List Byte}
    (wf : (Instr.unknownMessageType first h rest).wellFormed = true) (operation : namesNoOperation first rest = false) :
    namesKnownMessage first = false := by
  simp only [Instr.wellFormed, Bool.and_eq_true, Bool.not_eq_true', knownFirstBytes, List.contains_eq_mem, List.mem_cons,
    List.not_mem_nil, or_false, decide_eq_false_iff_not, not_or] at wf
  obtain ⟨⟨⟨sync, reset, b1, b2, b3, b4, b5, b6, b7, b8, b9, b11⟩, manage⟩, -⟩ := wf
  have b10 : first ≠ 0x0A := by
    rintro rfl
    cases rest <;> simp_all [namesNoOperation, knownOperation]
  refine namesKnownMessage_eq_false (fun range => ?_) sync reset
  obtain ⟨low, high⟩ := range
  have same : first = BitVec.ofNat 8 first.toNat := by simp
  generalize first.toNat = n at same low high
  subst same
  interval_cases n <;> contradiction

/-- Every command that is a message takes it by `takeMessage`, and ends with selection. -/
theorem exec_message (named : bodyOf c = some body) (wf : c.wellFormed = true) :
    ∃ process, ∀ s, exec c s = .next (selectEvent (takeMessage body process s)) := by
  cases request : requestOf c with
  | some h =>
    refine ⟨handRequest h (parsedOf c), fun s => ?_⟩
    obtain ⟨body', named', run⟩ := exec_request request s
    obtain rfl : body = body' := Option.some.inj (named.symm.trans named')
    exact run
  | none =>
    cases c <;> simp only [bodyOf, Option.some.injEq, reduceCtorEq] at named
    case sync rest => subst named; exact ⟨takeSync, fun s => rfl⟩
    case linkReset rest => subst named; exact ⟨takeLinkReset, fun s => rfl⟩
    case unknownMessageType first h rest =>
      subst named
      cases operation : namesNoOperation first rest with
      | true =>
        refine ⟨handRequest h none, fun s => ?_⟩
        show execUnknownMessageType first h rest s = _
        rw [execUnknownMessageType, operation]; rfl
      | false =>
        refine ⟨answerUnknown h, fun s => ?_⟩
        show execUnknownMessageType first h rest s = _
        rw [execUnknownMessageType, operation, namesKnownMessage_of_wellFormed wf operation]; rfl
    all_goals cases request

theorem namesNoOperation_manage {rest : List Byte}
    (unnamed : rest = [] ∨ ∃ op operands, rest = op :: operands ∧ (op.toNat = 0 ∨ 16 < op.toNat)) :
    namesNoOperation 0x0A rest = true := by
  rcases unnamed with rfl | ⟨op, operands, rfl, range⟩
  · rfl
  · simp [namesNoOperation]; omega

theorem judge_none (s : State) (h : ReqHeader) :
    judge s h none =
      .refused (if (row s.initiators h.initiator).mode = .abandoning then .defer else .fault .badReq) := by
  unfold Machine.judge
  split <;> rfl

theorem exec_noOperation {rest : List Byte} (unnamed : namesNoOperation 0x0A rest = true)
    (arrival : Arrives (0x0A :: headerByte h :: rest) s u) :
    exec (.unknownMessageType 0x0A h rest) s = .next (selectEvent (handRequest h none u)) := by
  show execUnknownMessageType 0x0A h rest s = _
  rw [execUnknownMessageType, unnamed]
  exact congrArg endEvent (takeMessage_arrives arrival _)

/-- Settles O10: the body and the mark come right after the mode; a message is held back before anything is looked at. -/
theorem malformedRequestIsRefusedBadReq : Obligations.MalformedRequestIsRefusedBadReq := by
  unfold Obligations.MalformedRequestIsRefusedBadReq
  refine ⟨fun h rest s u unnamed arrival => ⟨fun up => ?_, fun down => ?_⟩, fun c h body s u request named arrival down => ?_,
    fun c body s named wf full => ⟨fun empty signal => ?_, fun waiting => ?_⟩, ?_⟩
  · have up' : u.link.state = .up := arrival.linkState.trans up
    refine ⟨_, exec_noOperation (namesNoOperation_manage unnamed) arrival, ?_⟩
    rw [handRequest, up']
    dsimp only
    rw [arrival.judge, judge_none]
    exact answerKey_onlyHands up' _ _ _
  · have down' : u.link.state = .down := arrival.linkState.trans down
    rw [exec_noOperation (namesNoOperation_manage unnamed) arrival, handRequest_down down', selectEvent_of_down down']
  · exact exec_request_down request named arrival down
  · obtain ⟨process, run⟩ := exec_message named wf
    rw [run, takeMessage_heldBack process full empty signal]
  · obtain ⟨process, run⟩ := exec_message named wf
    rw [run, takeMessage_waits process full waiting]
  · intro c h body s u request named arrival up normal malformed
    exact exec_refused request named arrival up (judge_malformed request normal malformed)

/-! ### Keys and the slot table (R27, R28) -/

theorem verdictFrom3_tagBusy (used : ¬ KeyFree s h) (check : Checked) :
    verdictFrom3 s h check = .refused (.fault .tagBusy) := by
  have held : (slotOfKey s h.initiator h.tag).isSome = true := by
    rw [slotOfKey_isSome_iff]
    simpa [KeyFree] using used
  rw [verdictFrom3, if_pos held]

theorem verdictFrom3_full (free : KeyFree s h) (lone : h.mark = .none) (full : ∀ i, row s.slots i ≠ none) (check : Checked) :
    verdictFrom3 s h check = .refused .full := by
  simp [verdictFrom3, free.slotOfKey, lone, isMemberMark, lateVerdict, (freeSlot_eq_none_iff s).mpr full]

/-- Settles O11: the key is step 3, and the table step 6 of the acceptance order. -/
theorem keyAndTableRefusals : Obligations.KeyAndTableRefusals := by
  unfold Obligations.KeyAndTableRefusals
  intro c h body s u request named arrival up normal wf other
  obtain ⟨-, r, parsed, mark, abandon⟩ := wf.parsed
  have judged := judge_from3 (s := s) normal mark fun same => other (abandon same)
  rw [← parsed] at judged
  refine ⟨fun used => ?_, fun free lone full => ?_⟩
  · exact exec_refused request named arrival up (judged.trans (verdictFrom3_tagBusy used _))
  · exact exec_refused request named arrival up (judged.trans (verdictFrom3_full free lone full _))

end

end Sys2Proof.Machine
end

section
/-! PROOFS. The checks of step 7 that fail (R4 to R7, R29, R70, R71). -/

namespace Sys2Proof.Machine

-- one proof at a time: the text is compiled whole, in one process whose threads share its memory limit
set_option Elab.async false

section
variable {body : List Byte} {h : ReqHeader} {s u : State} {k : Initiator} {kind : PortKind} {addr : Addr} {width : Width}

/-! ### Lookup (R4) -/

theorem inWindow_iff (f : RegionFields) (addr : Addr) : inWindow f addr = true ↔ Inside f addr := by
  simp [inWindow, Inside, BitVec.le_def]

/-- Two windows of a sound region map share no address, so an address lies in one entry's window at most (R3). -/
theorem RegionMapOk.inside_unique (ok : RegionMapOk s) {e f : EntryId} {r q : RegionRecord} (he : row s.regions e = some r)
    (hf : row s.regions f = some q) (inR : Inside r.fields addr) (inQ : Inside q.fields addr) : e = f := by
  by_contra ne
  obtain ⟨-, apart⟩ := ok
  obtain ⟨lowR, highR⟩ := inR
  obtain ⟨lowQ, highQ⟩ := inQ
  rcases apart e f r q he hf ne with before | after
  · omega
  · omega

theorem lookup_some {e : EntryId} (found : lookup s addr = some e) : ∃ r, row s.regions e = some r ∧ Inside r.fields addr := by
  have held := List.find?_some found
  obtain ⟨r, present, inside⟩ := (Option.any_eq_true _ _).mp held
  exact ⟨r, present, (inWindow_iff _ _).mp inside⟩

theorem lookup_eq_none_iff : lookup s addr = none ↔ ∀ e r, row s.regions e = some r → ¬ Inside r.fields addr := by
  simp only [lookup, List.find?_eq_none, List.mem_finRange, true_implies]
  refine forall_congr' fun e => ?_
  cases present : row s.regions e with
  | none => simp
  | some r => simp [← inWindow_iff]

theorem lookup_eq_some_iff (ok : RegionMapOk s) (e : EntryId) :
    lookup s addr = some e ↔ ∃ r, row s.regions e = some r ∧ Inside r.fields addr := by
  refine ⟨lookup_some, fun ⟨r, present, inside⟩ => ?_⟩
  cases found : lookup s addr with
  | none => exact absurd inside (lookup_eq_none_iff.mp found e r present)
  | some f =>
    obtain ⟨q, present', inside'⟩ := lookup_some found
    rw [ok.inside_unique present present' inside inside']

theorem hasRight_iff (f : RegionFields) (k : Initiator) (kind : PortKind) : hasRight f k kind = true ↔ Entitled f k kind := by
  cases kind with
  | read => rfl
  | write d => rfl
  | lockRead => exact Bool.and_eq_true _ _ ▸ Iff.rfl
  | unlockWrite d => rfl

/-! ### The lock checks (R70, R71) -/

/-- Without a claim of the initiator's a LOCK-READ is allowed (R70). -/
theorem lockAllows_of_unclaimed {p : PortId} (unclaimed : hasLockClaim s k p = false) :
    LockAllows s k p addr width .lockRead := by
  obtain ⟨record, slots⟩ := Bool.or_eq_false_iff.mp unclaimed
  refine ⟨fun l held owner => ?_, fun i x w occupied work owner port lockRead => ?_⟩
  · simp [held, owner] at record
  · have no := List.any_eq_false.mp slots i (List.mem_finRange i)
    simp [occupied, isLockReadOf, work, owner, port, lockRead] at no

theorem lockCheck_lockNest {p : PortId} (claimed : ¬ LockAllows s k p addr width .lockRead) :
    lockCheck s k p .lockRead addr width = some .lockNest := by
  have claim : hasLockClaim s k p = true :=
    (Bool.eq_false_or_eq_true _).resolve_right fun unclaimed => claimed (lockAllows_of_unclaimed unclaimed)
  simp [lockCheck, claim]

theorem lockCheck_lockLost {p : PortId} (d : BitVec 16) (foreign : ∀ l, (row s.ports p).lock = some l → l.owner ≠ k) :
    lockCheck s k p (.unlockWrite d) addr width = some .lockLost := by
  cases held : (row s.ports p).lock with
  | none => simp [lockCheck, unlockCheck, held]
  | some l => simp [lockCheck, unlockCheck, held, foreign l held]

theorem lockCheck_lockAddr {p : PortId} (d : BitVec 16) {l : LockRecord} (held : (row s.ports p).lock = some l)
    (own : l.owner = k) (other : ¬(l.address = addr ∧ l.width = width)) :
    lockCheck s k p (.unlockWrite d) addr width = some .lockAddr := by
  simp only [lockCheck, unlockCheck, held]
  rw [if_neg (by simp [own]), if_pos (by tauto)]

/-! ### The region map's checks (R5) -/

/-- The checks of an access whose address lies in a present entry's window, in their order. -/
theorem portCheck_present {e : EntryId} {r : RegionRecord} (found : lookup s addr = some e)
    (present : row s.regions e = some r) :
    portCheck s k kind addr width =
      if r.phase = .draining then .refused .defer
      else if (row s.ports r.fields.port).setting = .down then .refused (.fault .portDown)
      else if hasRight r.fields k kind = false then .refused (.fault .denied)
      else if width = .word ∧ addr.getLsbD 0 = true then .refused (.fault .align)
      else if kind = .lockRead ∧ r.fields.lockable = false then .refused (.fault .noLock)
      else
        match lockCheck s k r.fields.port kind addr width with
        | some code => .refused (.fault code)
        | none => .passed (.port (portWorkFor e r.fields kind addr width)) := by
  unfold portCheck
  rw [found]
  dsimp only
  rw [present] <;> rfl

/-- The region map refuses with the outcome of the first check that fails. -/
theorem portCheck_refuses {a : Answer} (refuses : RegionRefuses s k kind addr width a) :
    portCheck s k kind addr width = .refused a := by
  rcases refuses with ⟨absent, rfl⟩ | ⟨e, r, found, present, refuses⟩
  · simp [portCheck, absent]
  rw [portCheck_present found present]
  rcases refuses with ⟨draining, rfl⟩ | ⟨active, down, rfl⟩ | ⟨active, up, refuses⟩
  · rw [if_pos draining]
  · rw [if_neg (by simp [active]), if_pos down]
  rw [if_neg (by simp [active]), if_neg (by simp [up])]
  rcases refuses with ⟨unentitled, rfl⟩ | ⟨entitled, word, odd, rfl⟩ | ⟨entitled, aligned, refuses⟩
  · rw [if_pos unentitled]
  · rw [if_neg (by simp [entitled]), if_pos ⟨word, (odd_iff addr).mpr odd⟩]
  have even : ¬(width = .word ∧ addr.getLsbD 0 = true) := by
    rintro ⟨word, odd⟩
    have := aligned word
    have := (odd_iff addr).mp odd
    omega
  rw [if_neg (by simp [entitled]), if_neg even]
  rcases refuses with ⟨rfl, unlockable, rfl⟩ | ⟨rfl, lockable, claimed, rfl⟩ | ⟨d, rfl, foreign, rfl⟩ |
    ⟨d, l, rfl, held, own, other, rfl⟩
  · rw [if_pos ⟨rfl, unlockable⟩]
  · rw [if_neg (by simp [lockable]), lockCheck_lockNest claimed]
  · rw [if_neg (by simp), lockCheck_lockLost d foreign]
  · rw [if_neg (by simp), lockCheck_lockAddr d held own other]

/-! ### The other checks (R29) -/

theorem bitCheck_unfit {kind : BitKind} (unfit : ¬ BitFits kind addr) :
    bitCheck kind addr = .refused (.fault (if 511 < addr.toNat then .badReq else .fieldSpan)) := by
  unfold bitCheck
  split
  · rfl
  · next low =>
    rw [if_pos]
    by_contra fits
    exact unfit ⟨by omega, by omega⟩

theorem manageCheck_denied (op : ManageOp) (denied : s.management.managers.has k = false) :
    manageCheck s k op = .refused (.fault .denied) := by
  simp [manageCheck, denied]

/-- Outside any chain the acceptance order ends with what step 7 comes to (R25). -/
theorem judge_refused {r : Parsed} {a : Answer} (served : Served s h) (other : r ≠ .abandon)
    (refused : kindCheck s h.initiator r = .refused a) : judge s h (some r) = .refused a := by
  obtain ⟨-, -, lone, -⟩ := id served
  rw [judge_served served (badMark_none lone r) other, refused, lone]
  cases a <;> rfl

/-- Settles O12: each kind's check of step 7, for a request that steps 1 to 6 let through. -/
theorem firstFailedCheckIsTheOutcome : Obligations.FirstFailedCheckIsTheOutcome := by
  unfold Obligations.FirstFailedCheckIsTheOutcome
  refine ⟨fun s addr => ⟨fun ok e => lookup_eq_some_iff ok e, lookup_eq_none_iff⟩, hasRight_iff, fun set k => rfl, ?_, ?_, ?_⟩
  · intro h kind addr width a body s u fits named arrival served refuses
    refine exec_refused (requestOf_portCommand _ _ _ _) named arrival served.1 ?_
    rw [parsedOf_portCommand _ _ _ _ fits]
    exact judge_refused served (by simp) (portCheck_refuses refuses)
  · intro h kind addr body s u fits named arrival served unfit
    refine exec_refused (requestOf_bitCommand _ _ _) named arrival served.1 ?_
    rw [parsedOf_bitCommand _ _ _ fits]
    exact judge_refused served (by simp) (bitCheck_unfit unfit)
  · intro h op body s u named arrival served denied
    refine exec_refused (requestOf_manageCommand _ _) named arrival served.1 ?_
    rw [parsedOf_manageCommand]
    exact judge_refused served (by simp) (manageCheck_denied op denied)

end

end Sys2Proof.Machine
end

section
/-! PROOFS. The issue arbiter (R45, R48, R49, R51, R72, R75, R83, R85): what it decides at an IDLE port, and what an issue leaves. -/

namespace Sys2Proof.Machine

-- one proof at a time: the text is compiled whole, in one process whose threads share its memory limit
set_option Elab.async false

section
variable {s : State} {p : PortId} {i : SlotId} {y : Slot} {w : PortWork} {r : RegionRecord}

/-! ### What an issue leaves -/

/-- A slot issued at its port, with a LOCK-READ's lock record counted. -/
def issuedState (p : PortId) (i : SlotId) (y : Slot) (w : PortWork) (r : RegionRecord) (s : State) : State :=
  if w.kind = .lockRead then raiseCount w.entry (issuedAt p i y w r s) else issuedAt p i y w r s

theorem issuedState_ports (p : PortId) (i : SlotId) (y : Slot) (w : PortWork) (r : RegionRecord) (s : State) :
    (issuedState p i y w r s).ports = putRow s.ports p (servingPort i y w r (row s.ports p)) := by
  unfold issuedState
  split <;> simp [issuedAt]

theorem issuedState_slots (hy : row s.slots i = some y) (p : PortId) (w : PortWork) (r : RegionRecord) :
    (issuedState p i y w r s).slots = putRow s.slots i (some { y with state := .active }) := by
  unfold issuedState
  split <;> simp [issuedAt, setSlotState_eq hy]

theorem issuedState_regions (hr : row s.regions w.entry = some r) (p : PortId) (i : SlotId) (y : Slot) :
    (issuedState p i y w r s).regions =
      if w.kind = .lockRead then putRow s.regions w.entry (some { r with inFlight := r.inFlight + 1 }) else s.regions := by
  have before : (issuedAt p i y w r s).regions = s.regions := by simp [issuedAt]
  unfold issuedState
  split
  · rw [raiseCount_regions (by rw [before]; exact hr), before]
  · exact before

@[simp] theorem issuedState_frame (p : PortId) (i : SlotId) (y : Slot) (w : PortWork) (r : RegionRecord) (s : State) :
    (issuedState p i y w r s).link = s.link ∧ (issuedState p i y w r s).initiators = s.initiators ∧
      (issuedState p i y w r s).acceptCounter = s.acceptCounter ∧ (issuedState p i y w r s).chains = s.chains ∧
      (issuedState p i y w r s).stations = s.stations ∧ (issuedState p i y w r s).line = s.line ∧
      (issuedState p i y w r s).events = s.events ∧ (issuedState p i y w r s).management = s.management := by
  unfold issuedState
  split <;> simp [issuedAt]

theorem lockAtIssue_eq (owner : Initiator) (w : PortWork) (x : Port) :
    lockAtIssue owner w x = match w.kind with
      | .read => x.lock
      | .write _ => x.lock
      | .lockRead =>
          some { owner := owner, address := w.addr, width := w.width, entry := w.entry, timer := .running x.lockLifetime }
      | .unlockWrite _ => x.lock.map fun l => if l.owner = owner then { l with timer := .stopped } else l := by
  unfold lockAtIssue
  cases w.kind <;> rfl

theorem stepTimerOf_eq (c : Completion) : stepTimerOf c = match c with
    | .fixed d => .delay d
    | .ready t => .ready t := by
  cases c <;> rfl

/-! ### What the arbiter picks -/

/-- The arbiter's reasons to issue the slot that stands after `before` in the queue (R49): it is the head, and no lock record and no
PENDING hold stands, or it is the first slot of the lock's owner. -/
def PickedAfter (s : State) (x : Port) (before : List SlotId) (owner : Initiator) : Prop :=
  (x.lock = none ∧ x.gate ≠ .pending ∧ before = []) ∨
    ∃ l, x.lock = some l ∧ owner = l.owner ∧ ∀ k, k ∈ before → slotInitiator s k ≠ some l.owner

theorem slotInitiator_some (hy : row s.slots i = some y) : slotInitiator s i = some y.initiator := by
  simp [slotInitiator, hy]

theorem arbiterPick_of_picked {x : Port} {before after : List SlotId} (queue : x.queue = before ++ i :: after)
    (hy : row s.slots i = some y) (picked : PickedAfter s x before y.initiator) :
    arbiterPick s x = some i ∧ i ∉ before ∧ ¬(x.gate = .pending ∧ x.lock = none) := by
  rcases picked with ⟨unlocked, gate, rfl⟩ | ⟨l, locked, own, foreign⟩
  · exact ⟨by simp [arbiterPick, unlocked, queue], by simp, fun grants => gate grants.1⟩
  · have self : slotInitiator s i = some l.owner := own ▸ slotInitiator_some hy
    refine ⟨?_, fun mem => foreign i mem self, by simp [locked]⟩
    have skipped : before.find? (fun k => decide (slotInitiator s k = some l.owner)) = none := by
      simpa using foreign
    simp [arbiterPick, locked, queue, List.find?_append, skipped, self]

theorem erase_middle {α : Type} [DecidableEq α] {a : α} {before : List α} (after : List α) (new : a ∉ before) :
    (before ++ a :: after).erase a = before ++ after := by
  rw [List.erase_append_right _ new, List.erase_cons_head]

theorem servingPort_of_picked {x : Port} {before after : List SlotId} (queue : x.queue = before ++ i :: after)
    (new : i ∉ before) (y : Slot) (w : PortWork) (r : RegionRecord) :
    servingPort i y w r x = { x with
      queue := before ++ after
      lock := lockAtIssue y.initiator w x
      state := .issued
        { slot := i, step := .one, lowByte := none, timer := stepTimerOf r.fields.completion,
          presented := segmentStep w r.fields.lanes .one } } := by
  rw [servingPort, queue, erase_middle after new]

/-! ### The arbiter -/

theorem arbiter_issues (idle : (row s.ports p).state = .idle)
    (noGrant : ¬((row s.ports p).gate = .pending ∧ (row s.ports p).lock = none))
    (pick : arbiterPick s (row s.ports p) = some i) (hy : row s.slots i = some y) (work : y.work = .port w)
    (hr : row s.regions w.entry = some r) : arbiter p s = issuedState p i y w r s := by
  unfold arbiter
  dsimp only
  rw [if_pos idle, if_neg noGrant, pick]
  exact issueSlot_eq hy (portWorkOf_eq_some hy work) hr

theorem arbiter_grants (idle : (row s.ports p).state = .idle) (pending : (row s.ports p).gate = .pending)
    (unlocked : (row s.ports p).lock = none) : arbiter p s = grantHold p s := by
  unfold arbiter
  dsimp only
  rw [if_pos idle, if_pos ⟨pending, unlocked⟩]

/-- A lock record whose owner has nothing in the queue keeps an IDLE port idle (R49). -/
theorem arbiter_ownerAbsent {l : LockRecord} (locked : (row s.ports p).lock = some l)
    (absent : ∀ i, i ∈ (row s.ports p).queue → slotInitiator s i ≠ some l.owner) : arbiter p s = s := by
  have noPick : arbiterPick s (row s.ports p) = none := by
    unfold arbiterPick
    rw [locked]
    simpa using absent
  unfold arbiter
  dsimp only
  rw [if_neg (show ¬((row s.ports p).gate = .pending ∧ (row s.ports p).lock = none) by simp [locked]), noPick]
  split <;> rfl

/-- Settles O44: by the port's state, its gate and its lock record. -/
theorem arbiterServesHoldThenOwnerThenHead : Obligations.ArbiterServesHoldThenOwnerThenHead := by
  unfold Obligations.ArbiterServesHoldThenOwnerThenHead
  rintro p x s rfl
  refine ⟨arbiter_busy, fun idle pending unlocked => arbiter_grants idle pending unlocked,
    fun _ gate _ empty => arbiter_nothing gate empty, fun l _ locked absent => arbiter_ownerAbsent locked absent, ?_⟩
  intro before after i y w r idle queue hy work hr picked
  obtain ⟨pick, new, noGrant⟩ := arbiterPick_of_picked queue hy picked
  rw [arbiter_issues idle noGrant pick hy work hr]
  refine ⟨issuedState_slots hy p w r, ?_, issuedState_regions hr p i y, ?_⟩
  · rw [issuedState_ports, servingPort_of_picked queue new, lockAtIssue_eq, stepTimerOf_eq] <;> rfl
  · simp

end

end Sys2Proof.Machine
end

section
/-! PROOFS. Acceptance and routing (R9, R14, R24, R32 to R34, R94, R97): what an accepted request's slot is, and the queue it joins. -/

namespace Sys2Proof.Machine

-- one proof at a time: the text is compiled whole, in one process whose threads share its memory limit
set_option Elab.async false

section
variable {body : List Byte} {c : Instr} {h : ReqHeader} {s u : State} {w : Work} {i : SlotId}

/-! ### The acceptance order for a request that its chain takes -/

/-- Steps 3 to 6 of the acceptance order let through a request whose key is free, which finds a FREE slot, and which its chain takes
(R25, R95, R96). -/
theorem judge_open {r : Parsed} (normal : (row s.initiators h.initiator).mode = .normal) (mark : badMark h.mark r = false)
    (other : r ≠ .abandon) (free : KeyFree s h) (slot : ∃ i, row s.slots i = none)
    (takes : isMemberMark h.mark = true → chainVerdict (row s.chains h.initiator) = none) :
    judge s h (some r) = verdictOfCheck h.mark (kindCheck s h.initiator r) := by
  obtain ⟨i, chosen⟩ := freeSlot_isSome slot
  have verdict : (if isMemberMark h.mark then chainVerdict (row s.chains h.initiator) else none) = none := by
    split
    · next member => exact takes member
    · rfl
  rw [judge_from3 normal mark other]
  simp [verdictFrom3, free.slotOfKey, verdict, lateVerdict, chosen]

theorem chainVerdict_open {c : Chain} (unfailed : c.state ≠ .failed) (noLast : c.lastHeld = false) (room : c.count < 255) :
    chainVerdict c = none := by
  have below : c.count ≠ Config.maxChainMembers := Nat.ne_of_lt room
  simp [chainVerdict, unfailed, noLast, below]

theorem isMemberMark_iff (mark : ChainMark) : isMemberMark mark = true ↔ MemberMark mark := by
  cases mark <;> simp [isMemberMark, MemberMark]

theorem Admitted.up (admitted : Admitted s h) : s.link.state = .up := admitted.elim (·.1) (·.1)

theorem Admitted.normal (admitted : Admitted s h) : (row s.initiators h.initiator).mode = .normal :=
  admitted.elim (·.2.1) (·.2.1)

theorem Admitted.unmalformed (admitted : Admitted s h) : h.mark ≠ .malformed := by
  rcases admitted with ⟨-, -, lone, -⟩ | ⟨-, -, member | last, -⟩
  · simp [lone]
  · simp [member]
  · simp [last]

theorem Admitted.accepted {r : Parsed} (admitted : Admitted s h) (mark : badMark h.mark r = false) (other : r ≠ .abandon)
    (passed : kindCheck s h.initiator r = .passed w) : judge s h (some r) = .accepted w := by
  have judged : judge s h (some r) = verdictOfCheck h.mark (kindCheck s h.initiator r) := by
    rcases admitted with ⟨-, normal, lone, free, slot⟩ | ⟨-, normal, -, free, slot, unfailed, noLast, room, -⟩
    · exact judge_open normal mark other free slot fun member => by simp [lone, isMemberMark] at member
    · exact judge_open normal mark other free slot fun _ => chainVerdict_open unfailed noLast room
  rw [judged, passed]
  rfl

theorem Admitted.freeSlot (admitted : Admitted s h) : ∃ i, freeSlot s = some i :=
  admitted.elim (fun served => freeSlot_isSome served.2.2.2.2) fun head => freeSlot_isSome head.2.2.2.2.1

/-- A request outside any chain, and a chain's head, are routed at once (R33, R97). -/
theorem Admitted.routed (admitted : Admitted s h) : mustWait s h = false := by
  rcases admitted with ⟨-, -, lone, -⟩ | ⟨-, -, -, -, -, -, -, -, empty⟩
  · simp [mustWait, lone, isMemberMark]
  · simp [mustWait, empty]

theorem receiveMember_count {c : Chain} (room : c.count < 255) : (receiveMember c).count = c.count + 1 := by
  simp [receiveMember, Config.maxChainMembers, room]

theorem Admitted.role (admitted : Admitted s h) :
    roleFor h.mark (receiveMember (row s.chains h.initiator)) = roleDue s h := by
  rcases admitted with ⟨-, -, lone, -⟩ | ⟨-, -, mark, -, -, -, -, room, -⟩
  · simp [roleFor, roleDue, lone]
  · rcases mark with member | last
    · simp [roleFor, roleDue, member, receiveMember_count room]
    · simp [roleFor, roleDue, last, receiveMember_count room]

theorem Admitted.chains (admitted : Admitted s h) (i : SlotId) (w : Work) :
    (allocateSlot i h w s).chains = chainsWithHead s h i := by
  rcases admitted with ⟨-, -, lone, -⟩ | ⟨-, -, mark, -, -, unfailed, noLast, room, empty⟩
  · rw [allocateSlot_chains_none w s lone, chainsWithHead, if_neg (by simp [lone])]
  · have opened : (receiveMember (row s.chains h.initiator)).state = .opened := by
      cases state : (row s.chains h.initiator).state with
      | closed => simp [receiveMember, state]
      | opened => simp [receiveMember, state]
      | failed => exact absurd state unfailed
    rw [allocateSlot_chains_member w s ((isMemberMark_iff _).mpr mark), chainsWithHead, if_pos mark]
    simp only [joinChain, receiveMember_count room, opened]
    simp [receiveMember, empty, noLast]

/-! ### A slot has been entered in the table (R32, R34) -/

/-- Whether a request is answered as it is accepted (R34). -/
def answersAtOnce (s : State) (h : ReqHeader) (w : Work) : Bool := isPostedWrite s w && !isMemberMark h.mark

/-- The state with a request's slot allocated and, where it is due at once, answered. -/
def enteredState (i : SlotId) (h : ReqHeader) (w : Work) (s : State) : State :=
  if answersAtOnce s h w then answerPosted i h (allocateSlot i h w s) else allocateSlot i h w s

/-- The slot that an accepted request has before it is routed. -/
def enteredSlot (s : State) (h : ReqHeader) (w : Work) : Slot :=
  { filledSlot s h w .waiting (answersAtOnce s h w) with
    role := roleFor h.mark (receiveMember (row s.chains h.initiator)) }

theorem acceptWork_eq (chosen : freeSlot s = some i) :
    acceptWork h w s = routeSlot i w (mustWait s h) (enteredState i h w s) := by
  simp [acceptWork, chosen, enteredState, answersAtOnce]

theorem enteredState_slots (i : SlotId) (h : ReqHeader) (w : Work) (s : State) :
    (enteredState i h w s).slots = putRow s.slots i (some (enteredSlot s h w)) := by
  unfold enteredState enteredSlot
  split
  · next atOnce => simp [answerPosted, atOnce, filledSlot, newSlot]
  · next later => simp [later, filledSlot, newSlot]

@[simp] theorem enteredState_frame (i : SlotId) (h : ReqHeader) (w : Work) (s : State) :
    (enteredState i h w s).acceptCounter = s.acceptCounter + 1 ∧ (enteredState i h w s).ports = s.ports ∧
      (enteredState i h w s).stations = s.stations ∧ (enteredState i h w s).line = s.line ∧
      (enteredState i h w s).events = s.events ∧ (enteredState i h w s).management = s.management ∧
      (enteredState i h w s).chains = (allocateSlot i h w s).chains ∧
      (enteredState i h w s).regions = (allocateSlot i h w s).regions ∧
      (enteredState i h w s).initiators = (allocateSlot i h w s).initiators := by
  unfold enteredState
  split <;> simp

theorem enteredState_outbound (up : s.link.state = .up) (i : SlotId) (h : ReqHeader) (w : Work) :
    (enteredState i h w s).link.outbound =
      s.link.outbound ++ if answersAtOnce s h w then [plainResponse h.initiator h.tag .done] else [] := by
  unfold enteredState
  split
  · simp [answerPosted, answerKey, respond, handOver_outbound_up, up, plainResponse]
  · simp

theorem enteredState_sameReceiver (i : SlotId) (h : ReqHeader) (w : Work) (s : State) :
    SameReceiver s (enteredState i h w s) := by
  unfold enteredState
  split <;> simp [SameReceiver]

theorem enteredState_allocated (free : row s.slots i = none) (h : ReqHeader) (w : Work) {v : State} {x : Slot}
    (slots : v.slots = putRow s.slots i (some x)) (counter : v.acceptCounter = (enteredState i h w s).acceptCounter)
    (initiators : v.initiators = (enteredState i h w s).initiators) : Allocated s v h.initiator i x :=
  ⟨free, slots, by simpa using counter, by simpa using initiators⟩

/-! ### Joining a queue at its tail (R24) -/

/-- A slot accepted now goes behind every slot accepted within the last 65534 acceptances. -/
theorem placeInQueue_new {v : State} {queue : List SlotId} {x : Slot} (opened : TailOpen s queue) (free : row s.slots i = none)
    (slots : v.slots = putRow s.slots i (some x)) (sequence : x.sequence = s.acceptCounter)
    (counter : v.acceptCounter = s.acceptCounter + 1) : placeInQueue v i queue = queue ++ [i] := by
  refine placeInQueue_tail queue fun q hq => ?_
  obtain ⟨y, hy, before⟩ := opened q hq
  have ne : q ≠ i := by rintro rfl; simp [free] at hy
  have rowI : row v.slots i = some x := by rw [slots, row_putRow_self]
  have rowQ : row v.slots q = some y := by rw [slots, row_putRow_ne _ _ _ _ ne, hy]
  simp only [behind, rowI, rowQ, sequence, counter]
  generalize s.acceptCounter = counter at before
  generalize y.sequence = old at before
  bv_omega

/-- The slot that joins a queue is QUEUED. -/
theorem setSlotState_slots {v : State} {x : Slot} (slots : v.slots = putRow s.slots i (some x)) (state : SlotState) :
    (setSlotState i state v).slots = putRow s.slots i (some { x with state := state }) := by
  rw [setSlotState_eq (x := x) (by rw [slots, row_putRow_self]), State.setSlot_slots, slots, putRow_putRow_self]

end

/-! ### A request reaches the slot table -/

section
variable {body : List Byte} {h : ReqHeader} {s u : State}

theorem Arrives.admitted (arrival : Arrives body s u) (admitted : Admitted s h) : Admitted u h := by
  rw [arrival.same]; exact admitted

theorem exec_accepted {c : Instr} {r : Parsed} {w : Work} (request : requestOf c = some h) (named : bodyOf c = some body)
    (arrival : Arrives body s u) (up : s.link.state = .up) (parsed : parsedOf c = some r)
    (judged : judge u h (some r) = .accepted w) (request' : ∀ op, w ≠ .manage op) :
    exec c s = .next (selectEvent (acceptWork h w u)) := by
  rw [exec_arrives request named arrival up, parsed, judged]
  cases w with
  | port w => rfl
  | bit w => rfl
  | manage op => exact absurd rfl (request' op)

theorem badMark_port {kind : PortKind} (admitted : Admitted s h) (fits : markFits h kind) (addr : Addr) (width : Width) :
    badMark h.mark (.port kind addr width) = false := by
  cases kind with
  | read => exact badMark_allowed rfl admitted.unmalformed
  | write d => exact badMark_allowed rfl admitted.unmalformed
  | lockRead => exact badMark_none fits _
  | unlockWrite d => exact badMark_none fits _

/-- The work of a port request that its region entry allows. -/
def workAt (kind : PortKind) (addr : Addr) (width : Width) (e : EntryId) (r : RegionRecord) : PortWork :=
  { kind := kind, addr := addr, width := width, entry := e, target := targetAddress r.fields width addr,
    port := r.fields.port }

/-- A port request that is admitted and allowed is entered in the slot table and routed to its port. -/
theorem exec_portCommand {kind : PortKind} {addr : Addr} {width : Width} {e : EntryId} {r : RegionRecord}
    (fits : dataFits width kind) (named : bodyOf (portCommand h kind addr width) = some body) (arrival : Arrives body s u)
    (admitted : Admitted s h) (mark : markFits h kind) (allows : RegionAllows s h.initiator kind addr width e r) :
    ∃ i, row u.slots i = none ∧ exec (portCommand h kind addr width) s =
      .next (selectEvent (joinDestination i (.port (workAt kind addr width e r))
        (enteredState i h (.port (workAt kind addr width e r)) u))) := by
  have admitted' := arrival.admitted admitted
  have allows' : RegionAllows u h.initiator kind addr width e r := by rw [arrival.same]; exact allows
  obtain ⟨i, chosen⟩ := admitted'.freeSlot
  refine ⟨i, freeSlot_some chosen, ?_⟩
  rw [exec_accepted (requestOf_portCommand _ _ _ _) named arrival admitted.up (parsedOf_portCommand _ _ _ _ fits)
    (admitted'.accepted (badMark_port admitted mark addr width) (by simp) (portCheck_allows allows')) (by simp),
    acceptWork_eq chosen, admitted'.routed]
  rfl

/-- A bit request that is admitted and fits is entered in the slot table and routed to the line. -/
theorem exec_bitCommand {kind : BitKind} {addr : Addr} (fits : bitKindFits kind)
    (named : bodyOf (bitCommand h kind addr) = some body) (arrival : Arrives body s u) (admitted : Admitted s h)
    (inRange : BitFits kind addr) :
    ∃ i, row u.slots i = none ∧ exec (bitCommand h kind addr) s =
      .next (selectEvent (joinDestination i (.bit { kind := kind, addr := BitVec.ofNat 9 addr.toNat })
        (enteredState i h (.bit { kind := kind, addr := BitVec.ofNat 9 addr.toNat }) u))) := by
  have admitted' := arrival.admitted admitted
  obtain ⟨i, chosen⟩ := admitted'.freeSlot
  refine ⟨i, freeSlot_some chosen, ?_⟩
  rw [exec_accepted (requestOf_bitCommand _ _ _) named arrival admitted.up (parsedOf_bitCommand _ _ _ fits)
    (admitted'.accepted (badMark_allowed rfl admitted.unmalformed) (by simp) (bitCheck_fits inRange)) (by simp),
    acceptWork_eq chosen, admitted'.routed]
  rfl

theorem answersAtOnce_port {kind : PortKind} {addr : Addr} {width : Width} {e : EntryId} {r : RegionRecord}
    (admitted : Admitted s h) (present : row s.regions e = some r) :
    answersAtOnce s h (.port (workAt kind addr width e r)) = (isPosted r.fields kind && decide (h.mark = .none)) := by
  have outside : (!isMemberMark h.mark) = decide (h.mark = .none) := by
    have := admitted.unmalformed
    cases mark : h.mark <;> simp_all [isMemberMark]
  rw [answersAtOnce, outside]
  cases kind <;> simp [isPostedWrite, workAt, isPosted, present]

end

end Sys2Proof.Machine
end

section
/-! PROOFS. Accepted requests (R33, R49, R51, R97, R113): the tail of a busy port's queue, an issue at an IDLE port, the tail of a busy
line's queue, and a chain member that waits. -/

namespace Sys2Proof.Machine

-- one proof at a time: the text is compiled whole, in one process whose threads share its memory limit
set_option Elab.async false

section
variable {h : ReqHeader} {s : State} {i : SlotId}

/-! ### At a port -/

theorem joinPort_up {p : PortId} (up : (row s.ports p).setting = .up) (i : SlotId) :
    joinPort p i s = arbiter p (placedAt p i s) := by
  unfold joinPort
  dsimp only
  split
  · next down => simp [up] at down
  · rfl

/-- A slot that joins an UP port whose queue is open at its tail. -/
theorem joinDestination_tail {w : PortWork} {v : State} {x : Slot} (up : (row s.ports w.port).setting = .up)
    (opened : TailOpen s (row s.ports w.port).queue) (free : row s.slots i = none)
    (slots : v.slots = putRow s.slots i (some x)) (sequence : x.sequence = s.acceptCounter)
    (counter : v.acceptCounter = s.acceptCounter + 1) (ports : v.ports = s.ports) :
    joinDestination i (.port w) v = arbiter w.port ((setSlotState i .queued v).setPort w.port
      { row s.ports w.port with queue := (row s.ports w.port).queue ++ [i] }) := by
  have ports' : (setSlotState i .queued v).ports = s.ports := by simp [ports]
  have placed : placeInQueue (setSlotState i .queued v) i (row s.ports w.port).queue = (row s.ports w.port).queue ++ [i] :=
    placeInQueue_new opened free (setSlotState_slots slots .queued) sequence (by simp [counter])
  show joinPort w.port i (setSlotState i .queued v) = _
  rw [joinPort_up (by rw [ports']; exact up), placedAt, ports', placed]

/-- What the entry of an admitted request in the slot table leaves besides its slot. -/
theorem enteredState_admitted (admitted : Admitted s h) (i : SlotId) (w : Work) :
    (enteredState i h w s).chains = chainsWithHead s h i ∧
      (enteredSlot s h w).role = roleDue s h ∧ SameReceiver s (enteredState i h w s) ∧
      (enteredState i h w s).link.outbound =
        s.link.outbound ++ if answersAtOnce s h w then [plainResponse h.initiator h.tag .done] else [] :=
  ⟨by simp [admitted.chains], admitted.role, enteredState_sameReceiver i h w s, enteredState_outbound admitted.up i h w⟩

theorem enteredSlot_admitted (admitted : Admitted s h) (w : Work) :
    enteredSlot s h w = { filledSlot s h w .waiting (answersAtOnce s h w) with role := roleDue s h } := by
  rw [enteredSlot, admitted.role]

theorem enteredState_regions_port {w : PortWork} {r : RegionRecord} (present : row s.regions w.entry = some r) :
    (enteredState i h (.port w) s).regions = putRow s.regions w.entry (some { r with inFlight := r.inFlight + 1 }) := by
  simp [allocateSlot_regions_port present]

theorem Arrives.exists_rx {body : List Byte} {u : State} (arrival : Arrives body s u) :
    ∃ rx, u = s.setLink { s.link with rx := rx } := ⟨_, arrival.same⟩

/-- The other blocks are as they were. -/
def SameUnits (s v : State) : Prop :=
  v.stations = s.stations ∧ v.line = s.line ∧ v.events = s.events ∧ v.management = s.management

/-- An admitted request is QUEUED at the tail of its port's queue, and the port's arbiter has not been consulted. -/
structure QueuedAt (s : State) (i : SlotId) (h : ReqHeader) (w : PortWork) (v : State) : Prop where
  slots : v.slots = putRow s.slots i
    (some { filledSlot s h (.port w) .queued (answersAtOnce s h (.port w)) with role := roleDue s h })
  acceptCounter : v.acceptCounter = (enteredState i h (.port w) s).acceptCounter
  initiators : v.initiators = (enteredState i h (.port w) s).initiators
  regions : ∀ r, row s.regions w.entry = some r →
    v.regions = putRow s.regions w.entry (some { r with inFlight := r.inFlight + 1 })
  ports : v.ports = putRow s.ports w.port { row s.ports w.port with queue := (row s.ports w.port).queue ++ [i] }
  outbound : v.link.outbound = s.link.outbound ++
    if answersAtOnce s h (.port w) then [plainResponse h.initiator h.tag .done] else []
  receiver : SameReceiver s v
  chains : v.chains = chainsWithHead s h i
  units : SameUnits s v

theorem joinDestination_queuedAt {w : PortWork} (admitted : Admitted s h) (free : row s.slots i = none)
    (up : (row s.ports w.port).setting = .up) (opened : TailOpen s (row s.ports w.port).queue) :
    ∃ v, joinDestination i (.port w) (enteredState i h (.port w) s) = arbiter w.port v ∧ QueuedAt s i h w v := by
  obtain ⟨chains, -, receiver, outbound⟩ := enteredState_admitted admitted i (.port w)
  have slots := enteredState_slots i h (.port w) s
  refine ⟨_, joinDestination_tail up opened free slots rfl (by simp) (by simp), ?_⟩
  rw [enteredSlot_admitted admitted] at slots
  exact
    { slots := setSlotState_slots slots .queued
      acceptCounter := by simp
      initiators := by simp
      regions := fun r present => by simpa using enteredState_regions_port present
      ports := by simp
      outbound := by simpa using outbound
      receiver := by simpa [SameReceiver] using receiver
      chains := by simpa using chains
      units := by simp [SameUnits] }

theorem QueuedAt.port {w : PortWork} {v : State} (queued : QueuedAt s i h w v) :
    row v.ports w.port = { row s.ports w.port with queue := (row s.ports w.port).queue ++ [i] } := by
  rw [queued.ports, row_putRow_self]

theorem QueuedAt.held {w : PortWork} {v : State} (queued : QueuedAt s i h w v) :
    row v.slots i =
      some { filledSlot s h (.port w) .queued (answersAtOnce s h (.port w)) with role := roleDue s h } := by
  rw [queued.slots, row_putRow_self]

/-- Settles O13: the slot joins the queue's tail, and the busy port's arbiter decides nothing. -/
theorem portRequestWaitsForBusyPort : Obligations.PortRequestWaitsForBusyPort := by
  unfold Obligations.PortRequestWaitsForBusyPort
  intro h kind addr width e r body s u fits named arrival admitted mark allows busy opened
  obtain ⟨i, free, run⟩ := exec_portCommand fits named arrival admitted mark allows
  have admitted := arrival.admitted admitted
  obtain ⟨rx, rfl⟩ := arrival.exists_rx
  obtain ⟨-, present, -, up, -⟩ := allows
  obtain ⟨v, joined, queued⟩ := joinDestination_queuedAt (w := workAt kind addr width e r) admitted free up opened
  have still : arbiter (workAt kind addr width e r).port v = v := arbiter_busy (queued.port ▸ busy)
  have slots := queued.slots
  have outbound := queued.outbound
  rw [answersAtOnce_port admitted present] at slots outbound
  rw [joined, still] at run
  exact ⟨v, i, run, enteredState_allocated free h _ slots queued.acceptCounter queued.initiators, queued.regions r present,
    queued.ports, outbound, queued.receiver, queued.chains, queued.units⟩

/-! ### At an IDLE port -/

/-- The lock record after the issue of a slot with nothing before it: its own, if any, which an UNLOCK-WRITE's issue stops. -/
theorem lockAtIssue_first {owner : Initiator} {w : PortWork} {x : Port}
    (first : x.lock = none ∨ ∃ l, x.lock = some l ∧ l.owner = owner) :
    lockAtIssue owner w x = match w.kind with
      | .read => x.lock
      | .write _ => x.lock
      | .lockRead =>
          some { owner := owner, address := w.addr, width := w.width, entry := w.entry, timer := .running x.lockLifetime }
      | .unlockWrite _ => x.lock.map fun l => { l with timer := .stopped } := by
  rw [lockAtIssue_eq]
  cases w.kind with
  | read => rfl
  | write d => rfl
  | lockRead => rfl
  | unlockWrite d =>
    rcases first with unlocked | ⟨l, locked, own⟩
    · simp [unlocked]
    · simp [locked, own]

/-- A port with a slot issued to it that had nothing before it. -/
theorem firstIssued_eq {owner : Initiator} {w : PortWork} {x : Port} (i : SlotId) (r : RegionRecord)
    (first : x.lock = none ∨ ∃ l, x.lock = some l ∧ l.owner = owner) :
    { x with
      state := .issued
        { slot := i, step := .one, lowByte := none, timer := stepTimerOf r.fields.completion,
          presented := segmentStep w r.fields.lanes .one }
      lock := lockAtIssue owner w x } =
    { x with
      state := .issued
        { slot := i, step := .one, lowByte := none,
          timer := match r.fields.completion with
            | .fixed d => .delay d
            | .ready t => .ready t
          presented := segmentStep w r.fields.lanes .one }
      lock := match w.kind with
        | .read => x.lock
        | .write _ => x.lock
        | .lockRead =>
            some { owner := owner, address := w.addr, width := w.width, entry := w.entry,
                   timer := .running x.lockLifetime }
        | .unlockWrite _ => x.lock.map fun l => { l with timer := .stopped } } := by
  rw [lockAtIssue_first first, stepTimerOf_eq] <;> rfl

/-- A request that is alone in its IDLE port's queue is issued (R49, R51). -/
theorem QueuedAt.issues {w : PortWork} {r : RegionRecord} {v : State} (queued : QueuedAt s i h w v)
    (present : row s.regions w.entry = some r) (idle : (row s.ports w.port).state = .idle)
    (empty : (row s.ports w.port).queue = []) (first : PickedAfter s (row s.ports w.port) [] h.initiator) :
    ∃ y r', arbiter w.port v = issuedState w.port i y w r' v ∧ row v.slots i = some y ∧ y.initiator = h.initiator ∧
      row v.regions w.entry = some r' ∧ r' = { r with inFlight := r.inFlight + 1 } := by
  have counted : row v.regions w.entry = some { r with inFlight := r.inFlight + 1 } := by
    rw [queued.regions r present, row_putRow_self]
  have picked : PickedAfter v (row v.ports w.port) [] h.initiator := by
    rw [queued.port]
    exact first.imp id fun ⟨l, locked, own, _⟩ => ⟨l, locked, own, by simp⟩
  obtain ⟨pick, -, noGrant⟩ := arbiterPick_of_picked (after := []) (by rw [queued.port, empty]) queued.held picked
  exact ⟨_, _, arbiter_issues (by rw [queued.port]; exact idle) noGrant pick queued.held rfl counted, queued.held, rfl,
    counted, rfl⟩

/-- What an admitted port request leaves that is issued in the event of its acceptance. -/
theorem QueuedAt.issued {w : PortWork} {r : RegionRecord} {v : State} (queued : QueuedAt s i h w v)
    (free : row s.slots i = none) (present : row s.regions w.entry = some r) (idle : (row s.ports w.port).state = .idle)
    (empty : (row s.ports w.port).queue = []) (first : PickedAfter s (row s.ports w.port) [] h.initiator) :
    Allocated s (arbiter w.port v) h.initiator i
        { filledSlot s h (.port w) .active (answersAtOnce s h (.port w)) with role := roleDue s h } ∧
      (arbiter w.port v).regions =
        putRow s.regions w.entry (some { r with inFlight := r.inFlight + (if w.kind = .lockRead then 2 else 1) }) ∧
      (arbiter w.port v).ports = putRow s.ports w.port { row s.ports w.port with
        state := .issued
          { slot := i, step := .one, lowByte := none, timer := stepTimerOf r.fields.completion,
            presented := segmentStep w r.fields.lanes .one }
        lock := lockAtIssue h.initiator w (row s.ports w.port) } ∧
      (arbiter w.port v).link = v.link ∧ (arbiter w.port v).chains = v.chains ∧ SameUnits s (arbiter w.port v) := by
  obtain ⟨y, r', issues, held, own, counted, same⟩ := queued.issues present idle empty first
  rw [issues]
  refine ⟨enteredState_allocated free h (.port w) ?_ ?_ ?_, ?_, ?_, ?_, ?_, ?_⟩
  · obtain rfl := Option.some.inj (held.symm.trans queued.held)
    rw [issuedState_slots held, queued.slots, putRow_putRow_self]
    rfl
  · simpa using queued.acceptCounter
  · simpa using queued.initiators
  · rw [issuedState_regions counted, queued.regions r present, same]
    split <;> simp
  · rw [issuedState_ports, queued.ports, putRow_putRow_self, row_putRow_self, servingPort, same, own]
    simp [empty, lockAtIssue]
  · simp
  · simp
  · simpa [SameUnits] using queued.units

/-- Settles O14: the slot is alone in the queue, and the IDLE port's arbiter issues it. -/
theorem portRequestIsIssuedAtIdlePort : Obligations.PortRequestIsIssuedAtIdlePort := by
  unfold Obligations.PortRequestIsIssuedAtIdlePort
  intro h kind addr width e r x body s u fits named arrival admitted mark allows hx idle empty first
  subst hx
  obtain ⟨i, free, run⟩ := exec_portCommand fits named arrival admitted mark allows
  have admitted := arrival.admitted admitted
  obtain ⟨rx, rfl⟩ := arrival.exists_rx
  obtain ⟨-, present, -, up, -⟩ := allows
  have opened : TailOpen s (row s.ports r.fields.port).queue := fun q hq => by rw [empty] at hq; cases hq
  obtain ⟨v, joined, queued⟩ := joinDestination_queuedAt (w := workAt kind addr width e r) admitted free up opened
  obtain ⟨allocated, regions, ports, link, chains, units⟩ := queued.issued free present idle empty
    (first.imp (fun ⟨unlocked, gate⟩ => ⟨unlocked, gate, rfl⟩) fun ⟨l, locked, own⟩ => ⟨l, locked, own.symm, by simp⟩)
  have outbound := queued.outbound
  rw [answersAtOnce_port admitted present] at allocated outbound
  rw [joined] at run
  have serving := firstIssued_eq (w := workAt kind addr width e r) i r (first.imp (·.1) id)
  refine ⟨_, i, _, run, rfl, allocated, regions, ports.trans (congrArg (putRow s.ports r.fields.port) serving), ?_, ?_,
    chains.trans queued.chains, units⟩
  · rw [link]; exact outbound
  · rw [SameReceiver, link]; exact queued.receiver

/-! ### At the line -/

theorem lineArbiter_busy (busy : s.line.op ≠ none) : lineArbiter s = s := by
  rw [lineArbiter, lineArbiterFor, if_neg busy]

/-- An admitted bit request is QUEUED at the tail of the line queue, and the line arbiter has not been consulted. -/
structure QueuedOnLine (s : State) (i : SlotId) (h : ReqHeader) (w : BitWork) (v : State) : Prop where
  slots : v.slots = putRow s.slots i (some { filledSlot s h (.bit w) .queued false with role := roleDue s h })
  acceptCounter : v.acceptCounter = (enteredState i h (.bit w) s).acceptCounter
  initiators : v.initiators = (enteredState i h (.bit w) s).initiators
  line : v.line = { s.line with queue := s.line.queue ++ [i] }
  outbound : v.link.outbound = s.link.outbound
  receiver : SameReceiver s v
  chains : v.chains = chainsWithHead s h i
  others : v.regions = s.regions ∧ v.ports = s.ports ∧ v.stations = s.stations ∧ v.events = s.events ∧
    v.management = s.management

theorem joinDestination_queuedOnLine (admitted : Admitted s h) (free : row s.slots i = none)
    (opened : TailOpen s s.line.queue) (w : BitWork) :
    ∃ v, joinDestination i (.bit w) (enteredState i h (.bit w) s) = lineArbiter v ∧ QueuedOnLine s i h w v := by
  obtain ⟨chains, -, receiver, outbound⟩ := enteredState_admitted admitted i (.bit w)
  have slots := setSlotState_slots (enteredState_slots i h (.bit w) s) .queued
  have later : answersAtOnce s h (.bit w) = false := rfl
  have placed : placeInQueue (setSlotState i .queued (enteredState i h (.bit w) s)) i s.line.queue = s.line.queue ++ [i] :=
    placeInQueue_new opened free slots rfl (by simp)
  refine ⟨placedOnLine i (setSlotState i .queued (enteredState i h (.bit w) s)), rfl, ?_⟩
  rw [enteredSlot_admitted admitted, later] at slots
  rw [later] at outbound
  exact
    { slots := slots
      acceptCounter := by simp [placedOnLine]
      initiators := by simp [placedOnLine]
      line := by simp [placedOnLine, placed]
      outbound := by simpa [placedOnLine] using outbound
      receiver := by simpa [SameReceiver, placedOnLine] using receiver
      chains := by simpa [placedOnLine] using chains
      others := by simp [placedOnLine] }

/-- Settles O16: the slot joins the line queue's tail, and the busy line's arbiter decides nothing. -/
theorem bitRequestWaitsForBusyLine : Obligations.BitRequestWaitsForBusyLine := by
  unfold Obligations.BitRequestWaitsForBusyLine
  intro h kind addr body s u fits named arrival admitted inRange busy opened
  obtain ⟨i, free, run⟩ := exec_bitCommand fits named arrival admitted inRange
  have admitted := arrival.admitted admitted
  obtain ⟨rx, rfl⟩ := arrival.exists_rx
  obtain ⟨v, joined, queued⟩ := joinDestination_queuedOnLine admitted free opened
    { kind := kind, addr := BitVec.ofNat 9 addr.toNat }
  rw [joined, lineArbiter_busy (by rw [queued.line]; exact busy)] at run
  obtain ⟨regions, ports, stations, events, management⟩ := queued.others
  exact ⟨v, i, run, enteredState_allocated free h _ queued.slots queued.acceptCounter queued.initiators, queued.line,
    queued.outbound, queued.receiver, regions, queued.chains, ports, stations, events, management⟩

/-! ### Behind a chain's earlier member -/

theorem enteredState_countsOneMore (i : SlotId) (h : ReqHeader) (w : Work) (s : State) :
    CountsOneMore s (enteredState i h w s) w := by
  cases w with
  | port w => exact fun r present => enteredState_regions_port present
  | bit w => simp [CountsOneMore]
  | manage op => simp [CountsOneMore]

theorem answersAtOnce_member (member : isMemberMark h.mark = true) (w : Work) : answersAtOnce s h w = false := by
  simp [answersAtOnce, member]

/-- The context of an OPEN chain that a further member has joined (R94, R97). -/
theorem joinChain_open {c : Chain} (opened : c.state = .opened) (noLast : c.lastHeld = false) (room : c.count < 255)
    (mark : ChainMark) (i : SlotId) :
    joinChain (receiveMember c) mark i =
      { c with count := c.count + 1, members := c.members ++ [i], lastHeld := decide (mark = .last) } := by
  simp [joinChain, receiveMember, opened, noLast, Config.maxChainMembers, room]

theorem roleFor_member {mark : ChainMark} (member : mark = .member ∨ mark = .last) {c : Chain} (room : c.count < 255) :
    roleFor mark (receiveMember c) = if mark = .last then .last (c.count + 1) else .member (c.count + 1) := by
  rcases member with rfl | rfl
  · simp [roleFor, receiveMember_count room]
  · simp [roleFor, receiveMember_count room]

theorem enteredSlot_waiting (member : h.mark = .member ∨ h.mark = .last) (room : (row s.chains h.initiator).count < 255)
    (w : Work) : enteredSlot s h w = { filledSlot s h w .waiting false with
      role := if h.mark = .last then .last ((row s.chains h.initiator).count + 1)
        else .member ((row s.chains h.initiator).count + 1) } := by
  rw [enteredSlot, answersAtOnce_member ((isMemberMark_iff _).mpr member), roleFor_member member room]

/-- A member whose chain holds an earlier one is entered in the slot table and not routed. -/
theorem acceptWork_waits (up : s.link.state = .up) (mark : h.mark = .member ∨ h.mark = .last)
    (slot : ∃ i, row s.slots i = none) (opened : (row s.chains h.initiator).state = .opened)
    (noLast : (row s.chains h.initiator).lastHeld = false) (room : (row s.chains h.initiator).count < 255)
    (waits : (row s.chains h.initiator).members ≠ []) (w : Work) :
    ∃ i, acceptWork h w s = enteredState i h w s ∧
      Allocated s (enteredState i h w s) h.initiator i
        { filledSlot s h w .waiting false with
          role := if h.mark = .last then .last ((row s.chains h.initiator).count + 1)
            else .member ((row s.chains h.initiator).count + 1) } ∧
      (enteredState i h w s).chains = putRow s.chains h.initiator
        { row s.chains h.initiator with
          count := (row s.chains h.initiator).count + 1
          members := (row s.chains h.initiator).members ++ [i]
          lastHeld := decide (h.mark = .last) } ∧
      (enteredState i h w s).link.outbound = s.link.outbound := by
  have member : isMemberMark h.mark = true := (isMemberMark_iff _).mpr mark
  have behindHead : mustWait s h = true := by simpa [mustWait, member] using waits
  obtain ⟨i, chosen⟩ := freeSlot_isSome slot
  have slots := enteredState_slots i h w s
  rw [enteredSlot_waiting mark room] at slots
  refine ⟨i, by rw [acceptWork_eq chosen, behindHead]; rfl,
    enteredState_allocated (freeSlot_some chosen) h w slots rfl rfl, ?_, ?_⟩
  · simp only [enteredState_frame, allocateSlot_chains_member w _ member]
    rw [joinChain_open opened noLast room]
  · simpa [answersAtOnce_member member] using enteredState_outbound up i h w

/-- Settles O18: the member list is not empty, so the slot is not routed. -/
theorem chainMemberWaitsForPredecessor : Obligations.ChainMemberWaitsForPredecessor := by
  unfold Obligations.ChainMemberWaitsForPredecessor
  intro h c w body s u passes wf named arrival up normal mark free slot opened noLast room waits
  obtain ⟨request, r, parsed, unmarked, -⟩ := wf.parsed
  obtain ⟨r', parsed', -, other, passed, -⟩ := passes.check
  obtain rfl := Option.some.inj (parsed.symm.trans parsed')
  have judged : judge u h (some r) = .accepted w := by
    rw [arrival.judge, judge_open normal unmarked other free slot fun _ => chainVerdict_open (by simp [opened]) noLast room,
      passed]
    rfl
  have unmanaged : ∀ op, w ≠ .manage op := by
    rintro op rfl
    rcases passes with ⟨_, _, _, _, _, -, -, -, wrong⟩ | ⟨_, _, -, -, -, wrong⟩
    · cases wrong
    · cases wrong
  have run := exec_accepted request named arrival up parsed judged unmanaged
  obtain ⟨rx, rfl⟩ := arrival.exists_rx
  obtain ⟨i, accepted, allocated, chains, outbound⟩ :=
    acceptWork_waits (s := s.setLink { s.link with rx := rx }) up mark slot opened noLast room waits w
  rw [accepted] at run
  exact ⟨_, i, run, allocated, chains, enteredState_countsOneMore i h w (s.setLink { s.link with rx := rx }), outbound,
    enteredState_sameReceiver i h w _, by simp⟩

end

end Sys2Proof.Machine
end

section
/-! PROOFS. The release of a slot outside any chain (R35 to R38, R42), and a bit request taken by a free line (R113). -/

namespace Sys2Proof.Machine

-- one proof at a time: the text is compiled whole, in one process whose threads share its memory limit
set_option Elab.async false

section
variable {s v : State} {i : SlotId} {x : Slot} {a : Answer}

/-! ### The release of a slot outside any chain -/

/-- The RESPONSE of a slot outside any chain (R36). -/
def loneResponse (x : Slot) (a : Answer) : Message :=
  .response { initiator := x.initiator, tag := x.tag, answer := a, partialMarker := partialMarkerOf x a, summary := none }

theorem loneResponse_plain (first : x.step = .one ∨ a ≠ .fault .timeout) :
    loneResponse x a = plainResponse x.initiator x.tag a := by
  rcases first with one | other
  · simp [loneResponse, plainResponse, partialMarkerOf, one]
  · simp [loneResponse, plainResponse, partialMarkerOf, other]

theorem loneResponse_timeout (x : Slot) : loneResponse x (.fault .timeout) =
    .response { initiator := x.initiator, tag := x.tag, answer := .fault .timeout,
                partialMarker := decide (x.step = .two), summary := none } := by
  simp [loneResponse, partialMarkerOf]

theorem answerSlot_lone_outbound (lone : x.role = .none) (i : SlotId) (a : Answer) (s : State) :
    (answerSlot i x a s).link.outbound =
      s.link.outbound ++
        if x.answered = true ∨ x.suppressed = true ∨ s.link.state = .down then [] else [loneResponse x a] := by
  unfold answerSlot
  dsimp only
  by_cases silent : x.answered = true ∨ x.suppressed = true
  · have : (x.answered || x.suppressed) = true := by simpa using silent
    simp [this, ← or_assoc, silent]
  · have : (x.answered || x.suppressed) = false := by simpa using silent
    cases state : s.link.state with
    | down => simp [this, respond, handOver_outbound_down, state]
    | up =>
      simp only [not_or, Bool.not_eq_true] at silent
      simp [respond, handOver_outbound_up, state, silent, lone, isLastRole, loneResponse]

theorem abandonAnswer_nothing {k : Initiator} (goesOn : ¬ EndsAbandonment s k) : abandonAnswer s k = [] :=
  if_neg fun both => goesOn both.1

/-- A state in which a slot is FREE and its occupancy given back: the end of an abandonment makes the release whole (R42). -/
theorem endAbandonment_released {m : Message} (slots : v.slots = putRow s.slots i none)
    (initiators : v.initiators = putRow s.initiators x.initiator
      { row s.initiators x.initiator with occupancy := (row s.initiators x.initiator).occupancy - 1 })
    (counter : v.acceptCounter = s.acceptCounter) (chains : v.chains = s.chains) (receiver : SameReceiver s v)
    (outbound : v.link.outbound =
      s.link.outbound ++ if x.answered = true ∨ x.suppressed = true ∨ s.link.state = .down then [] else [m]) :
    Released s (endAbandonment x.initiator v) i x m := by
  have ends : ((row v.initiators x.initiator).mode = .abandoning ∧ (row v.initiators x.initiator).occupancy = 0) ↔
      EndsAbandonment s x.initiator := by
    rw [initiators, row_putRow_self]
    simp only [EndsAbandonment, Nat.sub_eq_zero_iff_le]
  have tag : (row v.initiators x.initiator).abandonTag = (row s.initiators x.initiator).abandonTag := by
    rw [initiators, row_putRow_self]
  have receiver' : SameReceiver s (endAbandonment x.initiator v) := by
    simpa [SameReceiver] using receiver
  obtain ⟨linkState, -⟩ := receiver
  refine ⟨by simpa using slots, ?_, by simpa using counter, by simpa using chains, receiver', ?_⟩
  · by_cases ending : EndsAbandonment s x.initiator
    · rw [if_pos ending, endAbandonment, if_pos (ends.mpr ending)]
      have none_left : (row v.initiators x.initiator).occupancy = 0 := (ends.mpr ending).2
      cases held : (row v.initiators x.initiator).abandonTag <;> simp [none_left] <;> simp [initiators]
    · rw [if_neg ending, endAbandonment, if_neg (mt ends.mp ending), initiators]
  · by_cases ending : EndsAbandonment s x.initiator
    · rw [endAbandonment, if_pos (ends.mpr ending), abandonAnswer, tag]
      cases (row s.initiators x.initiator).abandonTag with
      | none => simp [outbound]
      | some t =>
        cases state : s.link.state with
        | up => simp [ending, answerKey, respond, handOver_outbound_up, linkState, state, outbound, plainResponse]
        | down => simp [answerKey, respond, handOver_outbound_down, linkState, state, outbound]
    · rw [endAbandonment, if_neg (mt ends.mp ending), abandonAnswer_nothing ending, List.append_nil, outbound]

theorem finishSlot_lone (held : row s.slots i = some x) (lone : x.role = .none) (a : Answer) :
    finishSlot i a s =
      endAbandonment x.initiator (lowerWorkCount x.work (freeSlotOf i x.initiator (answerSlot i x a s))) := by
  have unreported : reportToChain i x a s = s := by simp [reportToChain, lone, roleOrdinal]
  simp [finishSlot, held, unreported, releaseSlot, leaveChain, inChain, lone]

theorem freeSlotOf_answered_slots (i : SlotId) (x : Slot) (a : Answer) (s : State) :
    (freeSlotOf i x.initiator (answerSlot i x a s)).slots = putRow s.slots i none := by
  obtain ⟨y, written⟩ := answerSlot_slots i x a s
  rw [freeSlotOf_slots, written, putRow_putRow_self]

theorem freeSlotOf_answered_initiators (i : SlotId) (x : Slot) (a : Answer) (s : State) :
    (freeSlotOf i x.initiator (answerSlot i x a s)).initiators = putRow s.initiators x.initiator
      { row s.initiators x.initiator with occupancy := (row s.initiators x.initiator).occupancy - 1 } := by
  simp [freeSlotOf, lowerOccupancy]

/-- A slot outside any chain is released, where the fall of its entry's count touches the region map alone. -/
theorem finishSlot_released (held : row s.slots i = some x) (lone : x.role = .none) {regions : Table 48 (Option RegionRecord)}
    (counted : lowerWorkCount x.work (freeSlotOf i x.initiator (answerSlot i x a s)) =
      { freeSlotOf i x.initiator (answerSlot i x a s) with regions := regions }) :
    Released s (finishSlot i a s) i x (loneResponse x a) ∧ (finishSlot i a s).regions = regions ∧
      (finishSlot i a s).management = s.management := by
  rw [finishSlot_lone held lone, counted]
  refine ⟨endAbandonment_released (freeSlotOf_answered_slots i x a s) (freeSlotOf_answered_initiators i x a s) (by simp)
    (by simp) (by simp [SameReceiver]) ?_, by simp, by simp⟩
  simpa using answerSlot_lone_outbound lone i a s

theorem finishSlot_bit {w : BitWork} (held : row s.slots i = some x) (lone : x.role = .none) (work : x.work = .bit w)
    (a : Answer) :
    Released s (finishSlot i a s) i x (loneResponse x a) ∧ (finishSlot i a s).regions = s.regions ∧
      (finishSlot i a s).management = s.management := by
  have counted : lowerWorkCount x.work (freeSlotOf i x.initiator (answerSlot i x a s)) =
      { freeSlotOf i x.initiator (answerSlot i x a s) with
        regions := (freeSlotOf i x.initiator (answerSlot i x a s)).regions } := by rw [work]; rfl
  simpa using finishSlot_released held lone counted

theorem lowerCount_counts {e : EntryId} {r : RegionRecord} (present : row s.regions e = some r) (stays : NoDrainEnds r 1) :
    lowerCount e s = s.setRegion e (some { r with inFlight := r.inFlight - 1 }) := by
  rw [lowerCount_present present, if_neg]
  rintro ⟨draining, last⟩
  rcases stays with active | more
  · simp [active] at draining
  · omega

theorem finishSlot_port {w : PortWork} {r : RegionRecord} (held : row s.slots i = some x) (lone : x.role = .none)
    (work : x.work = .port w) (present : row s.regions w.entry = some r) (stays : NoDrainEnds r 1) (a : Answer) :
    Released s (finishSlot i a s) i x (loneResponse x a) ∧
      (finishSlot i a s).regions = putRow s.regions w.entry (some { r with inFlight := r.inFlight - 1 }) ∧
      (finishSlot i a s).management = s.management := by
  refine finishSlot_released held lone ?_
  simp only [lowerWorkCount, work, workEntry]
  rw [lowerCount_counts (by simpa using present) stays]
  simp [State.setRegion]

theorem completeSlot_lone (held : row s.slots i = some x) (lone : x.role = .none) (a : Answer) :
    completeSlot i a s = finishSlot i a s := by
  simp [completeSlot, held, inChain, lone]

theorem failSlot_lone (held : row s.slots i = some x) (lone : x.role = .none) (code : FaultCode) :
    failSlot i code s = finishSlot i (.fault code) s := by
  simp [failSlot, held, inChain, lone]

end

/-! ### The positions of a bit request (R106, R109, R115) -/

section
variable {w : BitWork}

theorem stationOf_ofNat {addr : Addr} (inRange : addr.toNat ≤ 511) {n : StationId} (number : n.val = addr.toNat / 32) :
    stationOf (BitVec.ofNat 9 addr.toNat) = n := by
  apply Fin.ext
  simp [stationOf, Nat.mod_eq_of_lt (show addr.toNat < 512 by omega), number]

theorem positionOf_ofNat {addr : Addr} (inRange : addr.toNat ≤ 511) :
    positionOf (BitVec.ofNat 9 addr.toNat) = addr.toNat % 32 := by
  simp [positionOf, Nat.mod_eq_of_lt (show addr.toNat < 512 by omega)]

theorem bitMask_getLsbD (w : BitWork) {j : Nat} (below : j < 32) :
    (bitMask w).getLsbD j = decide (positionOf w.addr ≤ j ∧ j < positionOf w.addr + bitWidth w.kind) := by
  simp only [bitMask, BitVec.getLsbD_shiftLeft, below, decide_true, Bool.true_and, BitVec.getLsbD_ofNat,
    Nat.testBit_two_pow_sub_one]
  by_cases from' : positionOf w.addr ≤ j
  · simp [from', show ¬ j < positionOf w.addr by omega, show j - positionOf w.addr < 32 by omega]
    omega
  · simp [from', show j < positionOf w.addr by omega]

/-- A write covers an input position, or all its positions are outputs. -/
theorem bitMask_inputs_ne_zero_iff (direction : Positions) (fits : positionOf w.addr + (bitWidth w.kind - 1) < 32) :
    bitMask w &&& ~~~ direction ≠ 0 ↔
      ∃ j, j < bitWidth w.kind ∧ direction.getLsbD (positionOf w.addr + j) = false := by
  rw [← not_iff_not, not_not]
  constructor
  · rintro clear ⟨j, within, input⟩
    have bit := congrArg (fun v : Positions => v.getLsbD (positionOf w.addr + j)) clear
    have below : positionOf w.addr + j < 32 := by omega
    simp only [BitVec.getLsbD_and, BitVec.getLsbD_not, bitMask_getLsbD w below, input] at bit
    simp [below, within] at bit
  · intro outputs
    refine BitVec.eq_of_getLsbD_eq fun j below => ?_
    simp only [BitVec.getLsbD_and, BitVec.getLsbD_not, below, decide_true, Bool.true_and, bitMask_getLsbD w below]
    by_cases within : positionOf w.addr ≤ j ∧ j < positionOf w.addr + bitWidth w.kind
    · have output : direction.getLsbD j = true := by
        by_contra input
        exact outputs ⟨j - positionOf w.addr, by omega, by rw [Nat.add_sub_cancel' within.1]; simpa using input⟩
      simp [output]
    · simp [within]

theorem formedImage_getLsbD (w : BitWork) (writes : isBitWrite w.kind = true) (image : Positions) {j : Nat} (below : j < 32) :
    (formedImage w image).getLsbD j =
      if positionOf w.addr ≤ j ∧ j < positionOf w.addr + bitWidth w.kind then
        match w.kind with
        | .set => true
        | .fieldWrite _ value => value.getLsbD (j - positionOf w.addr)
        | .clear => false
        | .test => false
        | .fieldRead _ => false
      else image.getLsbD j := by
  have mask := bitMask_getLsbD w below
  unfold formedImage
  split
  · next kind => rw [kind] at mask ⊢; split <;> simp_all
  · next kind => rw [kind] at mask ⊢; split <;> simp_all
  · next kind => rw [kind] at mask ⊢; split <;> simp_all
  · next kind => simp [kind, isBitWrite] at writes
  · next kind => simp [kind, isBitWrite] at writes

theorem writePins_getLsbD (st : Station) (image : Positions) (j : Nat) :
    (writePins st image).getLsbD j = (st.direction.getLsbD j && (image.getLsbD j != st.inversion.getLsbD j)) := by
  simp [writePins, inverted, Bool.and_comm]

end

/-! ### A free line takes a slot (R113, R120) -/

section
variable {s v : State} {i : SlotId} {x : Slot} {w : BitWork} {h : ReqHeader}

theorem outstandingPoll_none (noCycle : s.line.cycle = none) : outstandingPoll s = none := by
  simp [outstandingPoll, noCycle]

theorem lineArbiterFor_busy (fuel : Nat) (busy : s.line.op ≠ none) : lineArbiterFor fuel s = s := by
  cases fuel with
  | zero => rfl
  | succ fuel => rw [lineArbiterFor, if_neg busy]

theorem lineArbiterFor_nothing (fuel : Nat) (empty : s.line.queue = []) (noCycle : s.line.cycle = none) :
    lineArbiterFor fuel s = s := by
  cases fuel with
  | zero => rfl
  | succ fuel => simp [lineArbiterFor, empty, outstandingPoll_none noCycle]

theorem lineArbiterFor_takes {rest : List SlotId} (fuel : Nat) (idle : s.line.op = none) (queue : s.line.queue = i :: rest)
    (noCycle : s.line.cycle = none) :
    lineArbiterFor (fuel + 1) s = lineArbiterFor fuel (takeBitSlot i (s.setLine s.line.dequeue)) := by
  rw [lineArbiterFor, if_pos idle, queue, outstandingPoll_none noCycle] <;> rfl

theorem lineArbiter_single (idle : s.line.op = none) (queue : s.line.queue = [i]) (noCycle : s.line.cycle = none) :
    lineArbiter s = lineArbiterFor 1 (takeBitSlot i (s.setLine { s.line with queue := [] })) := by
  have taken : s.line.dequeue = { s.line with queue := [] } := by simp [LineUnit.dequeue, queue]
  rw [lineArbiter, lineArbiterFor_takes _ idle queue noCycle, queue, taken]
  rfl

theorem bitWorkOf_eq_some (held : row s.slots i = some x) (work : x.work = .bit w) : bitWorkOf s i = some w := by
  simp [bitWorkOf, held, work]

theorem takeBitSlot_refused {code : FaultCode} (held : row s.slots i = some x) (work : x.work = .bit w)
    (check : issueCheck (row s.stations (stationOf w.addr)) w = .refused code) :
    takeBitSlot i s = failSlot i code (s.setSlot i (some { x with state := .active })) := by
  simp [takeBitSlot, held, bitWorkOf_eq_some held work, check]

theorem takeBitSlot_started {command : LineCommand} (held : row s.slots i = some x) (work : x.work = .bit w)
    (check : issueCheck (row s.stations (stationOf w.addr)) w = .started command) :
    takeBitSlot i s = (s.setSlot i (some { x with state := .active })).setLine { s.line with
      op := some { station := stationOf w.addr, command := command, origin := .request i }, previous := .request } := by
  simp [takeBitSlot, held, bitWorkOf_eq_some held work, check]

end

end Sys2Proof.Machine
end

section
/-! PROOFS. A bit request taken by a free line (R113): checked at issue, or started. -/

namespace Sys2Proof.Machine

-- one proof at a time: the text is compiled whole, in one process whose threads share its memory limit
set_option Elab.async false

section
variable {h : ReqHeader} {s v : State} {i : SlotId} {w : BitWork}

/-- The free line takes the one slot that waits. -/
theorem QueuedOnLine.takes (queued : QueuedOnLine s i h w v) (idle : s.line.op = none) (empty : s.line.queue = [])
    (noCycle : s.line.cycle = none) :
    lineArbiter v = lineArbiterFor 1 (takeBitSlot i (v.setLine s.line)) := by
  have line : { v.line with queue := [] } = s.line := by rw [queued.line, ← empty]
  rw [lineArbiter_single (i := i) (by rw [queued.line]; exact idle) (by rw [queued.line, empty]; rfl)
    (by rw [queued.line]; exact noCycle), line]

theorem QueuedOnLine.held (queued : QueuedOnLine s i h w v) :
    row v.slots i = some { filledSlot s h (.bit w) .queued false with role := roleDue s h } := by
  rw [queued.slots, row_putRow_self]

/-- The release of a slot undoes its allocation, where its initiator is NORMAL (R32, R37). -/
theorem Released.undoes {u t : State} {x : Slot} {m : Message} (released : Released u t i x m)
    (allocated : Allocated s u x.initiator i x) (normal : (row s.initiators x.initiator).mode = .normal)
    (up : u.link.state = .up) (due : x.answered = false ∧ x.suppressed = false) :
    t.slots = s.slots ∧ t.initiators = s.initiators ∧ t.link.outbound = u.link.outbound ++ [m] := by
  obtain ⟨free, slots, -, initiators⟩ := allocated
  obtain ⟨slots', initiators', -, -, -, outbound⟩ := released
  have goesOn : ¬ EndsAbandonment u x.initiator := by simp [initiators, normal]
  refine ⟨?_, ?_, ?_⟩
  · rw [slots', slots, putRow_putRow_self, ← free, putRow_row_self]
  · rw [initiators', if_neg goesOn, initiators]
    simp only [putRow_putRow_self, row_putRow_self, Nat.add_sub_cancel]
    exact putRow_row_self ..
  · rw [outbound, abandonAnswer_nothing goesOn]
    simp [due, up]

/-- A request outside any chain that is refused at issue leaves the line free, and its slot FREE again. -/
theorem QueuedOnLine.refused {code : FaultCode} (queued : QueuedOnLine s i h w v) (admitted : Admitted s h)
    (free : row s.slots i = none) (lone : h.mark = .none) (idle : s.line.op = none) (empty : s.line.queue = [])
    (noCycle : s.line.cycle = none) (check : issueCheck (row s.stations (stationOf w.addr)) w = .refused code) :
    (lineArbiter v).acceptCounter = s.acceptCounter + 1 ∧
      OnlyHands s { lineArbiter v with acceptCounter := s.acceptCounter }
        (plainResponse h.initiator h.tag (.fault code)) := by
  obtain ⟨regions, ports, stations, events, management⟩ := queued.others
  have chains : v.chains = s.chains := by rw [queued.chains, chainsWithHead, if_neg (by simp [lone])]
  have noRole : roleDue s h = .none := by simp [roleDue, lone]
  have held := queued.held
  rw [noRole] at held
  generalize taken : (v.setLine s.line).setSlot i (some (filledSlot s h (.bit w) .active false)) = u
  have issued : takeBitSlot i (v.setLine s.line) = finishSlot i (.fault code) u := by
    rw [takeBitSlot_refused (s := v.setLine s.line) held rfl (by rw [State.setLine_stations, stations]; exact check), ← taken]
    exact failSlot_lone (x := filledSlot s h (.bit w) .active false) (by simp [filledSlot]) rfl code
  have allocated : Allocated s u h.initiator i (filledSlot s h (.bit w) .active false) :=
    enteredState_allocated free h (.bit w) (by simp [← taken, queued.slots]) (by rw [← taken]; exact queued.acceptCounter)
      (by rw [← taken]; exact queued.initiators)
  have link : u.link = v.link := by rw [← taken]; rfl
  obtain ⟨released, regions', management'⟩ := finishSlot_bit (s := u) (i := i) (x := filledSlot s h (.bit w) .active false)
    (by simp [← taken]) rfl rfl (.fault code)
  obtain ⟨slots, initiators, outbound⟩ := released.undoes allocated admitted.normal
    (by rw [link]; exact queued.receiver.1.trans admitted.up) ⟨rfl, rfl⟩
  obtain ⟨-, -, counter, chains', receiver, -⟩ := released
  have line : (finishSlot i (.fault code) u).line = s.line := by simp [← taken]
  rw [queued.takes idle empty noCycle, issued, lineArbiterFor_nothing 1 (by rw [line]; exact empty) (by rw [line]; exact noCycle)]
  refine ⟨counter.trans allocated.2.2.1, ?_, ?_, ?_, slots, initiators, rfl⟩
  · show (finishSlot i (.fault code) u).link.outbound = _
    rw [outbound, loneResponse_plain (.inl rfl), link, queued.outbound]
    rfl
  · have before := queued.receiver
    simp only [SameReceiver, link] at before receiver ⊢
    simpa [before] using receiver
  · refine ⟨?_, ?_, ?_, ?_, line, ?_, ?_⟩
    · rw [regions', ← taken]; exact regions
    · rw [chains', ← taken]; exact chains
    · simp [← taken, ports]
    · simp [← taken, stations]
    · simp [← taken, events]
    · rw [management', ← taken]; exact management

/-- An admitted request whose checks at issue pass starts its operation. -/
theorem QueuedOnLine.started {command : LineCommand} (queued : QueuedOnLine s i h w v) (free : row s.slots i = none)
    (idle : s.line.op = none) (empty : s.line.queue = []) (noCycle : s.line.cycle = none)
    (check : issueCheck (row s.stations (stationOf w.addr)) w = .started command) :
    Allocated s (lineArbiter v) h.initiator i { filledSlot s h (.bit w) .active false with role := roleDue s h } ∧
      (lineArbiter v).line = { s.line with
        op := some { station := stationOf w.addr, command := command, origin := .request i }, previous := .request } ∧
      (lineArbiter v).link = v.link ∧ (lineArbiter v).chains = v.chains ∧
      (lineArbiter v).regions = s.regions ∧ (lineArbiter v).ports = s.ports ∧ (lineArbiter v).stations = s.stations ∧
      (lineArbiter v).events = s.events ∧ (lineArbiter v).management = s.management := by
  obtain ⟨regions, ports, stations, events, management⟩ := queued.others
  rw [queued.takes idle empty noCycle,
    takeBitSlot_started (s := v.setLine s.line) queued.held rfl (by rw [State.setLine_stations, stations]; exact check),
    lineArbiterFor_busy 1 (by simp)]
  refine ⟨enteredState_allocated free h (.bit w) ?_ ?_ ?_, ?_⟩
  · simp only [State.setLine_slots, State.setSlot_slots, queued.slots, putRow_putRow_self]
    rfl
  · simpa using queued.acceptCounter
  · simpa using queued.initiators
  · simp [regions, ports, stations, events, management]

/-! ### The checks at issue -/

variable {st : Station}

theorem issueCheck_noStation (gone : st.presence = .disabled ∨ st.presence = .absent) (w : BitWork) :
    issueCheck st w = .refused .noStation := by
  simp [issueCheck, gone]

theorem issueCheck_direction (there : st.presence = .unknown ∨ st.presence = .present) (writes : isBitWrite w.kind = true)
    (input : bitMask w &&& ~~~ st.direction ≠ 0) : issueCheck st w = .refused .direction := by
  have : ¬(st.presence = .disabled ∨ st.presence = .absent) := by rcases there with h | h <;> simp [h]
  rw [issueCheck, if_neg this, if_pos ⟨writes, input⟩]

theorem issueCheck_started (there : st.presence = .unknown ∨ st.presence = .present)
    (outputs : isBitWrite w.kind = true → ¬ bitMask w &&& ~~~ st.direction ≠ 0) :
    issueCheck st w = .started (lineCommandOf st w) := by
  have : ¬(st.presence = .disabled ∨ st.presence = .absent) := by rcases there with h | h <;> simp [h]
  rw [issueCheck, if_neg this, if_neg fun both => outputs both.1 both.2]

theorem lineCommandOf_read (reads : isBitWrite w.kind = false) (st : Station) : lineCommandOf st w = .readStation := by
  simp [lineCommandOf, reads]

theorem lineCommandOf_write (writes : isBitWrite w.kind = true) (st : Station) :
    lineCommandOf st w =
      .writeStation st.direction (writePins st (formedImage w st.image)) (formedImage w st.image) := by
  simp [lineCommandOf, writes]

/-- Settles O17: by the checks at issue, which the free line makes in the event of the acceptance. -/
theorem bitRequestIsCheckedAtIssue : Obligations.BitRequestIsCheckedAtIssue := by
  unfold Obligations.BitRequestIsCheckedAtIssue
  intro h kind addr n st body s u fits named arrival admitted inRange idle empty noCycle number hst
  subst hst
  obtain ⟨i, free, run⟩ := exec_bitCommand fits named arrival admitted inRange
  have admitted := arrival.admitted admitted
  obtain ⟨rx, rfl⟩ := arrival.exists_rx
  have opened : TailOpen s s.line.queue := fun q hq => by rw [empty] at hq; cases hq
  generalize hw : ({ kind := kind, addr := BitVec.ofNat 9 addr.toNat } : BitWork) = w at run
  obtain ⟨v, joined, queued⟩ := joinDestination_queuedOnLine admitted free opened w
  rw [joined] at run
  have station : stationOf w.addr = n := by rw [← hw]; exact stationOf_ofNat inRange.1 number
  have position : positionOf w.addr = addr.toNat % 32 := by rw [← hw]; exact positionOf_ofNat inRange.1
  have kind' : w.kind = kind := by rw [← hw]
  have inputs := bitMask_inputs_ne_zero_iff (w := w) (row s.stations n).direction
    (by rw [position, kind']; exact inRange.2)
  rw [position, kind'] at inputs
  refine ⟨?noStation, ?direction, ?started⟩
  case noStation =>
    intro lone gone
    obtain ⟨counter, hands⟩ := queued.refused admitted free lone idle empty noCycle (code := .noStation)
      (by rw [station]; exact issueCheck_noStation gone w)
    exact ⟨_, run, counter, hands⟩
  case direction =>
    intro lone there writes input
    obtain ⟨counter, hands⟩ := queued.refused admitted free lone idle empty noCycle (code := .direction)
      (by rw [station]; exact issueCheck_direction there (by rw [kind']; exact writes) (inputs.mpr input))
    exact ⟨_, run, counter, hands⟩
  case started =>
    intro there outputs
    have noInput : isBitWrite w.kind = true → ¬ bitMask w &&& ~~~ (row s.stations n).direction ≠ 0 := by
      rw [kind', inputs]
      rintro writes ⟨j, within, input⟩
      simp [outputs writes j within] at input
    obtain ⟨allocated, line, link, chains, regions, ports, stations, events, management⟩ :=
      queued.started free idle empty noCycle (by rw [station]; exact issueCheck_started there noInput)
    refine ⟨_, i, lineCommandOf (row s.stations n) w, run, allocated, ?_, ?_, ?_, regions, chains.trans queued.chains, ports, stations, events, management,
      fun reads => lineCommandOf_read (by rw [kind']; exact reads) _, fun writes => ?_⟩
    · rw [line, station]; rfl
    · rw [link]; exact queued.outbound
    · rw [SameReceiver, link]; exact queued.receiver
    · rw [← kind'] at writes
      refine ⟨_, _, lineCommandOf_write writes _, fun j below => ?_, fun j _ => writePins_getLsbD _ _ j⟩
      rw [formedImage_getLsbD w writes _ below, position, kind'] <;> rfl

end

end Sys2Proof.Machine
end

section
/-! PROOFS. What a refused chain member leaves in its context (R30, R94 to R96, R100, R102, R103). -/

namespace Sys2Proof.Machine

-- one proof at a time: the text is compiled whole, in one process whose threads share its memory limit
set_option Elab.async false

section
variable {h : ReqHeader} {s u : State} {a : Answer} {c d : Chain}

/-! ### The answer of a member that its chain does not take -/

theorem answerKey_setChain_onlyHands (up : s.link.state = .up) (a : Answer) (summary : Option Summary) (d e : Chain) :
    OnlyHands s
      { ((answerKey h.initiator h.tag a summary (s.setChain h.initiator d)).setChain h.initiator e) with chains := s.chains }
      (.response { initiator := h.initiator, tag := h.tag, answer := a, partialMarker := false, summary := summary }) := by
  obtain ⟨outbound, receiver, ⟨regions, -, ports, stations, line, events, management⟩, slots, initiators, counter⟩ :=
    handOver_onlyHands (s := s.setChain h.initiator d) up
      (.response { initiator := h.initiator, tag := h.tag, answer := a, partialMarker := false, summary := summary })
  exact ⟨outbound, receiver, ⟨regions, rfl, ports, stations, line, events, management⟩, slots, initiators, counter⟩

/-- A MEMBER that is refused leaves the context that takes account of it. -/
theorem answerMember_member (up : s.link.state = .up) (mark : h.mark = .member) (a : Answer) (d : Chain) :
    OnlyHands s { answerMember h a (s.setChain h.initiator d) with chains := s.chains }
        (plainResponse h.initiator h.tag a) ∧
      (answerMember h a (s.setChain h.initiator d)).chains = putRow s.chains h.initiator d := by
  have answered : answerMember h a (s.setChain h.initiator d) =
      answerKey h.initiator h.tag a none (s.setChain h.initiator d) := if_neg (by simp [mark])
  rw [answered]
  exact ⟨answerKey_setChain_onlyHands up a none d d, by simp⟩

theorem sweepChain_nothing {k : Initiator} (settled : ∀ i, i ∈ (row s.chains k).members → isWaiting s i = false) :
    sweepChain k s = s := by
  have none_waits : (row s.chains k).members.filter (isWaiting s) = [] :=
    List.filter_eq_nil_iff.mpr fun i member => by simp [settled i member]
  rw [sweepChain, none_waits]
  rfl

/-- A LAST that is refused carries the summary and closes its chain. -/
theorem answerMember_last (up : s.link.state = .up) (mark : h.mark = .last) (a : Answer) {d : Chain}
    (settled : ∀ i, i ∈ d.members → isWaiting s i = false) :
    OnlyHands s { answerMember h a (s.setChain h.initiator d) with chains := s.chains }
        (.response { initiator := h.initiator, tag := h.tag, answer := a, partialMarker := false,
                     summary := some { count := d.count, failure := d.failure } }) ∧
      (answerMember h a (s.setChain h.initiator d)).chains = putRow s.chains h.initiator Chain.closed := by
  have held : row (s.setChain h.initiator d).chains h.initiator = d := by simp
  have swept : sweepChain h.initiator (s.setChain h.initiator d) = s.setChain h.initiator d :=
    sweepChain_nothing fun i member => settled i (by rwa [held] at member)
  have answered : answerMember h a (s.setChain h.initiator d) =
      (answerKey h.initiator h.tag a (some { count := d.count, failure := d.failure })
        (s.setChain h.initiator d)).setChain h.initiator Chain.closed := by
    rw [answerMember, if_pos mark, closeAtRefusal]
    simp only [swept, chainSummary, held]
  rw [answered]
  exact ⟨answerKey_setChain_onlyHands up a _ d _, by simp⟩

/-! ### What the acceptance order decides of a member -/

theorem chainVerdict_lastHeld (held : c.lastHeld = true) : chainVerdict c = some (.refused .defer) := by
  simp [chainVerdict, held]

theorem chainVerdict_failed (noLast : c.lastHeld = false) (failed : c.state = .failed) : chainVerdict c = some .skipped := by
  simp [chainVerdict, noLast, failed]

theorem chainVerdict_full (noLast : c.lastHeld = false) (opened : c.state = .opened) (full : c.count = 255) :
    chainVerdict c = some .chainLong := by
  simp [chainVerdict, noLast, opened, full, Config.maxChainMembers]

theorem judge_chainVerdict {r : Parsed} {v : Verdict} (normal : (row s.initiators h.initiator).mode = .normal)
    (unmarked : badMark h.mark r = false) (other : r ≠ .abandon) (free : KeyFree s h) (member : isMemberMark h.mark = true)
    (verdict : chainVerdict (row s.chains h.initiator) = some v) : judge s h (some r) = v := by
  rw [judge_from3 normal unmarked other]
  simp [verdictFrom3, free.slotOfKey, member, verdict]

/-- The faults of the region map that a READ or a WRITE can meet are those its chain records (R30). -/
theorem RegionRefuses.recorded {k : Initiator} {kind : PortKind} {addr : Addr} {width : Width} {code : FaultCode}
    (refuses : RegionRefuses s k kind addr width (.fault code)) (chained : kind = .read ∨ ∃ d, kind = .write d) :
    chainRecords code = true := by
  have noLock : kind ≠ .lockRead := by rcases chained with rfl | ⟨d, rfl⟩ <;> simp
  have noUnlock : ∀ d, kind ≠ .unlockWrite d := by rcases chained with rfl | ⟨d, rfl⟩ <;> simp
  rcases refuses with ⟨-, e⟩ | ⟨e, r, -, -, ⟨-, e⟩ | ⟨-, -, e⟩ | ⟨-, -, ⟨-, e⟩ | ⟨-, -, -, e⟩ |
    ⟨-, -, ⟨lock, -⟩ | ⟨lock, -⟩ | ⟨d, unlock, -⟩ | ⟨d, l, unlock, -⟩⟩⟩⟩
  · cases e; rfl
  · cases e
  · cases e; rfl
  · cases e; rfl
  · cases e; rfl
  · exact absurd lock noLock
  · exact absurd lock noLock
  · exact absurd unlock (noUnlock d)
  · exact absurd unlock (noUnlock d)

theorem chained_of_mark {kind : PortKind} {addr : Addr} {width : Width} (member : isMemberMark h.mark = true)
    (unmarked : badMark h.mark (.port kind addr width) = false) : kind = .read ∨ ∃ d, kind = .write d := by
  cases kind with
  | read => exact .inl rfl
  | write d => exact .inr ⟨d, rfl⟩
  | lockRead => simp [badMark, member, allowsChain] at unmarked
  | unlockWrite d => simp [badMark, member, allowsChain] at unmarked

theorem request_of_mark {r : Parsed} (member : isMemberMark h.mark = true) (unmarked : badMark h.mark r = false) :
    r ≠ .abandon := by
  rintro rfl
  simp [badMark, member, allowsChain] at unmarked

/-! ### What the refusals record -/

theorem receiveMember_failed (failed : c.state = .failed) :
    receiveMember c = { c with count := if c.count < 255 then c.count + 1 else c.count } := by
  simp only [receiveMember, failed, reduceCtorEq, if_false]
  rfl

theorem recordFailure_eq (c : Chain) (ordinal : Nat) (code : FaultCode) :
    recordFailure c ordinal code =
      { c with state := .failed, failure := some (c.failure.getD { ordinal := ordinal, code := code }) } := by
  cases failure : c.failure <;> simp [recordFailure, failure]

theorem recordFailure_received (room : c.count < 255) (code : FaultCode) :
    recordFailure (receiveMember c) (receiveMember c).count code =
      { c with state := .failed, count := c.count + 1,
               failure := some (c.failure.getD { ordinal := c.count + 1, code := code }) } := by
  rw [recordFailure_eq, receiveMember_count room]
  simp [receiveMember, Config.maxChainMembers, room]

/-- A verdict with which a member is answered and its chain's context becomes `d`. -/
structure ChainAnswers (h : ReqHeader) (c : Chain) (v : Verdict) (a : Answer) (d : Chain) : Prop where
  carried : ∀ s, row s.chains h.initiator = c → carryVerdict h v s = answerMember h a (s.setChain h.initiator d)
  members : d.members = c.members

theorem chainAnswers_skipped (failed : c.state = .failed) :
    ChainAnswers h c .skipped .skipped { c with count := if c.count < 255 then c.count + 1 else c.count } where
  carried s held := by rw [carryVerdict, refuseSkipped, held, receiveMember_failed failed]
  members := rfl

theorem chainAnswers_chainLong (h : ReqHeader) (c : Chain) :
    ChainAnswers h c .chainLong (.fault .chainLong)
      { c with state := .failed, failure := some (c.failure.getD { ordinal := 256, code := .chainLong }) } where
  carried s held := by rw [carryVerdict, refuseChainLong, held, recordFailure_eq]; rfl
  members := rfl

theorem chainAnswers_failed (room : c.count < 255) (code : FaultCode) :
    ChainAnswers h c (.failed code) (.fault code)
      { c with state := .failed, count := c.count + 1,
               failure := some (c.failure.getD { ordinal := c.count + 1, code := code }) } where
  carried s held := by rw [carryVerdict, refuseFailed, held]; simp only [recordFailure_received room]
  members := rfl

/-- A member with such a verdict is answered, and its chain takes account of it. -/
theorem exec_chainAnswers {x : Instr} {body : List Byte} {v : Verdict} (request : requestOf x = some h)
    (named : bodyOf x = some body) (arrival : Arrives body s u) (up : s.link.state = .up)
    (settled : ∀ i, i ∈ (row s.chains h.initiator).members → isWaiting s i = false)
    (judged : judge s h (parsedOf x) = v) (answers : ChainAnswers h (row s.chains h.initiator) v a d) :
    ∃ t, exec x s = .next (selectEvent t) ∧
      (h.mark = .member → OnlyHands u { t with chains := s.chains } (plainResponse h.initiator h.tag a) ∧
        t.chains = putRow s.chains h.initiator d) ∧
      (h.mark = .last →
        OnlyHands u { t with chains := s.chains }
          (.response { initiator := h.initiator, tag := h.tag, answer := a, partialMarker := false,
                       summary := some { count := d.count, failure := d.failure } }) ∧
        t.chains = putRow s.chains h.initiator Chain.closed) := by
  have run := exec_arrives request named arrival up
  rw [arrival.judge, judged] at run
  obtain ⟨rx, rfl⟩ := arrival.exists_rx
  rw [answers.carried (s.setLink { s.link with rx := rx }) rfl] at run
  exact ⟨_, run, fun mark => answerMember_member (s := s.setLink { s.link with rx := rx }) up mark a d,
    fun mark => answerMember_last (s := s.setLink { s.link with rx := rx }) up mark a
      fun i member => settled i (by rwa [answers.members] at member)⟩

/-- Settles O19: by the step of the acceptance order at which the chain does not take its member. -/
theorem chainRefusalsAreRecorded : Obligations.ChainRefusalsAreRecorded := by
  unfold Obligations.ChainRefusalsAreRecorded
  intro h x c body s u wf request named arrival up normal mark free hc settled
  subst hc
  have member : isMemberMark h.mark = true := (isMemberMark_iff _).mpr mark
  obtain ⟨-, r, parsed, unmarked, -⟩ := wf.parsed
  have other := request_of_mark member unmarked
  have opened (unfailed : (row s.chains h.initiator).state ≠ .failed) (noLast : (row s.chains h.initiator).lastHeld = false)
      (room : (row s.chains h.initiator).count < 255) (slot : ∃ i, row s.slots i = none) :
      judge s h (parsedOf x) = verdictOfCheck h.mark (kindCheck s h.initiator r) := by
    rw [parsed]
    exact judge_open normal unmarked other free slot fun _ => chainVerdict_open unfailed noLast room
  have early {v : Verdict} (verdict : chainVerdict (row s.chains h.initiator) = some v) : judge s h (parsedOf x) = v := by
    rw [parsed]; exact judge_chainVerdict normal unmarked other free member verdict
  constructor
  · rintro a (⟨lastHeld, rfl⟩ | ⟨noLast, unfailed, room, slot, step7⟩)
    · exact exec_refused request named arrival up (early (chainVerdict_lastHeld lastHeld))
    · refine exec_refused request named arrival up ?_
      rw [opened unfailed noLast room slot]
      rcases step7 with ⟨kind, addr, width, rfl, fits, rfl, refuses⟩ | ⟨kind, addr, rfl, fits, above, rfl⟩
      · rw [parsedOf_portCommand _ _ _ _ fits] at parsed
        rw [← Option.some.inj parsed, kindCheck, portCheck_refuses refuses]
        rfl
      · rw [parsedOf_bitCommand _ _ _ fits] at parsed
        rw [← Option.some.inj parsed, kindCheck, bitCheck_unfit fun inRange => absurd inRange.1 (by omega), if_pos above]
        simp [verdictOfCheck, chainRecords]
  · rintro a d (⟨noLast, failed, rfl, rfl⟩ | ⟨noLast, isOpen, full, rfl, rfl⟩ |
      ⟨noLast, unfailed, room, slot, code, rfl, rfl, step7⟩)
    · exact exec_chainAnswers request named arrival up settled (early (chainVerdict_failed noLast failed))
        (chainAnswers_skipped failed)
    · exact exec_chainAnswers request named arrival up settled (early (chainVerdict_full noLast isOpen full))
        (chainAnswers_chainLong h _)
    · refine exec_chainAnswers request named arrival up settled ?_ (chainAnswers_failed room code)
      rw [opened unfailed noLast room slot]
      rcases step7 with ⟨kind, addr, width, rfl, fits, refuses⟩ | ⟨kind, addr, rfl, fits, low, beyond, rfl⟩
      · rw [parsedOf_portCommand _ _ _ _ fits] at parsed
        obtain rfl := Option.some.inj parsed
        rw [kindCheck, portCheck_refuses refuses]
        simp [verdictOfCheck, member, refuses.recorded (chained_of_mark member unmarked)]
      · rw [parsedOf_bitCommand _ _ _ fits] at parsed
        rw [← Option.some.inj parsed, kindCheck, bitCheck_unfit fun inRange => absurd inRange.2 (by omega),
          if_neg (by omega)]
        simp [verdictOfCheck, member, chainRecords]

end

end Sys2Proof.Machine
end

section
/-! PROOFS. MANAGE operations that answer in their own event (R139): what is common to all of them, the read operations (R146 to R148,
R153), LOAD-REGION (R142), RETIRE-REGION (R143) and SET-EVENT (R150). -/

namespace Sys2Proof.Machine

-- one proof at a time: the text is compiled whole, in one process whose threads share its memory limit
set_option Elab.async false

section
variable {h : ReqHeader} {op : ManageOp} {body : List Byte} {s u v : State} {i : SlotId} {c : Claim} {a : Answer}

/-! ### A claim that leaves the requests alone -/

/-- A claim that answers, leaves the requests in the part alone, and hands over at most. -/
structure SteadyClaim (v : State) (c : Claim) (a : Answer) : Prop where
  answer : c.answer = some a
  slots : c.state.slots = v.slots
  initiators : c.state.initiators = v.initiators
  acceptCounter : c.state.acceptCounter = v.acceptCounter
  chains : c.state.chains = v.chains
  linkState : c.state.link.state = v.link.state
  resetCount : c.state.link.resetCount = v.link.resetCount
  outbound : v.link.outbound <+: c.state.link.outbound

theorem SteadyClaim.unchanged (v : State) (a : Answer) : SteadyClaim v (unchanged v a) a := by constructor <;> simp [Machine.unchanged]

/-- Between two selections, the end of a steady claim answers its slot and makes it FREE (R139). -/
theorem SteadyClaim.conclude (steady : SteadyClaim v c a) (taken : TakenFrom s i h op v) (served : Served s h) :
    concludeClaim i c =
      freeSlotOf i h.initiator (answerSlot i (filledSlot s h (.manage op) .active false) a (selectEvent c.state)) := by
  obtain ⟨-, normal, -⟩ := served
  obtain ⟨-, table, -, records⟩ := taken.allocated
  have held : row (selectEvent c.state).slots i = some (filledSlot s h (.manage op) .active false) := by
    simp [steady.slots, table]
  have still : (row (selectEvent c.state).initiators h.initiator).mode = .normal := by
    simp [steady.initiators, records, normal]
  simp only [concludeClaim, steady.answer]
  exact finishSlot_manage held rfl rfl still a

theorem SteadyClaim.answered (steady : SteadyClaim v c a) (taken : TakenFrom s i h op v) (served : Served s h) :
    ManageAnswered s (selectEvent (concludeClaim i c)) h a := by
  have up : (selectEvent c.state).link.state = .up := by simp [steady.linkState, taken.linkState, served.1]
  obtain ⟨-, -, counter, -⟩ := taken.allocated
  obtain ⟨y, written⟩ := answerSlot_slots i (filledSlot s h (.manage op) .active false) a (selectEvent c.state)
  obtain ⟨slots, initiators⟩ :=
    taken.allocated.freed (w := answerSlot i (filledSlot s h (.manage op) .active false) a (selectEvent c.state))
      ⟨y, by simp [written, steady.slots]⟩ (by simp [steady.initiators])
  have before : s.link.outbound <+: (selectEvent c.state).link.outbound :=
    selectEvent_grows _ (taken.outbound ▸ steady.outbound)
  rw [steady.conclude taken served]
  refine ⟨by simpa using slots, by simpa using initiators, ?_, ?_, ?_, ?_, .of_grows before (selectEvent_grows _ ?_)⟩
  · simp [steady.acceptCounter, counter]
  · simp [steady.chains, taken.chains]
  · simp [steady.linkState, taken.linkState]
  · simp [steady.resetCount, taken.resetCount]
  · simp [answerSlot_outbound up]

/-- The blocks that no answer touches. -/
def SameStores (s t : State) : Prop :=
  t.regions = s.regions ∧ t.ports = s.ports ∧ t.line = s.line ∧ t.management.managers = s.management.managers ∧
    t.management.retires = s.management.retires

/-- After a steady claim only selections follow in the event unit, and nothing in the other blocks. -/
theorem SteadyClaim.effects (steady : SteadyClaim v c a) (taken : TakenFrom s i h op v) (served : Served s h) :
    OnlySelection c.state (selectEvent (concludeClaim i c)) ∧ SameStores c.state (selectEvent (concludeClaim i c)) := by
  have concluded : OnlySelection (selectEvent c.state) (concludeClaim i c) := by
    rw [steady.conclude taken served]
    exact .of_eq (by simp) (by simp)
  refine ⟨((selectEvent_onlySelection _).trans concluded).trans (selectEvent_onlySelection _), ?_⟩
  rw [steady.conclude taken served]
  simp [SameStores]

/-- A MANAGE operation whose claim is steady is carried out and answered in the event that accepts it (R139). -/
theorem exec_steady (named : bodyOf (manageCommand h op) = some body) (arrival : Arrives body s u) (served : ManageServed s h)
    (steady : ∀ i v, TakenFrom s i h op v → SteadyClaim v (claimOf op h.initiator h.tag v) a) :
    ∃ i v t, TakenFrom s i h op v ∧ exec (manageCommand h op) s = .next t ∧ ManageAnswered s t h a ∧
      OnlySelection (claimOf op h.initiator h.tag v).state t ∧ SameStores (claimOf op h.initiator h.tag v).state t := by
  obtain ⟨i, v, taken, run⟩ := exec_manageCommand named arrival served
  obtain ⟨served, -⟩ := served
  have steady := steady i v taken
  obtain ⟨selection, stores⟩ := steady.effects taken served
  exact ⟨i, v, _, taken, run, steady.answered taken served, selection, stores⟩

theorem TakenFrom.stores (taken : TakenFrom s i h op v) : SameStores s v :=
  ⟨taken.regions, taken.ports, taken.line, taken.managers, taken.retires⟩

theorem TakenFrom.onlySelection (taken : TakenFrom s i h op v) : OnlySelection s v := .of_eq taken.events taken.stations

theorem SameStores.trans {t : State} (sv : SameStores s v) (vt : SameStores v t) : SameStores s t := by
  obtain ⟨regions, ports, line, managers, retires⟩ := sv
  obtain ⟨regions', ports', line', managers', retires'⟩ := vt
  exact ⟨regions'.trans regions, ports'.trans ports, line'.trans line, managers'.trans managers, retires'.trans retires⟩

/-- A MANAGE operation whose claim changes nothing is answered, and nothing else changes but by a selection. -/
theorem exec_unchanged (named : bodyOf (manageCommand h op) = some body) (arrival : Arrives body s u) (served : ManageServed s h)
    (claim : ∀ i v, TakenFrom s i h op v → claimOf op h.initiator h.tag v = unchanged v a) :
    ∃ t, exec (manageCommand h op) s = .next t ∧ ManageAnswered s t h a ∧ OnlySelection s t ∧ SameStores s t := by
  obtain ⟨i, v, t, taken, run, answered, selection, stores⟩ := exec_steady (a := a) named arrival served fun i v taken => by
    rw [claim i v taken]; exact .unchanged v a
  rw [claim i v taken] at selection stores
  exact ⟨t, run, answered, taken.onlySelection.trans selection, taken.stores.trans stores⟩

/-! ### Numbers in range (R140) -/

theorem portOf_eq_some {p : PortId} {b : Byte} (number : p.val = b.toNat) : portOf b = some p := by
  simp [portOf, ← number]

theorem portOf_eq_none {b : Byte} (above : 3 < b.toNat) : portOf b = none := by
  simp [portOf]; omega

theorem stationNumber_eq_some {n : StationId} {b : Byte} (number : n.val = b.toNat) : stationNumber b = some n := by
  simp [stationNumber, ← number]

theorem stationNumber_eq_none {b : Byte} (above : 15 < b.toNat) : stationNumber b = none := by
  simp [stationNumber]; omega

/-! ### The read operations -/

theorem claimReadRegion_eq (number : Byte) (v : State) :
    claimReadRegion number v = unchanged v (match entryOf number with
      | none => .fault .badValue
      | some e => .data (.record (.region (row v.regions e)))) := by
  unfold claimReadRegion
  cases entryOf number <;> rfl

theorem claimReadPort_eq (number : Byte) (v : State) :
    claimReadPort number v = unchanged v (match portOf number with
      | none => .fault .badValue
      | some p => .data (.record (.port (portReport (row v.ports p))))) := by
  unfold claimReadPort
  cases portOf number <;> rfl

theorem claimReadStation_eq (number : Byte) (v : State) :
    claimReadStation number v = unchanged v (match stationNumber number with
      | none => .fault .badValue
      | some n => .data (.record (.station (row v.stations n)))) := by
  unfold claimReadStation
  cases stationNumber number <;> rfl

/-- Settles O24: each read operation's claim changes nothing. -/
theorem readOperationsReturnTheRecord : Obligations.ReadOperationsReturnTheRecord := by
  unfold Obligations.ReadOperationsReturnTheRecord
  rintro h number op body s u named arrival served (rfl | rfl | rfl)
  · obtain ⟨t, run, answered, selection, stores⟩ := exec_unchanged named arrival served fun i v taken => by
      rw [claimOf, claimReadRegion_eq, taken.regions]
    obtain ⟨regions, ports, line, managers, retires⟩ := stores
    refine ⟨t, _, run, answered, selection, regions, ports, line, managers, retires, fun _ e number => ?_,
      fun wrong => (by cases wrong), fun wrong => (by cases wrong), ?_⟩
    · rw [entryOf_eq_some number]
    · rintro (⟨-, above⟩ | ⟨wrong, -⟩ | ⟨wrong, -⟩)
      · rw [entryOf_eq_none above]
      · cases wrong
      · cases wrong
  · obtain ⟨t, run, answered, selection, stores⟩ := exec_unchanged named arrival served fun i v taken => by
      rw [claimOf, claimReadPort_eq, taken.ports]
    obtain ⟨regions, ports, line, managers, retires⟩ := stores
    refine ⟨t, _, run, answered, selection, regions, ports, line, managers, retires, fun wrong => (by cases wrong),
      fun _ p number => ?_, fun wrong => (by cases wrong), ?_⟩
    · rw [portOf_eq_some number]; rfl
    · rintro (⟨wrong, -⟩ | ⟨-, above⟩ | ⟨wrong, -⟩)
      · cases wrong
      · rw [portOf_eq_none above]
      · cases wrong
  · obtain ⟨t, run, answered, selection, stores⟩ := exec_unchanged named arrival served fun i v taken => by
      rw [claimOf, claimReadStation_eq, taken.stations]
    obtain ⟨regions, ports, line, managers, retires⟩ := stores
    refine ⟨t, _, run, answered, selection, regions, ports, line, managers, retires, fun wrong => (by cases wrong),
      fun wrong => (by cases wrong), fun _ n number => ?_, ?_⟩
    · rw [stationNumber_eq_some number]
    · rintro (⟨wrong, -⟩ | ⟨wrong, -⟩ | ⟨-, above⟩)
      · cases wrong
      · cases wrong
      · rw [stationNumber_eq_none above]

/-! ### READ-OCCUPANCY (R153) -/

theorem freeSlotCount_of_allocated {x : Slot} {k : Initiator} (allocated : Allocated s v k i x) :
    freeSlotCount v = ((List.finRange 32).countP fun j => (row s.slots j).isNone) - 1 := by
  obtain ⟨free, slots, -, -⟩ := allocated
  have one := countP_finRange_add i (fun j => (row s.slots j).isNone) (fun j => (row v.slots j).isNone) fun j other => by
    rw [slots, row_putRow_ne _ _ _ _ other]
  have here : (row v.slots i).isNone = false := by simp [slots]
  simp only [freeSlotCount, free, here, Option.isNone_none] at one ⊢
  simp at one
  omega

theorem row_allocated_occupancy {x : Slot} {k : Initiator} (allocated : Allocated s v k i x) (j : Initiator) :
    (row v.initiators j).occupancy = (row s.initiators j).occupancy + (if j = k then 1 else 0) ∧
      (row v.initiators j).mode = (row s.initiators j).mode := by
  obtain ⟨-, -, -, initiators⟩ := allocated
  rw [initiators, row_putRow]
  split
  · next same => simp [same]
  · simp

/-- Settles O35: the counts are read with the operation's own slot allocated. -/
theorem readOccupancyCountsItsOwnSlot : Obligations.ReadOccupancyCountsItsOwnSlot := by
  unfold Obligations.ReadOccupancyCountsItsOwnSlot
  intro h body s u named arrival served
  obtain ⟨t, run, answered, selection, regions, ports, line, managers, retires⟩ :=
    exec_unchanged named arrival served fun i v taken => by
      simp only [claimOf, claimReadOccupancy, returned, freeSlotCount_of_allocated taken.allocated,
        row_allocated_occupancy taken.allocated]
      rfl
  exact ⟨t, run, selection, regions, ports, line, managers, retires, answered⟩

end

end Sys2Proof.Machine
end

section
/-! PROOFS. LOAD-REGION and RETIRE-REGION (R142, R143). -/

namespace Sys2Proof.Machine

-- one proof at a time: the text is compiled whole, in one process whose threads share its memory limit
set_option Elab.async false

section
variable {h : ReqHeader} {op : ManageOp} {body : List Byte} {s u v : State} {i : SlotId} {c : Claim} {a : Answer}

/-! ### The operands of LOAD-REGION (R140, R142, R163) -/

theorem entryOf_ofNat (e : EntryId) : entryOf (BitVec.ofNat 8 e.val) = some e :=
  entryOf_eq_some (by rw [BitVec.toNat_ofNat]; have := e.isLt; omega)

theorem portOf_ofNat (p : PortId) : portOf (BitVec.ofNat 8 p.val) = some p :=
  portOf_eq_some (by rw [BitVec.toNat_ofNat]; have := p.isLt; omega)

theorem yesNoOf_yesNo (b : Bool) : yesNoOf (yesNo b) = some b := by cases b <;> rfl

theorem completionOf_fixed {d : Nat} (range : 1 ≤ d ∧ d ≤ 63) : completionOf 0 (BitVec.ofNat 8 d) = some (.fixed d) := by
  have exact' : (BitVec.ofNat 8 d).toNat = d := by rw [BitVec.toNat_ofNat]; omega
  rw [completionOf, if_pos rfl, exact', if_pos range]

theorem completionOf_ready {t : Nat} (range : 1 ≤ t ∧ t ≤ 255) : completionOf 1 (BitVec.ofNat 8 t) = some (.ready t) := by
  have exact' : (BitVec.ofNat 8 t).toNat = t := by rw [BitVec.toNat_ofNat]; omega
  rw [completionOf, if_neg (by decide), if_pos rfl, exact', if_pos range.1]

theorem windowOk_of_fieldsOk {f : RegionFields} (ok : FieldsOk f) : windowOk f = true := by
  obtain ⟨base, limit, size, target, last, -⟩ := ok
  simp only [windowOk, Bool.and_eq_true, decide_eq_true_eq]
  exact ⟨⟨⟨⟨base, limit⟩, size⟩, target⟩, last⟩

/-- The operands that spell a record's fields are read as these fields. -/
theorem loadFields_loadOperandsFor {f : RegionFields} (ok : FieldsOk f) (e : EntryId) :
    loadFields (loadOperandsFor e f) = some f := by
  have window := windowOk_of_fieldsOk ok
  obtain ⟨-, -, -, -, -, time⟩ := ok
  have completion : completionOf (loadOperandsFor e f).completionKind (loadOperandsFor e f).completionTime =
      some f.completion := by
    cases kind : f.completion with
    | fixed d => rw [kind] at time; simpa [loadOperandsFor, kind] using completionOf_fixed time
    | ready t => rw [kind] at time; simpa [loadOperandsFor, kind] using completionOf_ready time
  have lanes : laneOf (loadOperandsFor e f).lanes = some f.lanes := by
    cases rule : f.lanes <;> simp [loadOperandsFor, rule, laneOf]
  have port : portOf (loadOperandsFor e f).port = some f.port := portOf_ofNat f.port
  have posted : yesNoOf (loadOperandsFor e f).posted = some f.posted := yesNoOf_yesNo f.posted
  have lockable : yesNoOf (loadOperandsFor e f).lockable = some f.lockable := yesNoOf_yesNo f.lockable
  simp only [loadFields, completion, lanes, port, posted, lockable]
  exact if_pos window

theorem entryOf_inv {b : Byte} {e : EntryId} (named : entryOf b = some e) : b = BitVec.ofNat 8 e.val := by
  unfold entryOf at named
  split at named
  · obtain rfl := Option.some.inj named; simp
  · cases named

theorem portOf_inv {b : Byte} {p : PortId} (named : portOf b = some p) : b = BitVec.ofNat 8 p.val := by
  unfold portOf at named
  split at named
  · obtain rfl := Option.some.inj named; simp
  · cases named

theorem yesNoOf_inv {b : Byte} {yes : Bool} (named : yesNoOf b = some yes) : b = yesNo yes := by
  unfold yesNoOf at named
  split at named
  · next zero => obtain rfl := Option.some.inj named; exact zero
  · split at named
    · next one => obtain rfl := Option.some.inj named; exact one
    · cases named

theorem laneOf_inv {b : Byte} {rule : LaneRule} : laneOf b = some rule →
    b = match rule with
      | .straight => 0
      | .crossed => 1
      | .narrow => 2 := by
  intro named
  unfold laneOf at named
  split at named
  · next zero => obtain rfl := Option.some.inj named; exact zero
  · split at named
    · next one => obtain rfl := Option.some.inj named; exact one
    · split at named
      · next two => obtain rfl := Option.some.inj named; exact two
      · cases named

theorem completionOf_inv {kind time : Byte} {completion : Completion} : completionOf kind time = some completion →
    kind = (match completion with
      | .fixed _ => 0
      | .ready _ => 1) ∧
    time = match completion with
      | .fixed d => BitVec.ofNat 8 d
      | .ready t => BitVec.ofNat 8 t := by
  intro named
  unfold completionOf at named
  split at named
  · next zero =>
    split at named
    · obtain rfl := Option.some.inj named; exact ⟨zero, by simp⟩
    · cases named
  · split at named
    · next one =>
      split at named
      · obtain rfl := Option.some.inj named; exact ⟨one, by simp⟩
      · cases named
    · cases named

/-- Operands that are read as an entry and its fields are the ones that spell them. -/
theorem loadOperandsFor_of_loadFields {o : LoadOperands} {e : EntryId} {f : RegionFields} (entry : entryOf o.entry = some e)
    (fields : loadFields o = some f) : o = loadOperandsFor e f := by
  unfold loadFields at fields
  split at fields
  · next port completion posted lanes lockable hport hcompletion hposted hlanes hlockable =>
    dsimp only at fields
    split at fields
    · obtain rfl := Option.some.inj fields
      obtain ⟨kind, time⟩ := completionOf_inv hcompletion
      have he := entryOf_inv entry
      have hp := portOf_inv hport
      have hpo := yesNoOf_inv hposted
      have hlo := yesNoOf_inv hlockable
      have hla := laneOf_inv hlanes
      cases o
      simp only [loadOperandsFor, LoadOperands.mk.injEq, true_and, and_true]
      exact ⟨he, hp, kind, time, hpo, hla, hlo⟩
    · cases fields
  · cases fields

/-! ### LOAD-REGION -/

theorem overlapsMap_iff (v : State) (f : RegionFields) :
    overlapsMap v f = true ↔
      ∃ g q, row v.regions g = some q ∧ f.base.toNat ≤ q.fields.limit.toNat ∧ q.fields.base.toNat ≤ f.limit.toNat := by
  simp only [overlapsMap, List.any_eq_true, List.mem_finRange, true_and, Option.any_eq_true, windowsMeet, Bool.and_eq_true,
    decide_eq_true_eq, BitVec.le_def]

theorem claimLoadRegion_busy {o : LoadOperands} {e : EntryId} {f : RegionFields} (entry : entryOf o.entry = some e)
    (fields : loadFields o = some f) (busy : row v.regions e ≠ none) :
    claimLoadRegion o v = unchanged v (.fault .entryBusy) := by
  simp only [claimLoadRegion, entry, fields]
  rw [if_pos (Option.isSome_iff_ne_none.mpr busy)]

theorem claimLoadRegion_overlap {o : LoadOperands} {e : EntryId} {f : RegionFields} (entry : entryOf o.entry = some e)
    (fields : loadFields o = some f) (absent : row v.regions e = none) (overlap : overlapsMap v f = true) :
    claimLoadRegion o v = unchanged v (.fault .overlap) := by
  simp only [claimLoadRegion, entry, fields]
  rw [if_neg (by simp [absent]), if_pos overlap]

theorem claimLoadRegion_loads {o : LoadOperands} {e : EntryId} {f : RegionFields} (entry : entryOf o.entry = some e)
    (fields : loadFields o = some f) (absent : row v.regions e = none) (apart : overlapsMap v f ≠ true) :
    claimLoadRegion o v = carriedOut (v.setRegion e (some { phase := .active, fields := f, inFlight := 0 })) := by
  simp only [claimLoadRegion, entry, fields]
  rw [if_neg (by simp [absent]), if_neg apart]

theorem claimLoadRegion_badValue {o : LoadOperands} (foreign : ∀ e f, FieldsOk f → o ≠ loadOperandsFor e f) (v : State) :
    claimLoadRegion o v = unchanged v (.fault .badValue) := by
  unfold claimLoadRegion
  split
  · next e f entry fields => exact absurd (loadOperandsFor_of_loadFields entry fields) (foreign e f (loadFields_ok fields))
  · rfl

theorem SteadyClaim.setRegion (v : State) (e : EntryId) (r : Option RegionRecord) :
    SteadyClaim v (carriedOut (v.setRegion e r)) .done := by constructor <;> simp [carriedOut]

/-- Settles O21: by the first of the checks that fails. -/
theorem loadRegionMakesTheEntryActive : Obligations.LoadRegionMakesTheEntryActive := by
  unfold Obligations.LoadRegionMakesTheEntryActive
  intro h body s u served
  refine ⟨fun e f named arrival ok => ?_, fun o named arrival foreign => ?_⟩
  · have entry : entryOf (loadOperandsFor e f).entry = some e := entryOf_ofNat e
    have fields := loadFields_loadOperandsFor ok e
    have overlaps {v : State} (regions : v.regions = s.regions) : overlapsMap v f = overlapsMap s f := by
      simp only [overlapsMap, regions]
    by_cases busy : row s.regions e ≠ none
    · obtain ⟨t, run, answered, selection, regions, ports, line, managers, retires⟩ :=
        exec_unchanged named arrival served fun i v taken => by
          exact claimLoadRegion_busy entry fields (by rw [taken.regions]; exact busy)
      exact ⟨t, _, run, answered, selection, ports, line, managers, retires, fun _ => ⟨rfl, regions⟩,
        fun absent => absurd absent busy⟩
    rw [not_not] at busy
    by_cases overlap : overlapsMap s f = true
    · obtain ⟨t, run, answered, selection, regions, ports, line, managers, retires⟩ :=
        exec_unchanged named arrival served fun i v taken => by
          exact claimLoadRegion_overlap entry fields (by rw [taken.regions]; exact busy)
            (by rw [overlaps taken.regions]; exact overlap)
      refine ⟨t, _, run, answered, selection, ports, line, managers, retires, fun present => absurd busy present,
        fun _ => ⟨fun _ => ⟨rfl, regions⟩, fun apart => ?_⟩⟩
      obtain ⟨g, q, held, low, high⟩ := (overlapsMap_iff s f).mp overlap
      have := apart g q held
      omega
    · have claim {v : State} (regions : v.regions = s.regions) :=
        claimLoadRegion_loads (v := v) entry fields (by rw [regions]; exact busy) (by rw [overlaps regions]; exact overlap)
      obtain ⟨i, v, t, taken, run, answered, selection, stores⟩ := exec_steady (a := .done) named arrival served
        fun i v taken => by rw [claimOf, claim taken.regions]; exact .setRegion v e _
      rw [claimOf, claim taken.regions] at selection stores
      obtain ⟨regions, ports, line, managers, retires⟩ := stores
      refine ⟨t, .done, run, answered, taken.onlySelection.trans (.trans (.of_eq rfl rfl) selection), ports.trans taken.ports,
        line.trans taken.line, managers.trans taken.managers, retires.trans taken.retires,
        fun present => absurd busy present, fun _ => ⟨fun meets => absurd ((overlapsMap_iff s f).mpr meets) overlap,
          fun _ => ⟨rfl, ?_⟩⟩⟩
      rw [regions, ← taken.regions]
      rfl
  · obtain ⟨t, run, answered, selection, regions, ports, line, managers, retires⟩ :=
      exec_unchanged named arrival served fun i v _ => claimLoadRegion_badValue foreign v
    exact ⟨t, run, answered, selection, regions, ports, line, managers, retires⟩

/-! ### RETIRE-REGION (R143) -/

theorem claimRetireRegion_noEntry {entry : Byte} (noEntry : NoEntry v entry) (k : Initiator) (t : Tag) :
    claimRetireRegion entry k t v = unchanged v (.fault .badValue) := by
  rcases noEntry with above | ⟨e, number, absent⟩
  · simp [claimRetireRegion, entryOf_eq_none above, badValue]
  · simp [claimRetireRegion, entryOf_eq_some number, absent, badValue]

theorem claimRetireRegion_present {entry : Byte} {e : EntryId} {r : RegionRecord} (number : e.val = entry.toNat)
    (present : row v.regions e = some r) (k : Initiator) (t : Tag) :
    claimRetireRegion entry k t v =
      match r.phase with
      | .draining => unchanged v .defer
      | .active => if r.inFlight = 0 then carriedOut (v.setRegion e none) else ⟨startDrain e r k t v, none⟩ := by
  simp only [claimRetireRegion, entryOf_eq_some number]
  rw [present] <;> rfl

theorem insertRetire_perm (r : PendingRetire) (l : List PendingRetire) : (insertRetire r l).Perm (r :: l) := by
  induction l with
  | nil => exact .refl _
  | cons q rest ih =>
    rw [insertRetire]
    split
    · exact .refl _
    · exact (ih.cons q).trans (.swap r q rest)

/-- An operation that waits for a drain keeps its slot (R143). -/
theorem exec_drains {entry : Byte} {e : EntryId} {r : RegionRecord} (number : e.val = entry.toNat)
    (present : row s.regions e = some r) (active : r.phase = .active) (held : 0 < r.inFlight)
    (named : bodyOf (manageCommand h (.retireRegion entry)) = some body) (arrival : Arrives body s u)
    (served : ManageServed s h) :
    ∃ i v, TakenFrom s i h (.retireRegion entry) v ∧
      exec (manageCommand h (.retireRegion entry)) s =
        .next (selectEvent (selectEvent (startDrain e r h.initiator h.tag v))) := by
  obtain ⟨i, v, taken, run⟩ := exec_manageCommand named arrival served
  have claim := claimRetireRegion_present number (v := v) (by rw [taken.regions]; exact present) h.initiator h.tag
  rw [active] at claim
  dsimp only at claim
  rw [if_neg (by omega)] at claim
  refine ⟨i, v, taken, ?_⟩
  rw [run, claimOf, claim]
  rfl

/-- Settles O22: by whether a present entry has the number, and by its state. -/
theorem retireRegionDrainsOrRemoves : Obligations.RetireRegionDrainsOrRemoves := by
  unfold Obligations.RetireRegionDrainsOrRemoves
  intro h entry body s u named arrival served
  refine ⟨fun noEntry => ?_, fun e r number present => ⟨fun draining => ?_, fun active idle => ?_, fun active held => ?_⟩⟩
  · obtain ⟨t, run, answered, selection, regions, ports, line, -, retires⟩ :=
      exec_unchanged named arrival served fun i v taken =>
        claimRetireRegion_noEntry (show NoEntry v entry by rw [NoEntry, taken.regions]; exact noEntry) h.initiator h.tag
    exact ⟨t, run, answered, regions, retires, selection, ports, line⟩
  · obtain ⟨t, run, answered, selection, regions, ports, line, -, retires⟩ :=
      exec_unchanged (a := .defer) named arrival served fun i v taken => by
        rw [claimOf, claimRetireRegion_present number (by rw [taken.regions]; exact present), draining]
    exact ⟨t, run, answered, regions, retires, selection, ports, line⟩
  · have claim {v : State} (regions : v.regions = s.regions) :
        claimRetireRegion entry h.initiator h.tag v = carriedOut (v.setRegion e none) := by
      rw [claimRetireRegion_present number (by rw [regions]; exact present), active]
      exact if_pos idle
    obtain ⟨i, v, t, taken, run, answered, selection, stores⟩ := exec_steady (a := .done) named arrival served
      fun i v taken => by rw [claimOf, claim taken.regions]; exact .setRegion v e _
    rw [claimOf, claim taken.regions] at selection stores
    obtain ⟨regions, ports, line, managers, retires⟩ := stores
    refine ⟨t, run, answered, ?_, retires.trans taken.retires, taken.onlySelection.trans (.trans (.of_eq rfl rfl) selection),
      ports.trans taken.ports, line.trans taken.line⟩
    rw [regions, ← taken.regions]
    rfl
  · obtain ⟨i, v, taken, run⟩ := exec_drains number present active held named arrival served
    have selection := taken.onlySelection.trans
      ((OnlySelection.of_eq rfl rfl).trans (selectEvent_onlySelection (startDrain e r h.initiator h.tag v)))
    obtain ⟨free, slots, counter, initiators⟩ := taken.allocated
    refine ⟨_, i, run, ⟨free, ?_, ?_, ?_⟩, ?_, ?_, ?_, selection, selectEvent_grows _ ?_, fun busy => ?_, ?_, ?_, ?_⟩
    · simpa [startDrain] using slots
    · simpa [startDrain] using counter
    · simpa [startDrain] using initiators
    · simp [startDrain, taken.regions]
    · simpa [startDrain, taken.retires] using insertRetire_perm _ _
    · simp [startDrain, taken.managers]
    · simp [startDrain, taken.outbound]
    · rw [selectEvent_of_delivery_ne_idle (by simpa [startDrain, taken.events] using busy)]
      simp [startDrain, taken.outbound]
    · simp [startDrain, taken.chains]
    · simp [startDrain, taken.ports]
    · simp [startDrain, taken.line]

end

end Sys2Proof.Machine
end

section
/-! PROOFS. SET-EVENT, EVENT-RESUME and EVENT-ACK (R131, R132, R150, R151). -/

namespace Sys2Proof.Machine

-- one proof at a time: the text is compiled whole, in one process whose threads share its memory limit
set_option Elab.async false

section
variable {h : ReqHeader} {op : ManageOp} {body : List Byte} {s t u v : State} {i : SlotId} {c : Claim} {a : Answer}

/-! ### The numbers of the sources (8.1) -/

theorem sourceOf_sourceNumber (src : Source) : sourceOf (sourceNumber src).val = some src := by
  cases src with
  | station n => revert n; decide
  | incident k => cases k <;> rfl

theorem sourceNumber_of_lt (n : Fin 24) : ∃ src, sourceOf n.val = some src ∧ sourceNumber src = n := by
  have numbered : (sourceOf n.val).map sourceNumber = some n := by revert n; decide
  obtain ⟨src, found, number⟩ := Option.map_eq_some_iff.mp numbered
  exact ⟨src, found, number⟩

theorem sourceOf_eq_some_iff {n : Nat} {src : Source} : sourceOf n = some src ↔ (sourceNumber src).val = n := by
  constructor
  · intro found
    have below : n < 24 := by
      by_contra above
      rw [sourceOf, List.getElem?_eq_none (show allSources.length ≤ n from Nat.not_lt.mp above)] at found
      cases found
    obtain ⟨src', found', number⟩ := sourceNumber_of_lt ⟨n, below⟩
    obtain rfl := Option.some.inj (found.symm.trans found')
    rw [number]
  · rintro rfl
    exact sourceOf_sourceNumber src

theorem sourceOf_eq_none {n : Nat} (above : 23 < n) : sourceOf n = none := by
  rw [sourceOf, List.getElem?_eq_none]
  exact above

theorem priorityOf_eq_some {p : Fin 16} {b : Byte} (number : p.val = b.toNat) : priorityOf b = some p := by
  simp [priorityOf, ← number]

theorem priorityOf_eq_none {b : Byte} (above : 15 < b.toNat) : priorityOf b = none := by
  simp [priorityOf]; omega

/-! ### SET-EVENT (R150) -/

theorem claimSetEvent_badValue {source priority : Byte} (beyond : 23 < source.toNat ∨ 15 < priority.toNat) (v : State) :
    claimSetEvent source priority v = unchanged v (.fault .badValue) := by
  unfold claimSetEvent
  rcases beyond with above | above
  · rw [sourceOf_eq_none above] <;> rfl
  · rw [priorityOf_eq_none above]
    cases sourceOf source.toNat <;> rfl

theorem claimSetEvent_sets {source priority : Byte} {n : Fin 24} {p : Fin 16} (number : n.val = source.toNat)
    (level : p.val = priority.toNat) (v : State) :
    claimSetEvent source priority v =
      carriedOut (v.setEvents { v.events with priorities := putRow v.events.priorities n p }) := by
  obtain ⟨src, found, numbered⟩ := sourceNumber_of_lt n
  rw [number] at found
  simp only [claimSetEvent, found, priorityOf_eq_some level, numbered]

theorem SteadyClaim.of_frame (answer : c.answer = some a) (slots : c.state.slots = v.slots)
    (initiators : c.state.initiators = v.initiators) (counter : c.state.acceptCounter = v.acceptCounter)
    (chains : c.state.chains = v.chains) (link : c.state.link = v.link) : SteadyClaim v c a where
  answer := answer
  slots := slots
  initiators := initiators
  acceptCounter := counter
  chains := chains
  linkState := by rw [link]
  resetCount := by rw [link]
  outbound := by rw [link]

/-- Settles O29: by whether both operands are in range. -/
theorem setEventGivesThePriority : Obligations.SetEventGivesThePriority := by
  unfold Obligations.SetEventGivesThePriority
  intro h source priority body s u named arrival served
  by_cases beyond : 23 < source.toNat ∨ 15 < priority.toNat
  · obtain ⟨t, run, answered, selection, regions, ports, line, -, -⟩ :=
      exec_unchanged named arrival served fun i v taken => claimSetEvent_badValue beyond v
    refine ⟨t, _, run, answered, regions, ports, line, fun _ => ⟨rfl, selection⟩, fun n p number level => ?_⟩
    have := n.isLt
    have := p.isLt
    omega
  · rw [not_or, Nat.not_lt, Nat.not_lt] at beyond
    obtain ⟨source24, priority16⟩ := beyond
    have claim (v : State) := claimSetEvent_sets (n := ⟨source.toNat, by omega⟩) (p := ⟨priority.toNat, by omega⟩) rfl rfl v
    obtain ⟨i, v, t, taken, run, answered, selection, stores⟩ := exec_steady (a := .done) named arrival served
      fun i v taken => by rw [claimOf, claim]; exact .of_frame rfl rfl rfl rfl rfl rfl
    rw [claimOf, claim] at selection stores
    obtain ⟨regions, ports, line, -, -⟩ := (taken.stores.trans (v := v) ⟨rfl, rfl, rfl, rfl, rfl⟩).trans stores
    refine ⟨t, .done, run, answered, regions, ports, line, fun above => by omega, fun n p number level => ⟨rfl, ?_⟩⟩
    rw [show n = ⟨source.toNat, by omega⟩ from Fin.ext number, show p = ⟨priority.toNat, by omega⟩ from Fin.ext level]
    refine .trans (.of_eq ?_ ?_) selection
    · simp [carriedOut, taken.events]
    · simp [carriedOut, taken.stations]

/-! ### EVENT-RESUME (R132) -/

theorem freeSlotOf_link (i : SlotId) (k : Initiator) (s : State) : (freeSlotOf i k s).link = s.link := by simp

/-- In STALLED the message in flight is handed over again before the answer (R132). -/
theorem exec_resumes {m : EventMessage} (named : bodyOf (manageCommand h .eventResume) = some body)
    (arrival : Arrives body s u) (served : ManageServed s h) (target : h.initiator = s.events.target)
    (stalled : s.events.delivery = .stalled m) :
    ∃ t, exec (manageCommand h .eventResume) s = .next t ∧ ManageAnswered s t h .done ∧ SameStores s t ∧
      t.events = { s.events with delivery := .awaitAck m, resends := 0, ackTimer := .running s.events.ackWindow } ∧
      t.stations = s.stations ∧
      t.link.outbound =
        s.link.outbound ++ [.event s.events.target m, plainResponse h.initiator h.tag .done] := by
  obtain ⟨i, v, taken, run⟩ := exec_manageCommand named arrival served
  obtain ⟨served, -⟩ := served
  have claim : claimOf .eventResume h.initiator h.tag v = ⟨resendMessage m 0 v, some .done⟩ := by
    simp [claimOf, claimEventResume, taken.events, target, stalled, carriedOut]
  rw [claim] at run
  have up : v.link.state = .up := taken.linkState.trans served.1
  have steady : SteadyClaim v ⟨resendMessage m 0 v, some .done⟩ .done :=
    { answer := rfl, slots := by simp, initiators := by simp, acceptCounter := by simp, chains := by simp,
      linkState := by simp, resetCount := by simp, outbound := resendMessage_grows m 0 v List.prefix_rfl }
  have waits : (resendMessage m 0 v).events.delivery ≠ .idle := by rw [resendMessage_events]; simp
  have still := steady.conclude taken served
  rw [selectEvent_of_delivery_ne_idle waits] at still
  have events : (concludeClaim i ⟨resendMessage m 0 v, some .done⟩).events = (resendMessage m 0 v).events := by
    rw [still]; simp
  obtain ⟨-, stores⟩ := steady.effects taken served
  refine ⟨_, run, steady.answered taken served,
    (taken.stores.trans (by simp [SameStores])).trans stores, ?_⟩
  rw [selectEvent_of_delivery_ne_idle (by rw [events]; exact waits)]
  refine ⟨?_, ?_, ?_⟩
  · rw [events, resendMessage_events, taken.events]
  · rw [still]; simp [taken.stations]
  · rw [still, freeSlotOf_link, answerSlot_outbound (by simpa using up), resendMessage_outbound_up m 0 up, taken.outbound,
      taken.events]
    simp

/-- Settles O32: by the requester and the delivery state. -/
theorem eventResumeSendsTheStalledMessageAgain : Obligations.EventResumeSendsTheStalledMessageAgain := by
  unfold Obligations.EventResumeSendsTheStalledMessageAgain
  intro h body s u named arrival served
  by_cases target : h.initiator = s.events.target
  · by_cases stalled : ∃ m, s.events.delivery = .stalled m
    · obtain ⟨m, stalled⟩ := stalled
      obtain ⟨t, run, answered, ⟨regions, ports, line, -, -⟩, resumed⟩ := exec_resumes named arrival served target stalled
      refine ⟨t, .done, run, answered, regions, ports, line, fun other => absurd target other, fun _ =>
        ⟨rfl, fun m' stalled' => ?_, fun never => absurd stalled (never m)⟩⟩
      obtain rfl : m = m' := by simpa using stalled.symm.trans stalled'
      exact resumed
    · have never : ∀ m, s.events.delivery ≠ .stalled m := fun m held => stalled ⟨m, held⟩
      obtain ⟨t, run, answered, selection, regions, ports, line, -, -⟩ :=
        exec_unchanged (a := .done) named arrival served fun i v taken => by
          have own : ¬ h.initiator ≠ v.events.target := by rw [taken.events]; simpa using target
          rw [claimOf, claimEventResume, if_neg own, taken.events]
          cases delivery : s.events.delivery with
          | stalled m => exact absurd delivery (never m)
          | awaitAck m => rfl
          | idle => rfl
      exact ⟨t, _, run, answered, regions, ports, line, fun other => absurd target other, fun _ =>
        ⟨rfl, fun m held => absurd held (never m), fun _ => selection⟩⟩
  · obtain ⟨t, run, answered, selection, regions, ports, line, -, -⟩ :=
      exec_unchanged (a := .fault .badValue) named arrival served fun i v taken => by
        rw [claimOf, claimEventResume, if_pos (by rw [taken.events]; exact target)]
        rfl
    exact ⟨t, _, run, answered, regions, ports, line, fun _ => ⟨rfl, selection⟩, fun own => absurd own target⟩

end

end Sys2Proof.Machine
end

section
/-! PROOFS. EVENT-ACK, SET-EVENT-TARGET and READ-INCIDENT (R124, R131, R133, R150 to R152): what is in flight afterwards is a new
message. -/

namespace Sys2Proof.Machine

-- one proof at a time: the text is compiled whole, in one process whose threads share its memory limit
set_option Elab.async false

section
variable {h : ReqHeader} {op : ManageOp} {body : List Byte} {s t u v : State} {i : SlotId} {c : Claim} {a : Answer}
  {m : EventMessage}

/-! ### What is in flight after a selection -/

/-- Nothing is in flight, or the message with the number after `q`. -/
def NextAfter (q : BitVec 8) (e : EventUnit) : Prop :=
  e.delivery = .idle ∧ e.sequence = q ∨ ∃ m, e.delivery = .awaitAck m ∧ m.sequence = q + 1

theorem selectEvent_cases (s : State) :
    selectEvent s = s ∨ s.events.delivery = .idle ∧ ∃ src, selectEvent s = buildMessage src s := by
  unfold selectEvent
  split
  · next isOpen =>
    have idle : s.events.delivery = .idle := by
      simp only [selectionOpen, Bool.and_eq_true, decide_eq_true_eq] at isOpen
      exact isOpen.1.1
    split
    · next src _ => exact .inr ⟨idle, src, rfl⟩
    · exact .inl rfl
  · exact .inl rfl

theorem buildMessage_events (src : Source) (s : State) :
    (buildMessage src s).events = eventsAfterBuild s.events (builtMessage s src) := by simp [buildMessage]

theorem NextAfter.select {q : BitVec 8} (next : NextAfter q s.events) : NextAfter q (selectEvent s).events := by
  rcases selectEvent_cases s with still | ⟨idle, src, built⟩
  · rwa [still]
  · have sequence : s.events.sequence = q := by
      rcases next with ⟨-, sequence⟩ | ⟨m, waits, -⟩
      · exact sequence
      · rw [idle] at waits; cases waits
    rw [built, buildMessage_events]
    exact .inr ⟨_, rfl, by simp [builtMessage, sequence]⟩

theorem NextAfter.inFlight {q : BitVec 8} (next : NextAfter q t.events) (flying : inFlightMessage t = some m) :
    m.sequence = q + 1 := by
  rcases next with ⟨idle, -⟩ | ⟨m', waits, sequence⟩
  · simp [inFlightMessage, idle] at flying
  · simp only [inFlightMessage, waits, Option.some.injEq] at flying
    rw [← flying, sequence]

theorem SteadyClaim.concludeClaim_same (steady : SteadyClaim v c a) (taken : TakenFrom s i h op v) (served : Served s h) :
    (concludeClaim i c).events = (selectEvent c.state).events ∧ (concludeClaim i c).stations = (selectEvent c.state).stations := by
  rw [steady.conclude taken served]
  simp

/-- After a claim that leaves nothing in flight, what is in flight is a new message. -/
theorem SteadyClaim.nextAfter (steady : SteadyClaim v c a) (taken : TakenFrom s i h op v) (served : Served s h)
    (idle : c.state.events.delivery = .idle) :
    NextAfter c.state.events.sequence (selectEvent (concludeClaim i c)).events := by
  refine NextAfter.select ?_
  rw [(steady.concludeClaim_same taken served).1]
  exact NextAfter.select (.inl ⟨idle, rfl⟩)

/-! ### Withdrawal (R133) -/

theorem inFlightMessage_eq_none_iff : inFlightMessage s = none ↔ s.events.delivery = .idle := by
  unfold inFlightMessage
  cases s.events.delivery <;> simp

theorem withdrawMessage_nothing (none : inFlightMessage s = none) : withdrawMessage s = s := by
  simp [withdrawMessage, none]

theorem withdrawMessage_flying (flying : inFlightMessage s = some m) :
    withdrawMessage s = dropCopy m.source (s.setEvents (eventsIdle s.events)) := by
  simp [withdrawMessage, flying]

theorem dropCopy_row (src : Source) (s : State) (n : StationId) :
    row (dropCopy src s).stations n = { row s.stations n with delivered := (row (dropCopy src s).stations n).delivered } := by
  cases src with
  | incident k => rfl
  | station m =>
    by_cases same : n = m
    · subst same; simp [dropCopy, setDelivered]
    · simp [dropCopy, setDelivered, row_putRow_ne _ _ _ _ same]

theorem dropCopy_events (src : Source) (s : State) : (dropCopy src s).events = s.events := by simp

/-- A withdrawal leaves nothing in flight, and of the stations changes no more than a delivered copy. -/
theorem withdrawMessage_effects (s : State) :
    (withdrawMessage s).events.delivery = .idle ∧
      (withdrawMessage s).events.priorities = s.events.priorities ∧
      (withdrawMessage s).events.incidents = s.events.incidents ∧ (withdrawMessage s).events.target = s.events.target ∧
      (withdrawMessage s).events.sequence = s.events.sequence ∧
      ∀ n, row (withdrawMessage s).stations n =
        { row s.stations n with delivered := (row (withdrawMessage s).stations n).delivered } := by
  cases flying : inFlightMessage s with
  | none =>
    rw [withdrawMessage_nothing flying]
    exact ⟨inFlightMessage_eq_none_iff.mp flying, rfl, rfl, rfl, rfl, fun _ => rfl⟩
  | some m =>
    rw [withdrawMessage_flying flying]
    refine ⟨?_, ?_, ?_, ?_, ?_, fun n => dropCopy_row m.source _ n⟩ <;> rw [dropCopy_events] <;> rfl

theorem withdrawMessage_timer (ok : EventsOk s) : (withdrawMessage s).events.ackTimer = .stopped := by
  cases flying : inFlightMessage s with
  | none =>
    rw [withdrawMessage_nothing flying]
    obtain ⟨-, delivery, -⟩ := ok
    rw [DeliveryOk, inFlightMessage_eq_none_iff.mp flying] at delivery
    exact delivery.1
  | some m => rw [withdrawMessage_flying flying, dropCopy_events]; rfl

theorem withdrawMessage_delivered {n : StationId} (flying : inFlightMessage s = some m) (source : m.source = .station n) :
    (row (withdrawMessage s).stations n).delivered = none := by
  rw [withdrawMessage_flying flying, source]
  simp [dropCopy, setDelivered]

/-! ### SET-EVENT-TARGET (R150) -/

theorem initiatorOf_eq_some {k : Initiator} {b : Byte} (number : k.val = b.toNat) : initiatorOf b = some k := by
  simp [initiatorOf, ← number]

theorem claimSetEventTarget_badValue {initiator window : Byte} (beyond : 7 < initiator.toNat ∨ window.toNat = 0) (v : State) :
    claimSetEventTarget initiator window v = unchanged v (.fault .badValue) := by
  unfold claimSetEventTarget
  split
  · rfl
  · next k named =>
    have zero : window = 0 := by
      rcases beyond with above | zero
      · unfold initiatorOf at named
        rw [dif_neg (by omega)] at named
        cases named
      · exact (toNat_eq_zero_iff window).mp zero
    rw [if_pos zero]
    rfl

/-- The state with the message in flight withdrawn, and the target and the ack window set. -/
def retargeted (k : Initiator) (window : Nat) (v : State) : State :=
  (withdrawMessage v).setEvents { (withdrawMessage v).events with target := k, ackWindow := window }

theorem claimSetEventTarget_sets {initiator window : Byte} {k : Initiator} (number : k.val = initiator.toNat)
    (positive : 0 < window.toNat) (v : State) :
    claimSetEventTarget initiator window v = carriedOut (retargeted k window.toNat v) := by
  have nonzero : window ≠ 0 := fun zero => by simp [zero] at positive
  simp only [claimSetEventTarget, initiatorOf_eq_some number, if_neg nonzero]
  rfl

theorem selectEvent_closed (closed : (row s.initiators s.events.target).mode = .abandoning) : selectEvent s = s := by
  simp [selectEvent, selectionOpen, closed]

/-- While the new target is ABANDONING, no selection follows the claim. -/
theorem SteadyClaim.closed (steady : SteadyClaim v c a) (taken : TakenFrom s i h op v) (served : Served s h)
    (closed : (row s.initiators c.state.events.target).mode = .abandoning) :
    (selectEvent (concludeClaim i c)).events = c.state.events ∧
      (selectEvent (concludeClaim i c)).stations = c.state.stations := by
  obtain ⟨events, stations⟩ := steady.concludeClaim_same taken served
  obtain ⟨-, initiators, -⟩ := steady.answered taken served
  have other : c.state.events.target ≠ h.initiator := by
    intro same
    rw [same, served.2.1] at closed
    cases closed
  have before : selectEvent c.state = c.state := by
    refine selectEvent_closed ?_
    obtain ⟨-, -, -, records⟩ := taken.allocated
    rw [steady.initiators, records, row_putRow_ne _ _ _ _ other]
    exact closed
  rw [before] at events stations
  have after : selectEvent (concludeClaim i c) = concludeClaim i c := by
    refine selectEvent_closed ?_
    simp only [selectEvent_frame] at initiators
    rw [initiators, events]
    exact closed
  rw [after]
  exact ⟨events, stations⟩

theorem steady_retargeted (k : Initiator) (window : Nat) (v : State) :
    SteadyClaim v (carriedOut (retargeted k window v)) .done :=
  .of_frame rfl (by simp [carriedOut, retargeted]) (by simp [carriedOut, retargeted]) (by simp [carriedOut, retargeted])
    (by simp [carriedOut, retargeted]) (by simp [carriedOut, retargeted])

theorem retargeted_stores (k : Initiator) (window : Nat) (v : State) : SameStores v (retargeted k window v) := by
  simp [SameStores, retargeted]

/-- Settles O30: what was in flight is withdrawn before the target is set, so that only a selection can follow. -/
theorem setEventTargetWithdrawsAndMoves : Obligations.SetEventTargetWithdrawsAndMoves := by
  unfold Obligations.SetEventTargetWithdrawsAndMoves
  intro h initiator window body s u named arrival served ok
  by_cases beyond : 7 < initiator.toNat ∨ window.toNat = 0
  · obtain ⟨t, run, answered, selection, regions, ports, line, -, -⟩ :=
      exec_unchanged named arrival served fun i v taken => claimSetEventTarget_badValue beyond v
    refine ⟨t, _, run, answered, regions, ports, line, fun _ => ⟨rfl, selection⟩, fun k number positive => ?_⟩
    have := k.isLt
    omega
  rw [not_or, Nat.not_lt] at beyond
  obtain ⟨low, positive⟩ := beyond
  generalize named_k : (⟨initiator.toNat, by omega⟩ : Initiator) = k
  have number : k.val = initiator.toNat := by rw [← named_k]
  obtain ⟨i, v, taken, run⟩ := exec_manageCommand named arrival served
  obtain ⟨served, -⟩ := served
  rw [claimOf, claimSetEventTarget_sets number (by omega) v] at run
  have steady := steady_retargeted k window.toNat v
  obtain ⟨selection, stores⟩ := steady.effects taken served
  obtain ⟨regions, ports, line, -, -⟩ := (taken.stores.trans (retargeted_stores k window.toNat v)).trans stores
  obtain ⟨idle, priorities, incidents, -, sequence, rows⟩ := withdrawMessage_effects v
  obtain ⟨priorities', incidents', target, ackWindow, rows', -⟩ := selection
  have next := steady.nextAfter taken served idle
  refine ⟨_, .done, run, steady.answered taken served, regions, ports, line, fun beyond => by omega,
    fun k' number' _ => ⟨rfl, ?_, ackWindow, ?_, ?_, fun n => ?_, fun m flying => ?_, fun closed => ?_⟩⟩
  · rw [target]; exact Fin.ext (number.trans number'.symm)
  · rw [priorities', ← taken.events]; exact priorities
  · rw [incidents', ← taken.events]; exact incidents
  · rw [rows' n]
    show ({ row (withdrawMessage v).stations n with delivered := _ } : Station) = _
    rw [rows n, taken.stations]
  · rw [next.inFlight flying, ← taken.events]
    exact congrArg (· + 1) sequence
  · obtain rfl : k' = k := Fin.ext (number'.trans number.symm)
    obtain ⟨events, stations⟩ := steady.closed taken served closed
    have okV : EventsOk v := ok.congr taken.events taken.stations
    refine ⟨by rw [events]; exact idle, by rw [events]; exact withdrawMessage_timer okV, fun m n flying source => ?_⟩
    rw [stations]
    exact withdrawMessage_delivered (by simpa [inFlightMessage, taken.events] using flying) source

/-! ### EVENT-ACK (R131) -/

theorem inFlightMessage_congr (events : t.events = s.events) : inFlightMessage t = inFlightMessage s := by
  simp [inFlightMessage, events]

theorem ackMatches_iff {k : Initiator} {src : Source} {sequence : Byte} :
    ackMatches s k src sequence m = true ↔ k = s.events.target ∧ src = m.source ∧ sequence = m.sequence := by
  simp [ackMatches, and_assoc]

theorem claimEventAck_badValue {source : Byte} (above : 23 < source.toNat) (sequence : Byte) (k : Initiator) (v : State) :
    claimEventAck source sequence k v = unchanged v (.fault .badValue) := by
  unfold claimEventAck
  rw [sourceOf_eq_none above] <;> rfl

theorem claimEventAck_badAck {source sequence : Byte} {k : Initiator} (known : source.toNat ≤ 23)
    (other : ∀ m, inFlightMessage v = some m →
      ¬(k = v.events.target ∧ (sourceNumber m.source).val = source.toNat ∧ m.sequence = sequence)) :
    claimEventAck source sequence k v = unchanged v (.fault .badAck) := by
  obtain ⟨src, found, number⟩ := sourceNumber_of_lt ⟨source.toNat, by omega⟩
  simp only [claimEventAck, found]
  split
  · rfl
  · next m flying =>
    rw [if_neg]
    rw [ackMatches_iff]
    rintro ⟨own, rfl, rfl⟩
    exact other m flying ⟨own, by rw [number], rfl⟩

theorem claimEventAck_acknowledges {source sequence : Byte} {k : Initiator} (flying : inFlightMessage v = some m)
    (own : k = v.events.target) (number : (sourceNumber m.source).val = source.toNat) (same : m.sequence = sequence) :
    claimEventAck source sequence k v = carriedOut (acknowledge m v) := by
  simp only [claimEventAck, sourceOf_eq_some_iff.mpr number, flying]
  rw [if_pos (ackMatches_iff.mpr ⟨own, rfl, same.symm⟩)]

theorem steady_acknowledge (m : EventMessage) (v : State) : SteadyClaim v (carriedOut (acknowledge m v)) .done :=
  .of_frame rfl (by simp [carriedOut]) (by simp [carriedOut]) (by simp [carriedOut]) (by simp [carriedOut])
    (by simp [carriedOut])

theorem acknowledge_stores (m : EventMessage) (v : State) : SameStores v (acknowledge m v) := by simp [SameStores]

theorem acknowledge_station {n : StationId} (source : m.source = .station n) (v : State) :
    acknowledge m v = (v.setStation n { row v.stations n with
      latched := (row v.stations n).latched &&& ~~~(row v.stations n).delivered.getD 0, delivered := none }).setEvents
        (eventsIdle v.events) := by
  simp only [acknowledge, clearCarried, source]
  rfl

theorem acknowledge_incident {k : IncidentKind} {count : Nat} {detail : Option Detail} (source : m.source = .incident k)
    (payload : m.payload = .incident count detail) (v : State) :
    acknowledge m v = v.setEvents (eventsIdle { v.events with
      incidents := putRow v.events.incidents (incidentIndex k)
        { row v.events.incidents (incidentIndex k) with acknowledged := count } }) := by
  simp only [acknowledge, clearCarried, source, payload, acknowledgeIncident]
  rfl

theorem acknowledge_idle (m : EventMessage) (v : State) :
    (acknowledge m v).events.delivery = .idle ∧ (acknowledge m v).events.priorities = v.events.priorities ∧
      (acknowledge m v).events.target = v.events.target ∧ (acknowledge m v).events.sequence = v.events.sequence := by
  unfold acknowledge clearCarried
  split <;> exact ⟨rfl, rfl, rfl, rfl⟩

/-- Settles O31: by whether the acknowledgement names what is in flight. -/
theorem eventAckClearsWhatWasDelivered : Obligations.EventAckClearsWhatWasDelivered := by
  unfold Obligations.EventAckClearsWhatWasDelivered
  intro h source sequence body s u named arrival served
  by_cases above : 23 < source.toNat
  · obtain ⟨t, run, answered, selection, regions, ports, line, -, -⟩ :=
      exec_unchanged named arrival served fun i v taken => claimEventAck_badValue above sequence h.initiator v
    refine ⟨t, _, run, answered, regions, ports, line, fun _ => ⟨rfl, selection⟩, fun known => by omega,
      fun m _ _ number => ?_⟩
    have := (sourceNumber m.source).isLt
    omega
  by_cases other : ∀ m, inFlightMessage s = some m →
      ¬(h.initiator = s.events.target ∧ (sourceNumber m.source).val = source.toNat ∧ m.sequence = sequence)
  · obtain ⟨t, run, answered, selection, regions, ports, line, -, -⟩ :=
      exec_unchanged named arrival served fun i v taken => claimEventAck_badAck (Nat.not_lt.mp above)
        (by rw [taken.events, inFlightMessage_congr taken.events]; exact other)
    exact ⟨t, _, run, answered, regions, ports, line, fun beyond => absurd beyond above, fun _ _ => ⟨rfl, selection⟩,
      fun m flying own number same => absurd ⟨own, number, same⟩ (other m flying)⟩
  push Not at other
  obtain ⟨m, flying, own, number, same⟩ := other
  obtain ⟨i, v, taken, run⟩ := exec_manageCommand named arrival served
  obtain ⟨served, -⟩ := served
  have events := taken.events
  rw [claimOf, claimEventAck_acknowledges (m := m) (by rw [inFlightMessage_congr events]; exact flying)
    (by rw [events]; exact own) number same] at run
  have steady := steady_acknowledge m v
  obtain ⟨⟨priorities', incidents', target', -, rows', -⟩, stores⟩ := steady.effects taken served
  obtain ⟨regions, ports, line, -, -⟩ := (taken.stores.trans (acknowledge_stores m v)).trans stores
  obtain ⟨idle, priorities, target, sequence'⟩ := acknowledge_idle m v
  have next := steady.nextAfter taken served idle
  have latched (n : StationId) : (row (selectEvent (concludeClaim i (carriedOut (acknowledge m v)))).stations n).latched =
      (row (acknowledge m v).stations n).latched := by rw [rows' n]; rfl
  refine ⟨_, .done, run, steady.answered taken served, regions, ports, line, fun beyond => absurd beyond above,
    fun _ never => absurd ⟨own, number, same⟩ (never m flying), fun m' flying' _ _ _ =>
    ⟨rfl, ?_, ?_, fun m'' flying'' => ?_, fun n source => ?_, fun k count detail source payload => ?_⟩⟩
  · rw [priorities', ← events]; exact priorities
  · rw [target', ← events]; exact target
  · rw [next.inFlight flying'', ← events]; exact congrArg (· + 1) sequence'
  · obtain rfl := Option.some.inj (flying.symm.trans flying')
    refine ⟨?_, ?_, fun n' ne => ?_⟩
    · rw [latched, acknowledge_station source, ← taken.stations]; simp
    · rw [incidents', ← events]
      simp [carriedOut, acknowledge_station source, eventsIdle]
    · rw [latched, acknowledge_station source, ← taken.stations]
      simp [row_putRow_ne _ _ _ _ ne]
  · obtain rfl := Option.some.inj (flying.symm.trans flying')
    refine ⟨?_, fun n => ?_⟩
    · rw [incidents', ← events]
      simp [carriedOut, acknowledge_incident source payload, eventsIdle]
    · rw [latched, acknowledge_incident source payload, ← taken.stations]
      rfl

/-! ### READ-INCIDENT (R152) -/

theorem incidentKindOf_eq_some {b : Byte} {k : Fin 8} (number : 16 + k.val = b.toNat) :
    ∃ kind, incidentKindOf b = some kind ∧ incidentIndex kind = k := by
  obtain ⟨src, found, numbered⟩ := sourceNumber_of_lt ⟨16 + k.val, by omega⟩
  have value : (sourceNumber src).val = 16 + k.val := by rw [numbered]
  cases src with
  | station n =>
    have := n.isLt
    simp only [sourceNumber] at value
    omega
  | incident kind =>
    refine ⟨kind, ?_, Fin.ext ?_⟩
    · rw [incidentKindOf, ← number]; rw [found] <;> rfl
    · simp only [sourceNumber] at value; omega

theorem incidentKindOf_eq_none {b : Byte} (outside : b.toNat < 16 ∨ 23 < b.toNat) : incidentKindOf b = none := by
  unfold incidentKindOf
  split
  · next kind found =>
    have value := sourceOf_eq_some_iff.mp found
    have := (incidentIndex kind).isLt
    simp only [sourceNumber] at value
    omega
  · rfl
  · rfl

theorem yesNoOf_eq_none {b : Byte} (above : 1 < b.toNat) : yesNoOf b = none := by
  have zero : b ≠ 0 := fun e => by simp [e] at above
  have one : b ≠ 1 := fun e => by simp [e] at above
  rw [yesNoOf, if_neg zero, if_neg one]

theorem claimReadIncident_badValue {kind clear : Byte} (outside : kind.toNat < 16 ∨ 23 < kind.toNat ∨ 1 < clear.toNat)
    (v : State) : claimReadIncident kind clear v = unchanged v (.fault .badValue) := by
  unfold claimReadIncident
  split
  · next k yes named clears =>
    rcases outside with low | high | above
    · rw [incidentKindOf_eq_none (.inl low)] at named; cases named
    · rw [incidentKindOf_eq_none (.inr high)] at named; cases named
    · rw [yesNoOf_eq_none above] at clears; cases clears
  · rfl

theorem claimReadIncident_reads {kind clear : Byte} {k : IncidentKind} {yes : Bool} (named : incidentKindOf kind = some k)
    (clears : yesNoOf clear = some yes) (v : State) :
    claimReadIncident kind clear v = ⟨if yes then clearIncident k v else v,
      some (.data (.record (.incident (row v.events.incidents (incidentIndex k)))))⟩ := by
  simp only [claimReadIncident, named, clears]

/-- The counts of an incident are 0, and its message is not in flight. -/
theorem clearIncident_effects (k : IncidentKind) (v : State) :
    (clearIncident k v).events.incidents = putRow v.events.incidents (incidentIndex k)
        { row v.events.incidents (incidentIndex k) with count := 0, acknowledged := 0 } ∧
      (clearIncident k v).events.priorities = v.events.priorities ∧
      (clearIncident k v).events.target = v.events.target ∧ (clearIncident k v).events.sequence = v.events.sequence ∧
      (∀ n, (row (clearIncident k v).stations n).latched = (row v.stations n).latched) ∧
      ∀ m, inFlightMessage v = some m → m.source = .incident k → (clearIncident k v).events.delivery = .idle := by
  unfold clearIncident
  dsimp only
  split
  · obtain ⟨idle, priorities, incidents, target, sequence, rows⟩ := withdrawMessage_effects (v.setEvents { v.events with
      incidents := putRow v.events.incidents (incidentIndex k)
        { row v.events.incidents (incidentIndex k) with count := 0, acknowledged := 0 } })
    exact ⟨incidents, priorities, target, sequence, fun n => by rw [rows n]; rfl, fun _ _ _ => idle⟩
  · next other =>
    refine ⟨rfl, rfl, rfl, rfl, fun _ => rfl, fun m flying source => absurd ?_ other⟩
    simp [flying, source]

theorem steady_clearIncident (k : IncidentKind) (v : State) (a : Answer) : SteadyClaim v ⟨clearIncident k v, some a⟩ a :=
  .of_frame rfl (by simp) (by simp) (by simp) (by simp) (by simp)

/-- The record is cleared once it has been read (R124, R152). -/
theorem exec_clears {kind clear : Byte} {k : IncidentKind} (source : incidentKindOf kind = some k)
    (clears : yesNoOf clear = some true) (named : bodyOf (manageCommand h (.readIncident kind clear)) = some body)
    (arrival : Arrives body s u) (served : ManageServed s h) :
    ∃ t, exec (manageCommand h (.readIncident kind clear)) s = .next t ∧
      ManageAnswered s t h (.data (.record (.incident (row s.events.incidents (incidentIndex k))))) ∧ SameStores s t ∧
      t.events.incidents = putRow s.events.incidents (incidentIndex k)
        { row s.events.incidents (incidentIndex k) with count := 0, acknowledged := 0 } ∧
      t.events.priorities = s.events.priorities ∧ t.events.target = s.events.target ∧
      (∀ n, (row t.stations n).latched = (row s.stations n).latched) ∧
      ∀ m, inFlightMessage s = some m → m.source = .incident k → NextAfter s.events.sequence t.events := by
  obtain ⟨i, v, taken, run⟩ := exec_manageCommand named arrival served
  obtain ⟨served, -⟩ := served
  have events := taken.events
  rw [claimOf, claimReadIncident_reads source clears] at run
  rw [if_pos rfl] at run
  have steady := steady_clearIncident k v (.data (.record (.incident (row v.events.incidents (incidentIndex k)))))
  obtain ⟨⟨priorities', incidents', target', -, rows', -⟩, stores⟩ := steady.effects taken served
  obtain ⟨incidents, priorities, target, sequence, latched, idle⟩ := clearIncident_effects k v
  have answered := steady.answered taken served
  rw [events] at answered
  refine ⟨_, run, ?_, (taken.stores.trans (by simp [SameStores])).trans stores, ?_, ?_, ?_, fun n => ?_,
    fun m flying source => ?_⟩
  · rw [events]; exact answered
  · rw [← events]; exact incidents'.trans incidents
  · rw [← events]; exact priorities'.trans priorities
  · rw [← events]; exact target'.trans target
  · rw [← taken.stations, ← latched n, rows' n]
  · have next := steady.nextAfter taken served (idle m (by rw [inFlightMessage_congr events]; exact flying) source)
    rwa [sequence, show v.events.sequence = s.events.sequence by rw [events]] at next

/-- Settles O33: by whether the operands are in range, and by the clear byte. -/
theorem readIncidentReturnsAndClears : Obligations.ReadIncidentReturnsAndClears := by
  unfold Obligations.ReadIncidentReturnsAndClears
  intro h kind clear body s u named arrival served
  by_cases outside : kind.toNat < 16 ∨ 23 < kind.toNat ∨ 1 < clear.toNat
  · obtain ⟨t, run, answered, selection, regions, ports, line, -, -⟩ :=
      exec_unchanged named arrival served fun i v taken => claimReadIncident_badValue outside v
    refine ⟨t, _, run, answered, regions, ports, line, fun _ => ⟨rfl, selection⟩, fun k number low => ?_⟩
    have := k.isLt
    omega
  have number : 16 + (kind.toNat - 16) = kind.toNat := by omega
  obtain ⟨k, source, index⟩ := incidentKindOf_eq_some (k := ⟨kind.toNat - 16, by omega⟩) number
  have same (k' : Fin 8) (number' : 16 + k'.val = kind.toNat) : k' = incidentIndex k := by
    rw [index]; exact Fin.ext (by simp only; omega)
  have low : clear = 0 ∨ clear = 1 := by
    have : clear.toNat = 0 ∨ clear.toNat = 1 := by omega
    simpa [← BitVec.toNat_inj] using this
  rcases low with rfl | rfl
  · obtain ⟨t, run, answered, selection, regions, ports, line, -, -⟩ :=
      exec_unchanged (a := .data (.record (.incident (row s.events.incidents (incidentIndex k))))) named arrival served
        fun i v taken => by
          rw [claimOf, claimReadIncident_reads source rfl, taken.events]
          rfl
    refine ⟨t, _, run, answered, regions, ports, line, fun beyond => absurd beyond outside, fun k' number' _ => ?_⟩
    rw [same k' number']
    exact ⟨rfl, fun _ => selection, fun wrong => by cases wrong⟩
  · obtain ⟨t, run, answered, ⟨regions, ports, line, -, -⟩, incidents, priorities, target, latched, next⟩ :=
      exec_clears source rfl named arrival served
    refine ⟨t, _, run, answered, regions, ports, line, fun beyond => absurd beyond outside, fun k' number' _ => ?_⟩
    rw [same k' number']
    refine ⟨rfl, fun wrong => (by cases wrong), fun _ => ⟨incidents, priorities, target, latched,
      fun m flying numbered m' flying' => (next m flying ?_).inFlight flying'⟩⟩
    have found := sourceOf_eq_some_iff.mpr numbered
    unfold incidentKindOf at source
    rw [found] at source
    cases src : m.source with
    | station n => simp [src] at source
    | incident k'' => simp [src] at source; rw [source]

end

end Sys2Proof.Machine
end

section
/-! PROOFS. SET-PORT without a change to DOWN (R65, R147) and SET-STATION (R108, R148). -/

namespace Sys2Proof.Machine

-- one proof at a time: the text is compiled whole, in one process whose threads share its memory limit
set_option Elab.async false

section
variable {h : ReqHeader} {op : ManageOp} {body : List Byte} {s t u v : State} {i : SlotId} {c : Claim} {a : Answer} {p : PortId}

/-! ### SET-PORT (R147) -/

theorem settingOf_eq_none {b : Byte} (above : 1 < b.toNat) : settingOf b = none := by
  have zero : b ≠ 0 := fun same => by simp [same] at above
  have one : b ≠ 1 := fun same => by simp [same] at above
  rw [settingOf, if_neg zero, if_neg one]

theorem claimSetPort_badValue {port setting lifetime limit : Byte}
    (beyond : 3 < port.toNat ∨ 1 < setting.toNat ∨ lifetime.toNat = 0) (v : State) :
    claimSetPort port setting lifetime limit v = unchanged v (.fault .badValue) := by
  unfold claimSetPort
  rcases beyond with above | above | zero
  · rw [portOf_eq_none above] <;> rfl
  · rw [settingOf_eq_none above]
    cases portOf port <;> rfl
  · cases portOf port <;> cases settingOf setting <;> simp [(toNat_eq_zero_iff lifetime).mp zero, badValue]

theorem claimSetPort_sets {port setting lifetime limit : Byte} {new : Setting} (number : p.val = port.toNat)
    (code : settingOf setting = some new) (positive : 0 < lifetime.toNat) (v : State) :
    claimSetPort port setting lifetime limit v = carriedOut (applySetPort p new lifetime.toNat limit.toNat v) := by
  have nonzero : lifetime ≠ 0 := fun zero => by simp [zero] at positive
  simp only [claimSetPort, portOf_eq_some number, code, if_neg nonzero]

theorem setPort_twice (s : State) (p : PortId) (x y : Port) : (s.setPort p x).setPort p y = s.setPort p y := by
  simp only [State.setPort, putRow_putRow_self]

theorem applySetPort_same (p : PortId) (lifetime limit : Nat) (s : State) :
    applySetPort p (row s.ports p).setting lifetime limit s =
      s.setPort p { row s.ports p with lockLifetime := lifetime, holdLimit := limit } := by
  unfold applySetPort applySetting
  rw [row_setPort, if_pos rfl]
  dsimp only
  cases (row s.ports p).setting <;> rfl

/-- The hold request line of a port set UP is sampled: a raise is taken when it is asserted with gate NONE (R65, R83). -/
def raisedPort (x : Port) : Port :=
  if x.holdLine = true ∧ x.gate = .none then
    if x.state = .idle ∧ x.lock = none then
      { x with gate := .granted, state := .held, holdTimer := if x.holdLimit = 0 then .stopped else .running x.holdLimit }
    else { x with gate := .pending }
  else x

/-- A pending hold at a port with an empty queue: the arbiter grants it, or has nothing to decide (R49). -/
theorem arbiter_pending (empty : (row s.ports p).queue = []) (pending : (row s.ports p).gate = .pending) :
    arbiter p s = if (row s.ports p).state = .idle ∧ (row s.ports p).lock = none then grantHold p s else s := by
  split
  · next grants => exact arbiter_grants grants.1 pending grants.2
  · next refuses =>
    by_cases idle : (row s.ports p).state = .idle
    · cases locked : (row s.ports p).lock with
      | none => exact absurd ⟨idle, locked⟩ refuses
      | some l => exact arbiter_ownerAbsent locked (by simp [empty])
    · exact arbiter_busy idle

theorem takeRaise_emptyQueue (empty : (row s.ports p).queue = []) (up : (row s.ports p).setting = .up)
    (asserted : (row s.ports p).holdLine = true) : takeRaise p s = s.setPort p (raisedPort (row s.ports p)) := by
  unfold takeRaise raisedPort
  dsimp only
  by_cases gate : (row s.ports p).gate = .none
  · rw [if_pos ⟨up, gate⟩, if_pos ⟨asserted, gate⟩,
      arbiter_pending (by rw [row_setPort, if_pos rfl]; exact empty) (by rw [row_setPort, if_pos rfl])]
    simp only [row_setPort, if_pos]
    split
    · simp only [grantHold, row_setPort, if_pos, setPort_twice]
    · rfl
  · rw [if_neg (fun both => gate both.2), if_neg (fun both => gate both.2)]
    rw [State.setPort, putRow_row_self]

theorem applySetPort_up (down : (row s.ports p).setting = .down) (empty : (row s.ports p).queue = [])
    (lifetime limit : Nat) :
    applySetPort p .up lifetime limit s =
      s.setPort p (raisedPort { row s.ports p with setting := .up, lockLifetime := lifetime, holdLimit := limit }) := by
  unfold applySetPort applySetting
  simp only [row_setPort, if_pos, down, setPortUp, setPort_twice]
  split
  · next asserted =>
    rw [takeRaise_emptyQueue] <;> simp [empty, asserted, setPort_twice]
  · next released =>
    rw [raisedPort, if_neg (fun both => released both.1)]

theorem steady_setPort (p : PortId) (x : Port) (v : State) : SteadyClaim v (carriedOut (v.setPort p x)) .done :=
  .of_frame rfl rfl rfl rfl rfl rfl

/-- A SET-PORT whose claim writes the port's record and nothing else. -/
theorem exec_setsPort {port setting lifetime limit : Byte} {x : Port}
    (named : bodyOf (manageCommand h (.setPort port setting lifetime limit)) = some body) (arrival : Arrives body s u)
    (served : ManageServed s h) (claim : ∀ v, v.ports = s.ports →
      claimSetPort port setting lifetime limit v = carriedOut (v.setPort p x)) :
    ∃ t, exec (manageCommand h (.setPort port setting lifetime limit)) s = .next t ∧ ManageAnswered s t h .done ∧
      t.ports = putRow s.ports p x ∧ t.regions = s.regions ∧ t.line = s.line ∧ OnlySelection s t := by
  obtain ⟨i, v, t, taken, run, answered, selection, regions, ports, line, -, -⟩ := exec_steady (a := .done) named arrival served
    fun i v taken => by rw [claimOf, claim v taken.ports]; exact steady_setPort p x v
  rw [claimOf, claim v taken.ports] at selection regions ports line
  refine ⟨t, run, answered, ports.trans ?_, regions.trans taken.regions, line.trans taken.line,
    taken.onlySelection.trans (.trans (.of_eq rfl rfl) selection)⟩
  rw [← taken.ports]
  rfl

/-- Settles O25: the claim writes one port record, the sampled line included. -/
theorem setPortGivesSettingLifetimeAndLimit : Obligations.SetPortGivesSettingLifetimeAndLimit := by
  unfold Obligations.SetPortGivesSettingLifetimeAndLimit
  intro h port setting lifetime limit body s u named arrival served
  refine ⟨fun beyond => ?_, fun p x number positive here => ⟨fun code => ?_, fun code down empty => ?_⟩⟩
  · obtain ⟨t, run, answered, selection, regions, ports, line, -, -⟩ :=
      exec_unchanged named arrival served fun i v taken => claimSetPort_badValue beyond v
    exact ⟨t, run, answered, ports, regions, line, selection⟩
  · have coded : settingOf setting = some x.setting := by
      rw [code]
      cases x.setting <;> rfl
    refine exec_setsPort named arrival served fun v ports => ?_
    rw [claimSetPort_sets number coded positive, ← here, ← ports, applySetPort_same]
  · obtain ⟨t, run, answered, ports, regions, line, selection⟩ := exec_setsPort (p := p)
      (x := raisedPort { x with setting := .up, lockLifetime := lifetime.toNat, holdLimit := limit.toNat })
      named arrival served fun v ports => by
        rw [claimSetPort_sets number (show settingOf setting = some .up by rw [code]; rfl) positive,
          applySetPort_up (by rw [ports, here, down]) (by rw [ports, here, empty]), ports, here]
    exact ⟨t, run, answered, regions, line, selection, ports⟩

/-! ### SET-STATION (R148) -/

theorem claimSetStation_badValue {o : StationOperands}
    (beyond : 15 < o.station.toNat ∨ 1 < o.enable.toNat ∨ (o.rise ||| o.fall) &&& o.direction ≠ 0) (v : State) :
    claimSetStation o v = unchanged v (.fault .badValue) := by
  unfold claimSetStation
  rcases beyond with above | above | output
  · rw [stationNumber_eq_none above] <;> rfl
  · rw [yesNoOf_eq_none above]
    cases stationNumber o.station <;> rfl
  · cases stationNumber o.station <;> cases yesNoOf o.enable <;> simp only [if_pos output, badValue]

/-- A busy line, and a line with nothing queued, serve no request in this event: at most a poll starts (R120). -/
theorem lineArbiter_serves_none (quiet : s.line.op ≠ none ∨ s.line.queue = []) : ∃ l, lineArbiter s = s.setLine l := by
  rcases quiet with busy | empty
  · exact ⟨s.line, lineArbiter_busy busy⟩
  · by_cases idle : s.line.op = none
    · cases poll : outstandingPoll s with
      | none => exact ⟨s.line, by simp only [lineArbiter, lineArbiterFor, if_pos idle, empty, poll]; rfl⟩
      | some n => exact ⟨_, by simp only [lineArbiter, lineArbiterFor, if_pos idle, empty, poll]; rfl⟩
    · exact ⟨s.line, lineArbiter_busy idle⟩

/-- The check for a cycle's end moves the cycle and its due mark only (R118). -/
theorem checkCycleEnd_line (s : State) :
    ∃ cycle due, checkCycleEnd s = s.setLine { s.line with cycle := cycle, cycleDue := due } := by
  unfold checkCycleEnd
  split
  · exact ⟨s.line.cycle, s.line.cycleDue, rfl⟩
  · split
    · exact ⟨s.line.cycle, s.line.cycleDue, rfl⟩
    · split
      · exact ⟨_, false, rfl⟩
      · exact ⟨none, s.line.cycleDue, rfl⟩

theorem setStation_claim {x : Station} (quiet : v.line.op ≠ none ∨ v.line.queue = []) (n : StationId) :
    ∃ l, lineArbiter (checkCycleEnd (v.setStation n x)) = (v.setStation n x).setLine l ∧ (v.line.cycle = none → l = v.line) := by
  cases cycle : v.line.cycle with
  | none =>
    refine ⟨v.line, ?_, fun _ => rfl⟩
    have still : checkCycleEnd (v.setStation n x) = v.setStation n x := by simp [checkCycleEnd, cycle]
    rw [still]
    rcases quiet with busy | empty
    · exact lineArbiter_busy busy
    · exact lineArbiterFor_nothing _ empty cycle
  | some cursor =>
    obtain ⟨cycle', due, checked⟩ := checkCycleEnd_line (v.setStation n x)
    obtain ⟨l, served⟩ := lineArbiter_serves_none (s := checkCycleEnd (v.setStation n x)) (by rw [checked]; exact quiet)
    exact ⟨l, by rw [served, checked]; rfl, nofun⟩

theorem claimSetStation_sets {o : StationOperands} {n : StationId} {enable : Bool} (number : n.val = o.station.toNat)
    (code : yesNoOf o.enable = some enable) (inputs : (o.rise ||| o.fall) &&& o.direction = 0) (v : State) :
    claimSetStation o v =
      carriedOut (lineArbiter (checkCycleEnd (v.setStation n (afterSetStation (row v.stations n) enable o)))) := by
  simp only [claimSetStation, stationNumber_eq_some number, code, if_neg (not_not.mpr inputs)]

theorem afterSetStation_enabled (st : Station) (o : StationOperands) :
    afterSetStation st true o =
      { presence := if st.presence = .disabled then .unknown else st.presence
        timeouts := if st.presence = .disabled then 0 else st.timeouts
        direction := o.direction, inversion := o.inversion, rise := o.rise, fall := o.fall
        lastSample := if st.presence = .disabled then none
          else st.lastSample.map fun v => v ^^^ (st.inversion ^^^ o.inversion)
        image := st.image &&& ~~~(st.direction ^^^ o.direction)
        latched := st.latched &&& (o.rise ||| o.fall)
        delivered := st.delivered.map fun v => v &&& (o.rise ||| o.fall) } := by
  simp only [afterSetStation, if_true, enabledStation, withStationSets]
  cases st.presence <;> simp

theorem afterSetStation_disabled (st : Station) (o : StationOperands) :
    afterSetStation st false o =
      { presence := .disabled, timeouts := 0, direction := o.direction, inversion := o.inversion, rise := o.rise,
        fall := o.fall, lastSample := none, image := st.image &&& ~~~(st.direction ^^^ o.direction), latched := 0,
        delivered := none } := rfl

/-- The sets are replaced in the event of the operation, and the line is asked for its next work (R118, R148). -/
theorem exec_setsStation {o : StationOperands} {n : StationId} {enable : Bool} (number : n.val = o.station.toNat)
    (code : yesNoOf o.enable = some enable) (inputs : (o.rise ||| o.fall) &&& o.direction = 0)
    (named : bodyOf (manageCommand h (.setStation o)) = some body) (arrival : Arrives body s u) (served : ManageServed s h)
    (quiet : s.line.op ≠ none ∨ s.line.queue = []) :
    ∃ t, exec (manageCommand h (.setStation o)) s = .next t ∧ ManageAnswered s t h .done ∧
      OnlySelection (s.setStation n (afterSetStation (row s.stations n) enable o)) t ∧ t.regions = s.regions ∧
      t.ports = s.ports ∧ (s.line.cycle = none → t.line = s.line) := by
  obtain ⟨i, v, taken, run⟩ := exec_manageCommand named arrival served
  obtain ⟨served, -⟩ := served
  obtain ⟨l, claimed, kept⟩ := setStation_claim (x := afterSetStation (row v.stations n) enable o)
    (show v.line.op ≠ none ∨ v.line.queue = [] by rwa [taken.line]) n
  rw [claimOf, claimSetStation_sets number code inputs, claimed] at run
  have steady : SteadyClaim v (carriedOut ((v.setStation n (afterSetStation (row v.stations n) enable o)).setLine l)) .done :=
    .of_frame rfl rfl rfl rfl rfl rfl
  obtain ⟨selection, regions, ports, line, -, -⟩ := steady.effects taken served
  have claims : OnlySelection (s.setStation n (afterSetStation (row s.stations n) enable o))
      ((v.setStation n (afterSetStation (row v.stations n) enable o)).setLine l) :=
    .of_eq taken.events (by simp only [State.setLine_stations, State.setStation_stations, taken.stations])
  refine ⟨_, run, steady.answered taken served, claims.trans selection, regions.trans taken.regions,
    ports.trans taken.ports, fun idle => line.trans ((kept (by rw [taken.line]; exact idle)).trans taken.line)⟩

/-- Settles O27: by whether the operands are in range, and by the enable byte. -/
theorem setStationReplacesTheSets : Obligations.SetStationReplacesTheSets := by
  unfold Obligations.SetStationReplacesTheSets
  intro h o body s u named arrival served quiet
  refine ⟨fun beyond => ?_, fun n st new number here inputs form => ?_⟩
  · obtain ⟨t, run, answered, selection, regions, ports, line, -, -⟩ :=
      exec_unchanged named arrival served fun i v taken => claimSetStation_badValue beyond v
    exact ⟨t, run, answered, selection, line, regions, ports⟩
  · rcases form with ⟨enable, rfl⟩ | ⟨disable, rfl⟩
    · rw [← afterSetStation_enabled, ← here]
      exact exec_setsStation number (by rw [enable]; rfl) inputs named arrival served quiet
    · rw [← afterSetStation_disabled st, ← here]
      exact exec_setsStation number (by rw [disable]; rfl) inputs named arrival served quiet

end

end Sys2Proof.Machine
end

section
/-! PROOFS. The end of a service outside any chain (R53 to R61, R74, R75), and the second step of a NARROW word (R59). -/

namespace Sys2Proof.Machine

-- one proof at a time: the text is compiled whole, in one process whose threads share its memory limit
set_option Elab.async false

section
variable {s t u v : State} {p : PortId} {cur : Issued} {x : Slot} {w : PortWork} {r : RegionRecord} {l : LockRecord}
  {bytes : SegmentBytes} {c : Instr} {i : SlotId} {a : Answer} {m : Message} {failed : Bool}

/-! ### The completion of a step -/

theorem CompletesStep.runs (completes : CompletesStep c p cur bytes) (issued : (row s.ports p).state = .issued cur) :
    exec c s = .next (selectEvent (stepSucceeds p cur bytes s)) := by
  rcases completes with ⟨rfl, d, timer⟩ | ⟨rfl, d, timer⟩
  · have run : exec (.fixedDelayExpiry p bytes) s = .next (selectEvent (fixedExpiryAt p bytes s)) := rfl
    rw [run, fixedExpiryAt]
    simp only [issued, timer]
  · rw [exec_readyIndication, readyAt_ready issued timer]

theorem stepSucceeds_last (presents : Presents s p cur x w r)
    (last : ¬(w.width = .word ∧ r.fields.lanes = .narrow ∧ cur.step = .one)) (bytes : SegmentBytes) :
    stepSucceeds p cur bytes s =
      endService p cur.slot (successAnswer w r.fields.lanes (cur.lowByte.getD 0) bytes) false s := by
  obtain ⟨-, held, work, present⟩ := presents
  have final : (isNarrowWord w r.fields.lanes && decide (cur.step = .one)) = false := by
    simp only [isNarrowWord, Bool.and_eq_false_iff, decide_eq_false_iff_not]
    tauto
  simp [stepSucceeds, held, portWorkOf_eq_some held work, present, final]

theorem stepSucceeds_first (presents : Presents s p cur x w r) (word : w.width = .word) (narrow : r.fields.lanes = .narrow)
    (one : cur.step = .one) (bytes : SegmentBytes) :
    stepSucceeds p cur bytes s = presentStepTwo p cur x w r.fields bytes s := by
  obtain ⟨-, held, work, present⟩ := presents
  simp [stepSucceeds, held, portWorkOf_eq_some held work, present, isNarrowWord, word, narrow, one]

/-! ### The end of a service at a port where nothing waits -/

/-- The parts of the state that a release reads are the same. -/
def SameHolders (s t : State) : Prop :=
  t.slots = s.slots ∧ t.initiators = s.initiators ∧ t.acceptCounter = s.acceptCounter ∧ t.chains = s.chains ∧ t.link = s.link

theorem Released.congr (released : Released s v i x m) (before : SameHolders s t) (after : SameHolders v u) :
    Released t u i x m := by
  obtain ⟨slots, initiators, counter, chains, link⟩ := before
  obtain ⟨slots', initiators', counter', chains', link'⟩ := after
  simp only [Released, SameReceiver, EndsAbandonment, abandonAnswer, slots, initiators, counter, chains, link, slots', initiators',
    counter', chains', link'] at released ⊢
  exact released

/-- Where nothing waits at the port, the end of a service releases its slot and leaves the port IDLE (R58). -/
theorem endService_lone (held : row s.slots i = some x) (work : x.work = .port w) (lone : x.role = .none)
    (unlocked : lockAtEnd p w failed s = u) (kept : row u.slots i = some x) (empty : (row u.ports p).queue = [])
    (gate : (row u.ports p).gate ≠ .pending) (a : Answer) :
    endService p i a failed s = idlePort p (finishSlot i a (postedFailAtEnd p x w failed u)) := by
  have held' : row (postedFailAtEnd p x w failed u).slots i = some x := by simpa using kept
  have ports : (finishSlot i a (postedFailAtEnd p x w failed u)).ports = u.ports := by simp
  simp only [endService, held, portWorkOf_eq_some held work, unlocked, completeSlot_lone held' lone]
  refine arbiter_nothing ?_ ?_
  · rw [idlePort, row_setPort, if_pos rfl, ports]; exact gate
  · rw [idlePort, row_setPort, if_pos rfl, ports]; exact empty

/-- What such an end of a service leaves, where no drain ends with it. -/
structure ServiceEnds (s v : State) (p : PortId) (x : Slot) (i : SlotId) (a : Answer) (lock : Option LockRecord)
    (e : EntryId) (r : RegionRecord) (events : EventUnit) : Prop where
  released : Released s v i x (loneResponse x a)
  regions : v.regions = putRow s.regions e (some r)
  ports : v.ports = putRow s.ports p { row s.ports p with state := .idle, lock := lock }
  stations : v.stations = s.stations
  line : v.line = s.line
  events : v.events = events
  management : v.management = s.management

/-- The events after a failed service of an answered slot (R61). -/
def eventsAtEnd (p : PortId) (x : Slot) (w : PortWork) (failed : Bool) (e : EventUnit) : EventUnit :=
  if failed && x.answered then
    { e with incidents := putRow e.incidents 3 (raised (row e.incidents 3) (some (.portAddress p w.target))) }
  else e

theorem postedFailAtEnd_eq (p : PortId) (x : Slot) (w : PortWork) (failed : Bool) (s : State) :
    postedFailAtEnd p x w failed s = s.setEvents (eventsAtEnd p x w failed s.events) := by
  unfold postedFailAtEnd eventsAtEnd
  split
  · rfl
  · rfl

theorem lowered_stays {n : Nat} (stays : NoDrainEnds r (n + 1)) :
    NoDrainEnds { r with inFlight := r.inFlight - 1 } n := by
  rcases stays with active | more
  · exact .inl active
  · exact .inr (by simp only; omega)

theorem lockAtEnd_keeps (standing : endsLock w.kind failed = false) (p : PortId) (s : State) :
    lockAtEnd p w failed s = s := by simp [lockAtEnd, standing]

/-- The end of a service that leaves the lock record as it is (R58). -/
theorem endService_plain (presents : Presents s p cur x w r) (lone : x.role = .none)
    (standing : endsLock w.kind failed = false ∨ (row s.ports p).lock = none) (stays : NoDrainEnds r 1)
    (empty : (row s.ports p).queue = []) (gate : (row s.ports p).gate ≠ .pending) (a : Answer) :
    ServiceEnds s (endService p cur.slot a failed s) p x cur.slot a (row s.ports p).lock w.entry
      { r with inFlight := r.inFlight - 1 } (eventsAtEnd p x w failed s.events) := by
  obtain ⟨-, held, work, present⟩ := presents
  have unlocked : lockAtEnd p w failed s = s := by
    rcases standing with stands | noLock
    · exact lockAtEnd_keeps stands p s
    · unfold lockAtEnd removeLock
      split <;> simp [noLock]
  obtain ⟨released, regions, management⟩ := finishSlot_port (s := s.setEvents (eventsAtEnd p x w failed s.events)) held lone work
    present stays a
  rw [endService_lone held work lone unlocked held empty gate, postedFailAtEnd_eq]
  exact {
    released := released.congr ⟨rfl, rfl, rfl, rfl, rfl⟩ ⟨rfl, rfl, rfl, rfl, rfl⟩
    regions := regions
    ports := by simp [idlePort]
    stations := by simp [idlePort]
    line := by simp [idlePort]
    events := by simp [idlePort]
    management := management }

/-- The removal of the lock record at a busy port where nothing waits (R69). -/
theorem lockAtEnd_removes (ends : endsLock w.kind failed = true) (locked : (row s.ports p).lock = some l)
    (busy : (row s.ports p).state ≠ .idle) (empty : (row s.ports p).queue = []) (present : row s.regions l.entry = some r)
    (stays : NoDrainEnds r 1) :
    lockAtEnd p w failed s =
      (s.setPort p { row s.ports p with lock := none }).setRegion l.entry (some { r with inFlight := r.inFlight - 1 }) := by
  have port : ({ row s.ports p with
      lock := none, queue := (row s.ports p).queue.filter fun i => !isUnlockOf s l.owner i } : Port) =
      { row s.ports p with lock := none } := by rw [Port.mk.injEq]; simp [empty]
  have dropped : dropLock p l false s =
      (s.setPort p { row s.ports p with lock := none }).setRegion l.entry (some { r with inFlight := r.inFlight - 1 }) := by
    rw [dropLock_eq, unlockedPort, port, empty, List.filter_nil, lowerCount_counts (by simpa using present) stays]
    rfl
  rw [lockAtEnd, if_pos ends]
  simp only [removeLock, locked]
  rw [arbiter_busy (by rw [dropLock_portState]; exact busy), dropped]

/-- The end of a service that takes the lock record with it (R58, R69, R74, R75). -/
theorem endService_unlocks (presents : Presents s p cur x w r) (lone : x.role = .none)
    (ends : endsLock w.kind failed = true) (locked : (row s.ports p).lock = some l) (entry : l.entry = w.entry)
    (stays : NoDrainEnds r 2) (empty : (row s.ports p).queue = []) (gate : (row s.ports p).gate ≠ .pending) (a : Answer) :
    ServiceEnds s (endService p cur.slot a failed s) p x cur.slot a none w.entry
      { r with inFlight := r.inFlight - 1 - 1 } (eventsAtEnd p x w failed s.events) := by
  obtain ⟨issued, held, work, present⟩ := presents
  have still : NoDrainEnds r 1 := stays.imp_right fun more => by omega
  have unlocked := lockAtEnd_removes ends locked (by simp [issued]) empty (by rw [entry]; exact present) still
  rw [entry] at unlocked
  generalize after : (s.setPort p { row s.ports p with lock := none }).setRegion w.entry
    (some { r with inFlight := r.inFlight - 1 }) = u at unlocked
  have held' : row u.slots cur.slot = some x := by rw [← after]; exact held
  have port : row u.ports p = { row s.ports p with lock := none } := by rw [← after]; simp
  obtain ⟨released, regions, management⟩ := finishSlot_port (s := u.setEvents (eventsAtEnd p x w failed u.events)) held' lone work
    (by rw [← after]; simp) (lowered_stays stays) a
  rw [endService_lone held work lone unlocked held' (by rw [port]; exact empty) (by rw [port]; exact gate), postedFailAtEnd_eq]
  exact {
    released := released.congr (by rw [← after]; exact ⟨rfl, rfl, rfl, rfl, rfl⟩) ⟨rfl, rfl, rfl, rfl, rfl⟩
    regions := by
      refine regions.trans ?_
      rw [← after]
      simp
    ports := by
      have ports : u.ports = putRow s.ports p { row s.ports p with lock := none } := by rw [← after]; rfl
      simp [idlePort, ports]
    stations := by rw [← after]; simp [idlePort]
    line := by rw [← after]; simp [idlePort]
    events := by rw [← after]; simp [idlePort]
    management := management.trans (by rw [← after]; rfl) }

theorem eventsAtEnd_success (p : PortId) (x : Slot) (w : PortWork) (e : EventUnit) : eventsAtEnd p x w false e = e := rfl

/-- Settles O36: the step ends the service, which leaves the lock record. -/
theorem lastStepAnswersAndReleasesTheSlot : Obligations.LastStepAnswersAndReleasesTheSlot := by
  unfold Obligations.LastStepAnswersAndReleasesTheSlot
  intro c p cur x w r bytes s completes presents last noUnlock lone stays empty gate
  have standing : endsLock w.kind false = false := by
    cases kind : w.kind with
    | unlockWrite d => exact absurd kind (noUnlock d)
    | read => rfl
    | write d => rfl
    | lockRead => rfl
  have ends := endService_plain (failed := false) presents lone (.inl standing) stays empty gate
    (successAnswer w r.fields.lanes (cur.lowByte.getD 0) bytes)
  refine ⟨_, completes.runs presents.1, ?_⟩
  rw [stepSucceeds_last presents last]
  refine ⟨?_, ends.regions, ends.ports, ends.stations, ends.line, ends.events, ends.management⟩
  have plain : successAnswer w r.fields.lanes (cur.lowByte.getD 0) bytes ≠ .fault .timeout := by
    unfold successAnswer
    cases w.kind <;> simp
  have released := ends.released
  rw [loneResponse_plain (.inr plain)] at released
  exact released

/-- Settles O37: the step ends the service, which takes the lock record with it. -/
theorem unlockWriteRemovesTheLockRecord : Obligations.UnlockWriteRemovesTheLockRecord := by
  unfold Obligations.UnlockWriteRemovesTheLockRecord
  intro c p cur x w r l d bytes s completes presents last kind locked entry lone stays empty gate
  have ends := endService_unlocks (failed := false) presents lone (by simp [kind, endsLock]) locked entry stays empty gate
    (successAnswer w r.fields.lanes (cur.lowByte.getD 0) bytes)
  refine ⟨_, completes.runs presents.1, ?_⟩
  rw [stepSucceeds_last presents last]
  refine ⟨?_, ends.regions, ends.ports, ends.stations, ends.line, ends.events, ends.management⟩
  have done : successAnswer w r.fields.lanes (cur.lowByte.getD 0) bytes = .done := by simp [successAnswer, kind]
  have released := ends.released
  rw [done, loneResponse_plain (.inr (by simp))] at released
  rwa [done]

/-! ### The failure of a step (R55) -/

theorem exec_readyTimerExpiry {t : Nat} (issued : (row s.ports p).state = .issued cur) (timer : cur.timer = .ready t) :
    exec (.readyTimerExpiry p) s = .next (selectEvent (stepFails p cur s)) := by
  have run : exec (.readyTimerExpiry p) s = .next (selectEvent (readyExpiryAt p s)) := rfl
  rw [run, readyExpiryAt]
  simp only [issued, timer]

/-- The state in which READY-TIMEOUT has been raised with the address of the failed step. -/
def timedOut (p : PortId) (cur : Issued) (s : State) : State :=
  raiseIncident .readyTimeout (some (.portAddress p cur.presented.address)) s

theorem eventsAtEnd_timedOut (p : PortId) (cur : Issued) (x : Slot) (w : PortWork) (s : State) :
    eventsAtEnd p x w true (timedOut p cur s).events = { s.events with
      incidents := if x.answered = true then
          putRow (putRow s.events.incidents 1
            (raised (row s.events.incidents 1) (some (.portAddress p cur.presented.address)))) 3
            (raised (row s.events.incidents 3) (some (.portAddress p w.target)))
        else putRow s.events.incidents 1
          (raised (row s.events.incidents 1) (some (.portAddress p cur.presented.address))) } := by
  have other : row (putRow s.events.incidents 1 (raised (row s.events.incidents 1) (some (.portAddress p cur.presented.address)))) 3 =
      row s.events.incidents 3 := row_putRow_ne _ _ _ _ (by decide)
  have events : (timedOut p cur s).events = { s.events with
      incidents := putRow s.events.incidents 1
        (raised (row s.events.incidents 1) (some (.portAddress p cur.presented.address))) } := rfl
  unfold eventsAtEnd
  rw [events, Bool.true_and]
  split
  · simp only [other]
  · rfl

/-- Settles O38: READY-TIMEOUT is raised, and the service ends with a failure. -/
theorem readyTimeoutFailsTheSlot : Obligations.ReadyTimeoutFailsTheSlot := by
  unfold Obligations.ReadyTimeoutFailsTheSlot
  intro p cur x w r t s presents timer lone empty gate owned
  have presents' : Presents (timedOut p cur s) p cur x w r := presents
  have same : SameHolders (timedOut p cur s) s := ⟨rfl, rfl, rfl, rfl, rfl⟩
  refine ⟨stepFails p cur s, exec_readyTimerExpiry presents.1 timer, fun stays => ?_⟩
  have still : NoDrainEnds r 1 := stays.imp_right fun more => by omega
  show Released s (endService p cur.slot (.fault .timeout) true (timedOut p cur s)) cur.slot x _ ∧ _
  rw [← loneResponse_timeout, ← eventsAtEnd_timedOut p cur x w s]
  by_cases plain : endsLock w.kind true = false ∨ (row s.ports p).lock = none
  · have ends := endService_plain presents' lone plain still empty gate (.fault .timeout)
    refine ⟨ends.released.congr same ⟨rfl, rfl, rfl, rfl, rfl⟩, ends.events, fun _ => ⟨ends.regions, ends.ports⟩,
      fun takes locked => ?_, ends.stations, ends.line, ends.management⟩
    rcases plain with stands | noLock
    · rcases takes with kind | ⟨d, kind⟩ <;> simp [kind, endsLock] at stands
    · exact absurd noLock locked
  · rw [not_or, Bool.not_eq_false] at plain
    obtain ⟨takes, stands⟩ := plain
    obtain ⟨l, locked⟩ := Option.ne_none_iff_exists'.mp stands
    have ends := endService_unlocks presents' lone takes locked (owned l locked) stays empty gate (.fault .timeout)
    refine ⟨ends.released.congr same ⟨rfl, rfl, rfl, rfl, rfl⟩, ends.events, fun keeps => ?_,
      fun _ _ => ⟨ends.regions, ends.ports⟩, ends.stations, ends.line, ends.management⟩
    rcases keeps with (kind | ⟨d, kind⟩) | noLock
    · simp [kind, endsLock] at takes
    · simp [kind, endsLock] at takes
    · exact absurd noLock stands

/-! ### The second step of a NARROW word (R59) -/

/-- Settles O39: step 1 is followed by step 2 within its own event. -/
theorem narrowWordPresentsStepTwo : Obligations.NarrowWordPresentsStepTwo := by
  unfold Obligations.NarrowWordPresentsStepTwo
  intro c p cur x w r bytes s completes presents word narrow one
  refine ⟨_, completes.runs presents.1, ?_⟩
  rw [stepSucceeds_first presents word narrow one]
  refine ⟨rfl, ?_, rfl, rfl, rfl, rfl, rfl, rfl, rfl, rfl, rfl⟩
  cases kind : w.kind <;> cases completion : r.fields.completion <;>
    simp [presentStepTwo, kind, completion, writeData, stepTimerOf, byteAt_eq, segmentStep, stepData, word, narrow]

end

end Sys2Proof.Machine
end

section
/-! PROOFS. Releases one after another: the slots that a broken lock loses (R69, R76), and the end of a drain (R18, R144). -/

namespace Sys2Proof.Machine

-- one proof at a time: the text is compiled whole, in one process whose threads share its memory limit
set_option Elab.async false

section
variable {s t u v : State} {p : PortId} {cur : Issued} {x y : Slot} {w : PortWork} {r : RegionRecord} {l : LockRecord}
  {bytes : SegmentBytes} {c : Instr} {i j : SlotId} {a : Answer} {m : Message} {g : Exempt} {k : Initiator}

/-! ### What a release leaves to the other slots -/

theorem Agree.ends (agree : Agree g s) (ends : (True → Agree g s) → Ends True True g s t) : Agree g t ∧ Lessens g s t :=
  ⟨(ends fun _ => agree).queues trivial, (ends fun _ => agree).lessens trivial⟩

theorem Agree.finishSlot (agree : Agree g s) (loose : Loose g s i) (a : Answer) :
    Agree g (finishSlot i a s) ∧ Lessens g s (finishSlot i a s) :=
  agree.ends fun q => finishSlot_ends q (fun _ => loose) a

/-- The release of one slot leaves every other one as it is, but a MANAGE slot whose drain it ends (R37). -/
theorem finishSlot_rows (agree : Agree g s) (loose : Loose g s i) (a : Answer) (other : j ≠ i) (held : row s.slots j = some y)
    (work : ∀ op, y.work ≠ .manage op) : row (finishSlot i a s).slots j = some y := by
  unfold Machine.finishSlot
  split
  · exact held
  · next x hx =>
    obtain ⟨agree', lessens⟩ := agree.ends (reportToChain_ends (A := True) (B := True) · i x a)
    have held' : row (reportToChain i x a s).slots j = some y := by simpa using held
    have hx' : row (reportToChain i x a s).slots i = some x := by simpa using hx
    have freed := freedFrom_answerSlot hx' a
    have after := (freed.lessens (lessens.loose loose x hx')).agree agree'
    simp only [releaseSlot, endAbandonment_slots, leaveChain_frame]
    exact lowerWorkCount_rows after _ (by rw [freed.slots, row_putRow_ne _ _ _ _ other, held']) work

/-- What is handed over later is handed over since then. -/
theorem Hands.since (before : s.link.outbound <+: t.link.outbound) (hands : Hands t u m) : Hands s u m := by
  obtain ⟨joined, outbound, mem⟩ := hands
  obtain ⟨first, before⟩ := before
  exact ⟨first ++ joined, by rw [outbound, ← before, List.append_assoc], List.mem_append_right _ mem⟩

theorem Hands.until (hands : Hands s t m) (after : t.link.outbound <+: u.link.outbound) : Hands s u m := by
  obtain ⟨joined, outbound, mem⟩ := hands
  obtain ⟨last, after⟩ := after
  exact ⟨joined ++ last, by rw [← after, outbound, List.append_assoc], List.mem_append_left _ mem⟩

/-- A slot that is due a RESPONSE and is no LAST is answered when it is released (R36). -/
theorem finishSlot_hands (held : row s.slots i = some x) (notLast : isLastRole x.role = false) (unanswered : x.answered = false)
    (unsuppressed : x.suppressed = false) (up : s.link.state = .up) (a : Answer) :
    Hands s (finishSlot i a s) (loneResponse x a) := by
  unfold finishSlot
  rw [held]
  have reported : (reportToChain i x a s).link = s.link := by simp
  refine .of_grows (v := reportToChain i x a s) (by rw [reported]) (releaseSlot_grows i x _ ?_)
  unfold answerSlot
  simp only [unanswered, unsuppressed, Bool.or_self, Bool.false_eq_true, if_false, notLast, Bool.false_and]
  rw [respond, handOver_outbound_up _ _ (by simpa using up)]
  simp [loneResponse]

/-! ### The slots that lose a lock (R69) -/

/-- Each slot of a list that loses a lock is released in its turn, with its RESPONSE where one is due. -/
theorem loseUnlocks_releases (lost : List SlotId) (agree : Agree g s) (loose : ∀ i, i ∈ lost → Loose g s i) (nodup : lost.Nodup)
    (mem : i ∈ lost) :
    row (loseUnlocks lost s).slots i = none ∧
      ∀ x, row s.slots i = some x → (∀ op, x.work ≠ .manage op) → x.role = .none → x.answered = false → x.suppressed = false →
        s.link.state = .up → Hands s (loseUnlocks lost s) (plainResponse x.initiator x.tag (.fault .lockLost)) := by
  induction lost generalizing s with
  | nil => cases mem
  | cons k rest ih =>
    obtain ⟨new, nodup⟩ := List.nodup_cons.mp nodup
    obtain ⟨agree', lessens⟩ := agree.finishSlot (loose k (by simp)) (.fault .lockLost)
    rcases List.mem_cons.mp mem with rfl | later
    · refine ⟨(loseUnlocks_keptOrFreed rest i _).free (finishSlot_frees i _ s), fun x held work lone unanswered unsuppressed up => ?_⟩
      have hands := finishSlot_hands held (by simp [lone, isLastRole]) unanswered unsuppressed up (.fault .lockLost)
      rw [loneResponse_plain (.inr (by simp))] at hands
      exact hands.until (loseUnlocks_grows rest _ List.prefix_rfl)
    · obtain ⟨freed, hands⟩ := ih agree' (fun j hj => lessens.loose (loose j (by simp [hj]))) nodup later
      refine ⟨freed, fun x held work lone unanswered unsuppressed up =>
        .since (finishSlot_grows k (.fault .lockLost) s List.prefix_rfl) ?_⟩
      refine hands x (finishSlot_rows agree (loose k (by simp)) _ ?_ held work) work lone unanswered unsuppressed (by simpa using up)
      rintro rfl
      exact new later

/-! ### The expiry of the lifetime timer (R76) -/

theorem exec_lockLifetimeExpiry (p : PortId) (s : State) :
    exec (.lockLifetimeExpiry p) s =
      .next (selectEvent (if lifetimeRuns (row s.ports p) then removeLock p true s else s)) := rfl

/-- Settles O42: where the timer runs, the record is dropped and its owner's queued UNLOCK-WRITEs are released in turn. -/
theorem lockExpiryBreaksTheLock : Obligations.LockExpiryBreaksTheLock := by
  unfold Obligations.LockExpiryBreaksTheLock
  refine fun p s => ⟨fun stopped => ?_, fun l d r ok locked timer busy present stays => ?_⟩
  · rw [exec_lockLifetimeExpiry, if_neg]
    rcases stopped with noLock | ⟨l, locked, timer⟩
    · simp [lifetimeRuns, noLock]
    · simp [lifetimeRuns, locked, timer]
  have run : exec (.lockLifetimeExpiry p) s = .next (selectEvent (dropLock p l true s)) := by
    rw [exec_lockLifetimeExpiry, if_pos (by simp [lifetimeRuns, locked, timer])]
    simp only [removeLock, locked]
    rw [arbiter_busy (by rw [dropLock_portState]; exact busy)]
  have agree := (agree_nothing_iff s).mpr ok
  have lowered := lowerCount_counts (s := unlockedPort s p l) (e := l.entry) present stays
  have lessens : Lessens .nothing s (lowerCount l.entry (unlockedPort s p l)) :=
    (unlockedPort_lessens .nothing p l s).trans (lowerCount_lessens ((unlockedPort_lessens .nothing p l s).agree agree) _)
  have loose (i : SlotId) (mem : i ∈ (row s.ports p).queue.filter (isUnlockOf s l.owner)) :
      Loose .nothing (lowerCount l.entry (unlockedPort s p l)) i := by
    obtain ⟨queued, unlock⟩ := List.mem_filter.mp mem
    exact agree.unqueued_loose lessens queued (by simp [unlockedPort, unlock])
  refine ⟨dropLock p l true s, run, (dropLock_ports p l true s).trans (by simp [unlockedPort]), ?_, fun i queued unlock => ?_,
    fun none_lost => ?_, by simp, by simp, by simp⟩
  · rw [dropLock_eq, if_pos rfl]
    simp [raiseIncident, incidentIndex, unlockedPort]
  · obtain ⟨freed, hands⟩ := loseUnlocks_releases _ (lessens.agree agree) loose ((agree.queueNodup p).filter _)
      (List.mem_filter.mpr ⟨queued, unlock⟩)
    rw [dropLock_eq, if_pos rfl]
    refine ⟨by simpa using freed, fun x held lone unanswered unsuppressed up => ?_⟩
    obtain ⟨z, w, hz, -, work, -⟩ := agree.queue p i queued
    obtain rfl : x = z := Option.some.inj (held.symm.trans hz)
    have manages (op : ManageOp) : x.work ≠ .manage op := by simp [work]
    have hands := hands x (lowerCount_rows ((unlockedPort_lessens .nothing p l s).agree agree) _ held manages) manages lone unanswered
      unsuppressed (by simpa [unlockedPort] using up)
    refine .since (lowerCount_grows l.entry (unlockedPort s p l) List.prefix_rfl) ?_
    exact hands.until (by simp)
  · have lost : (row s.ports p).queue.filter (isUnlockOf s l.owner) = [] := by simpa using none_lost
    rw [dropLock_eq, if_pos rfl, lost, lowered]
    exact ⟨rfl, rfl, rfl, rfl⟩

/-! ### The end of a drain (R18, R144) -/

theorem endAbandonment_goesOn (goesOn : (row s.initiators k).mode = .normal ∨ (row s.initiators k).occupancy ≠ 0) :
    endAbandonment k s = s := by
  rw [endAbandonment, if_neg]
  rintro ⟨mode, empty⟩
  rcases goesOn with normal | more
  · simp [normal] at mode
  · exact more empty

/-- The drain of an entry that one RETIRE-REGION waits for answers that one's slot (R144). -/
theorem answerRetire_single {e : EntryId} {q : PendingRetire} (agree : Agree g s)
    (listed : s.management.retires.filter (fun k => decide (k.entry = e)) = [q]) (held : row s.slots j = some y)
    (initiator : y.initiator = q.initiator) (tag : y.tag = q.tag) :
    answerRetire e s = endAbandonment y.initiator (freeSlotOf j y.initiator (answerSlot j y .done (retireListed e s))) := by
  have waits (r : PendingRetire) : r ∈ s.management.retires ∧ r.entry = e ↔ r = q := by
    have mem : r ∈ s.management.retires.filter (fun k => decide (k.entry = e)) ↔ r = q := by rw [listed, List.mem_singleton]
    simpa using mem
  rcases answerRetire_cases e s with ⟨nobody, -⟩ | ⟨r, hr, entry, ⟨noSlot, -⟩ | ⟨j', y', held', initiator', tag', run⟩⟩
  · obtain ⟨hq, entry⟩ := (waits q).mpr rfl
    exact absurd entry (nobody q hq)
  · obtain rfl := (waits r).mp ⟨hr, entry⟩
    exact absurd ⟨initiator, tag⟩ ((slotOfKey_eq_none_iff _ _ _).mp noSlot j y held)
  · obtain rfl := (waits r).mp ⟨hr, entry⟩
    obtain rfl := agree.keys j' j y' y held' held (initiator'.trans initiator.symm) (tag'.trans tag.symm)
    obtain rfl : y = y' := Option.some.inj (held.symm.trans held')
    exact run

/-- The state in which a slot has been answered and is FREE, with its initiator's occupancy given back (R36, R37). -/
def freedAnswered (i : SlotId) (x : Slot) (a : Answer) (s : State) : State := freeSlotOf i x.initiator (answerSlot i x a s)

theorem freedAnswered_outbound (lone : x.role = .none) (due : x.answered = false ∧ x.suppressed = false) (up : s.link.state = .up) :
    (freedAnswered i x a s).link.outbound = s.link.outbound ++ [loneResponse x a] := by
  obtain ⟨unanswered, unsuppressed⟩ := due
  rw [freedAnswered, freeSlotOf_link, answerSlot_lone_outbound lone]
  simp [unanswered, unsuppressed, up]

theorem freedAnswered_occupancy (stays : NoAbandonmentEnds s x) (i : SlotId) (a : Answer) :
    (row (freedAnswered i x a s).initiators x.initiator).mode = .normal ∨
      (row (freedAnswered i x a s).initiators x.initiator).occupancy ≠ 0 := by
  rw [freedAnswered, freeSlotOf_answered_initiators, row_putRow_self]
  exact stays.imp_right fun more => by simp only; omega

theorem freedAnswered_other (other : k ≠ x.initiator) (i : SlotId) (a : Answer) (s : State) :
    row (freedAnswered i x a s).initiators k = row s.initiators k := by
  rw [freedAnswered, freeSlotOf_answered_initiators, row_putRow_ne _ _ _ _ other]

/-- Settles O40: the release of the step's slot ends the drain, which releases the slot of its RETIRE-REGION. -/
theorem lastReferenceEndsTheDrain : Obligations.LastReferenceEndsTheDrain := by
  unfold Obligations.LastReferenceEndsTheDrain
  intro c p cur x y w r j q bytes s ok completes presents last kind lone goesOn draining one listed held initiator tag lone' other
    goesOn' up unanswered unsuppressed unanswered' unsuppressed' empty gate
  obtain ⟨issued, held_x, work, present⟩ := presents
  have agree := (agree_nothing_iff s).mpr ok
  generalize answer : Answer.data (readValue w r.fields.lanes (cur.lowByte.getD 0) bytes) = a
  generalize freed : (freedAnswered cur.slot x a s).setRegion w.entry none = v
  have agree_v : Agree (.service p) v := by
    obtain ⟨z, w', held_z, active, work', port⟩ := agree.current p cur (by simp [Exempt.nothing]) issued
    obtain rfl : x = z := Option.some.inj (held_x.symm.trans held_z)
    have serving : Agree (.service p) s := agree.exempt rfl
    have loose : NoReference (.service p) s cur.slot x := serving.noReference_of_served held_x active work' (by rw [port]; rfl)
    have lessens := (freedFrom_answerSlot held_x a).lessens loose
    rw [← freed]
    exact (setRegion_lessens _ _ _ _).agree (lessens.agree serving)
  have apart : j ≠ cur.slot := by
    rintro rfl
    exact other (by rw [Option.some.inj (held_x.symm.trans held)])
  have slots : v.slots = putRow s.slots cur.slot none := by
    rw [← freed]; exact freeSlotOf_answered_slots cur.slot x a s
  have management : v.management = s.management := by rw [← freed]; simp [freedAnswered]
  have drained := answerRetire_single (j := j) (y := y) agree_v (by rw [management]; exact listed)
    (by rw [slots, row_putRow_ne _ _ _ _ apart]; exact held) initiator tag
  have lowered : lowerWorkCount x.work (freedAnswered cur.slot x a s) = answerRetire w.entry v := by
    simp only [lowerWorkCount, work, workEntry]
    rw [lowerCount_present (r := r) (by simpa [freedAnswered] using present), if_pos ⟨draining, by omega⟩, freed]
  generalize retired : freedAnswered j y .done (retireListed w.entry v) = t at drained
  have initiators (k : Initiator) (here : k ≠ y.initiator) : row t.initiators k = row (freedAnswered cur.slot x a s).initiators k := by
    rw [← retired, freedAnswered_other here, ← freed]
    rfl
  have untouched : row v.initiators y.initiator = row s.initiators y.initiator := by
    rw [← freed]
    exact freedAnswered_other (Ne.symm other) cur.slot a s
  have ended : endAbandonment y.initiator t = t := by
    refine endAbandonment_goesOn ?_
    rw [← retired]
    refine freedAnswered_occupancy (s := retireListed w.entry v) ?_ j .done
    rw [NoAbandonmentEnds, show (retireListed w.entry v).initiators = v.initiators from rfl, untouched]
    exact goesOn'
  have ended' : endAbandonment x.initiator t = t := by
    refine endAbandonment_goesOn ?_
    rw [initiators _ other]
    exact freedAnswered_occupancy goesOn cur.slot a
  have finished : finishSlot cur.slot a s = t := by
    rw [finishSlot_lone held_x lone, show freeSlotOf _ _ _ = freedAnswered cur.slot x a s from rfl, lowered, drained,
      show freeSlotOf _ _ _ = freedAnswered j y .done (retireListed w.entry v) from rfl, retired, ended, ended']
  have run : stepSucceeds p cur bytes s = idlePort p t := by
    rw [stepSucceeds_last ⟨issued, held_x, work, present⟩ last,
      endService_lone held_x work lone (lockAtEnd_keeps (by simp [kind, endsLock]) p s) held_x empty gate]
    simp only [successAnswer, kind, answer, postedFailAtEnd_success, finished]
  refine ⟨idlePort p t, run ▸ completes.runs issued, ?_, ?_, ?_, ?_⟩
  · rw [← retired, ← freed]
    simp [idlePort, freedAnswered, retireListed]
  · rw [← retired]
    simp only [idlePort, State.setPort_slots, freedAnswered, freeSlotOf_answered_slots]
    rw [← slots]
    rfl
  · rw [← retired]
    simp [idlePort, freedAnswered, retireListed, management]
  · have outbound : v.link.outbound = s.link.outbound ++ [loneResponse x a] := by
      rw [← freed]
      exact freedAnswered_outbound lone ⟨unanswered, unsuppressed⟩ up
    have up' : (retireListed w.entry v).link.state = .up := by
      rw [← freed]
      simpa [retireListed, freedAnswered] using up
    have plain : plainResponse x.initiator x.tag a = loneResponse x a :=
      (loneResponse_plain (.inr (by rw [← answer]; simp))).symm
    rw [plain, ← loneResponse_plain (x := y) (.inr (by simp))]
    calc (idlePort p t).link.outbound = t.link.outbound := rfl
      _ = v.link.outbound ++ [loneResponse y .done] := by
        rw [← retired]
        exact freedAnswered_outbound lone' ⟨unanswered', unsuppressed'⟩ up'
      _ = _ := by rw [outbound, List.append_assoc]; rfl

end

end Sys2Proof.Machine
end

section
/-! PROOFS. Selection (R126, R128, R129). -/

namespace Sys2Proof.Machine

-- one proof at a time: the text is compiled whole, in one process whose threads share its memory limit
set_option Elab.async false

section
variable {s : State} {src best : Source} {m : EventMessage}

/-! ### Eligible sources (R126) -/

theorem undelivered_ne_zero_iff (st : Station) :
    undelivered st ≠ 0 ↔ ∃ k, st.latched.getLsbD k = true ∧ (st.delivered.getD 0).getLsbD k = false := by
  constructor
  · intro some_left
    by_contra all
    push Not at all
    refine some_left (BitVec.eq_of_getLsbD_eq fun k below => ?_)
    simp only [undelivered, BitVec.getLsbD_and, BitVec.getLsbD_not, below, decide_true, Bool.true_and]
    cases latched : st.latched.getLsbD k with
    | false => simp
    | true => simpa using all k latched
  · rintro ⟨k, latched, uncarried⟩ none_left
    have below : k < 32 := BitVec.lt_of_getLsbD latched
    have bit := congrArg (fun v : Positions => v.getLsbD k) none_left
    simp only [undelivered, BitVec.getLsbD_and, BitVec.getLsbD_not, below, latched, uncarried] at bit
    simp at bit

theorem sourceEligible_iff (s : State) (src : Source) : sourceEligible s src = true ↔ Eligible s src := by
  cases src with
  | station n =>
    have pending : sourcePending s (.station n) = true ↔ undelivered (row s.stations n) ≠ 0 := by simp [sourcePending]
    simp only [sourceEligible, Bool.and_eq_true, pending, undelivered_ne_zero_iff, decide_eq_true_eq]
    exact and_comm
  | incident k =>
    simp only [sourceEligible, Bool.and_eq_true, sourcePending, bne_iff_ne, decide_eq_true_eq]
    exact and_comm

theorem selectionOpen_iff (s : State) : selectionOpen s = true ↔ SelectionOpen s := by
  simp [selectionOpen, SelectionOpen, and_assoc]

/-! ### The choice (R128) -/

/-- A source comes before another in selection: at a higher priority, or at the same one with no higher number. -/
def Outranks (s : State) (best other : Source) : Prop :=
  (sourcePriority s other).val < (sourcePriority s best).val ∨
    ((sourcePriority s other).val = (sourcePriority s best).val ∧ (sourceNumber best).val ≤ (sourceNumber other).val)

/-- What selection has chosen among the sources of a list: none where none is eligible, else the one that outranks the others. -/
def ChosenAmong (s : State) (sources : List Source) : Option Source → Prop
  | none => ∀ other, other ∈ sources → sourceEligible s other = false
  | some best => best ∈ sources ∧ sourceEligible s best = true ∧
      ∀ other, other ∈ sources → sourceEligible s other = true → Outranks s best other

theorem Outranks.refl (s : State) (src : Source) : Outranks s src src := .inr ⟨rfl, le_rfl⟩

theorem Outranks.trans {other : Source} (first : Outranks s src best) (second : Outranks s best other) : Outranks s src other := by
  unfold Outranks at *
  omega

theorem ChosenAmong.prefer {sources : List Source} {chosen : Option Source} (among : ChosenAmong s sources chosen)
    (later : ∀ other, other ∈ sources → (sourceNumber other).val < (sourceNumber src).val) :
    ChosenAmong s (sources ++ [src]) (preferSource s chosen src) := by
  have cases_of {other : Source} (mem : other ∈ sources ++ [src]) : other ∈ sources ∨ other = src := by simpa using mem
  unfold preferSource
  split
  · next eligible =>
    cases chosen with
    | none =>
      refine ⟨by simp, eligible, fun other mem works => ?_⟩
      rcases cases_of mem with old | rfl
      · rw [among other old] at works; cases works
      · exact .refl s other
    | some b =>
      obtain ⟨mem_b, works_b, outranks⟩ := among
      have below := later b mem_b
      dsimp only
      split
      · next higher =>
        refine ⟨by simp, eligible, fun other mem works => ?_⟩
        rcases cases_of mem with old | rfl
        · exact .trans (.inl higher) (outranks other old works)
        · exact .refl s other
      · next lower =>
        refine ⟨by simp [mem_b], works_b, fun other mem works => ?_⟩
        rcases cases_of mem with old | rfl
        · exact outranks other old works
        · unfold Outranks
          omega
  · next ineligible =>
    rw [Bool.not_eq_true] at ineligible
    cases chosen with
    | none =>
      intro other mem
      rcases cases_of mem with old | rfl
      · exact among other old
      · exact ineligible
    | some b =>
      obtain ⟨mem_b, works_b, outranks⟩ := among
      refine ⟨by simp [mem_b], works_b, fun other mem works => ?_⟩
      rcases cases_of mem with old | rfl
      · exact outranks other old works
      · rw [ineligible] at works; cases works

theorem chosenAmong_foldl (sources : List Source)
    (ordered : sources.Pairwise fun a b => (sourceNumber a).val < (sourceNumber b).val) :
    ChosenAmong s sources (sources.foldl (preferSource s) none) := by
  induction sources using List.reverseRecOn with
  | nil => exact fun _ mem => absurd mem (by simp)
  | append_singleton init src ih =>
    obtain ⟨before, -, later⟩ := List.pairwise_append.mp ordered
    rw [List.foldl_append]
    exact (ih before).prefer fun other mem => later other mem src (by simp)

theorem allSources_ordered : allSources.Pairwise fun a b => (sourceNumber a).val < (sourceNumber b).val := by decide

theorem mem_allSources (src : Source) : src ∈ allSources := List.mem_of_getElem? (sourceOf_sourceNumber src)

theorem chosenSource_among (s : State) : ChosenAmong s allSources (chosenSource s) := chosenAmong_foldl _ allSources_ordered

theorem chosenSource_eq_none (nobody : ∀ src, ¬ Eligible s src) : chosenSource s = none := by
  cases chosen : chosenSource s with
  | none => rfl
  | some b =>
    have among := chosenSource_among s
    rw [chosen] at among
    exact absurd ((sourceEligible_iff s b).mp among.2.1) (nobody b)

theorem chosenSource_eq_some (eligible : Eligible s src) (outranks : ∀ other, Eligible s other → Outranks s src other) :
    chosenSource s = some src := by
  have among := chosenSource_among s
  have works := (sourceEligible_iff s src).mpr eligible
  cases chosen : chosenSource s with
  | none =>
    rw [chosen] at among
    rw [among src (mem_allSources src)] at works
    cases works
  | some b =>
    rw [chosen] at among
    obtain ⟨-, works_b, best⟩ := among
    have above := best src (mem_allSources src) works
    have below := outranks b ((sourceEligible_iff s b).mp works_b)
    unfold Outranks at above below
    have number : (sourceNumber b).val = (sourceNumber src).val := by omega
    have same := sourceOf_sourceNumber b
    rw [number, sourceOf_sourceNumber] at same
    exact same.symm

/-! ### The message (R129) -/

/-- Settles O51: a fold over the sources in the order of their numbers keeps the one that outranks the others. -/
theorem selectionSendsTheChosenSource : Obligations.SelectionSendsTheChosenSource := by
  unfold Obligations.SelectionSendsTheChosenSource
  refine fun s => ⟨fun closed => ?_, fun nobody => ?_, fun src m isOpen eligible outranks message => ?_⟩
  · rw [selectEvent, if_neg (mt (selectionOpen_iff s).mp closed)]
  · rw [selectEvent, chosenSource_eq_none nobody]
    split <;> rfl
  · have built : selectEvent s = buildMessage src s := by
      rw [selectEvent, if_pos ((selectionOpen_iff s).mpr isOpen), chosenSource_eq_some eligible outranks]
    have same : builtMessage s src = m := by
      rw [message]
      cases src <;> rfl
    obtain ⟨-, up, -⟩ := isOpen
    rw [built]
    refine ⟨?_, ?_, by simp [SameReceiver, buildMessage], ?_, by simp [buildMessage], by simp [buildMessage], by simp [buildMessage],
      by simp [buildMessage], by simp [buildMessage], by simp [buildMessage], by simp [buildMessage], by simp [buildMessage]⟩
    · rw [buildMessage_events, same, message]
      rfl
    · have up' : (copyForSource src (s.setEvents (eventsAfterBuild s.events (builtMessage s src)))).link.state = .up := by
        simpa using up
      rw [buildMessage]
      rw [handOver_outbound_up _ _ up', same]
      simp
    · cases src <;> simp [buildMessage, copyForSource, setDelivered]

end

end Sys2Proof.Machine
end

section
/-! PROOFS. The events of the bit line: replies, line timeouts and the scan timer (R107, R110 to R119). -/

namespace Sys2Proof.Machine

-- one proof at a time: the text is compiled whole, in one process whose threads share its memory limit
set_option Elab.async false

section
variable {s t : State} {op : LineOp} {i : SlotId} {x : Slot} {w : BitWork} {n : StationId} {cursor : Nat}

/-! ### The line becomes free (R111, R118, R120) -/

theorem nextPoll_eq_some (next : NextEnabled s cursor n) : nextPoll s cursor = some n := by
  obtain ⟨above, enabled, lower⟩ := next
  refine List.find?_eq_some_iff_getElem.mpr ⟨by simp [above, enabled], n.val, by simp, by simp, fun j before => ?_⟩
  by_cases from' : cursor ≤ j
  · simpa [from'] using lower ⟨j, by omega⟩ from' before
  · simp [from']

theorem nextPoll_eq_none (nobody : NoneEnabled s cursor) : nextPoll s cursor = none := by
  refine List.find?_eq_none.mpr fun m _ => ?_
  by_cases from' : cursor ≤ m.val
  · simp [nobody m from']
  · simp [from']

/-- The same stations are enabled. -/
def SameEnabled (s t : State) : Prop := ∀ m, (row t.stations m).presence = .disabled ↔ (row s.stations m).presence = .disabled

theorem SameEnabled.noneEnabled (same : SameEnabled s t) (nobody : NoneEnabled s cursor) : NoneEnabled t cursor :=
  fun m above => (same m).mpr (nobody m above)

theorem SameEnabled.nextEnabled (same : SameEnabled s t) (next : NextEnabled s cursor n) : NextEnabled t cursor n := by
  obtain ⟨above, enabled, lower⟩ := next
  exact ⟨above, mt (same n).mp enabled, fun m from' before => (same m).mpr (lower m from' before)⟩

theorem sameEnabled_putRow {st : Station} (stations : t.stations = putRow s.stations n st)
    (presence : st.presence = .disabled ↔ (row s.stations n).presence = .disabled) : SameEnabled s t := by
  intro m
  rw [stations, row_putRow]
  split
  · next here => rw [here]; exact presence
  · rfl

theorem freeLine_idle (empty : s.line.queue = []) (noCycle : s.line.cycle = none) :
    freeLine s = s.setLine { s.line with op := none } := by
  have still : checkCycleEnd (s.setLine { s.line with op := none }) = s.setLine { s.line with op := none } := by
    simp [checkCycleEnd, noCycle]
  rw [freeLine, still]
  exact lineArbiterFor_nothing _ empty noCycle

/-- Where nothing waits, the end of an operation changes the line alone. -/
theorem freeLine_quiet (empty : s.line.queue = []) : ∃ l, freeLine s = s.setLine l := by
  obtain ⟨cycle, due, checked⟩ := checkCycleEnd_line (s.setLine { s.line with op := none })
  obtain ⟨l, served⟩ := lineArbiter_serves_none (s := checkCycleEnd (s.setLine { s.line with op := none }))
    (.inr (by rw [checked]; exact empty))
  exact ⟨l, by rw [freeLine, served, checked]; rfl⟩

theorem pollInFlight_free (idle : s.line.op = none) : pollInFlight s = false := by simp [pollInFlight, idle]

/-- A free line where nothing waits takes the outstanding poll (R120). -/
theorem lineArbiter_polls (idle : s.line.op = none) (empty : s.line.queue = []) (running : s.line.cycle = some cursor)
    (next : NextEnabled s cursor n) : lineArbiter s = takePoll n s := by
  have poll : outstandingPoll s = some n := by
    simp [outstandingPoll, pollInFlight_free idle, running, nextPoll_eq_some next]
  simp only [lineArbiter, lineArbiterFor, if_pos idle, empty, poll]

theorem checkCycleEnd_goesOn (running : s.line.cycle = some cursor) (next : NextEnabled s cursor n) : checkCycleEnd s = s := by
  simp only [checkCycleEnd, running]
  rw [if_pos (.inr (by rw [nextPoll_eq_some next]; rfl))]

theorem checkCycleEnd_ends (running : s.line.cycle = some cursor) (idle : s.line.op = none) (nobody : NoneEnabled s cursor)
    (notDue : s.line.cycleDue = false) : checkCycleEnd s = s.setLine { s.line with cycle := none } := by
  simp only [checkCycleEnd, running]
  rw [if_neg (by simp [pollInFlight_free idle, nextPoll_eq_none nobody]), if_neg (by simp [notDue])]

theorem freeLine_polls (empty : s.line.queue = []) (running : s.line.cycle = some cursor) (next : NextEnabled s cursor n) :
    (freeLine s).line = { s.line with
      op := some { station := n, command := .readStation, origin := .poll }, previous := .poll, cycle := some (n.val + 1) } := by
  have goesOn : checkCycleEnd (s.setLine { s.line with op := none }) = s.setLine { s.line with op := none } :=
    checkCycleEnd_goesOn running next
  rw [freeLine, goesOn, lineArbiter_polls (s := s.setLine { s.line with op := none }) rfl empty running next]
  rfl

theorem freeLine_endsCycle (empty : s.line.queue = []) (running : s.line.cycle = some cursor) (nobody : NoneEnabled s cursor)
    (notDue : s.line.cycleDue = false) : freeLine s = s.setLine { s.line with op := none, cycle := none } := by
  have ended : checkCycleEnd (s.setLine { s.line with op := none }) = s.setLine { s.line with op := none, cycle := none } :=
    checkCycleEnd_ends running rfl nobody notDue
  rw [freeLine, ended]
  exact lineArbiterFor_nothing _ empty rfl

/-! ### The end of a request's operation (R111) -/

/-- A request's slot is released, and the line becomes free. -/
theorem freeLine_completes (serves : LineServes s op i x w) (a : Answer) (slots : SameHolders s t) (line : t.line = s.line) :
    Released s (freeLine (completeSlot i a t)) i x (loneResponse x a) ∧
      (freeLine (completeSlot i a t)).stations = t.stations ∧ (freeLine (completeSlot i a t)).events = t.events ∧
      (freeLine (completeSlot i a t)).line = { s.line with op := none } ∧ (freeLine (completeSlot i a t)).regions = t.regions ∧
      (freeLine (completeSlot i a t)).ports = t.ports ∧ (freeLine (completeSlot i a t)).management = t.management := by
  obtain ⟨-, -, held, work, lone, -, empty, noCycle⟩ := serves
  have held' : row t.slots i = some x := by rw [slots.1]; exact held
  obtain ⟨released, regions, management⟩ := finishSlot_bit held' lone work a
  have line' : (finishSlot i a t).line = s.line := by rw [← line]; simp
  rw [completeSlot_lone held' lone, freeLine_idle (by rw [line']; exact empty) (by rw [line']; exact noCycle), line']
  refine ⟨?_, by simp, by simp, rfl, regions, by simp, management⟩
  obtain ⟨slots, initiators, counter, chains, link⟩ := slots
  exact released.congr ⟨slots.symm, initiators.symm, counter.symm, chains.symm, link.symm⟩ ⟨rfl, rfl, rfl, rfl, rfl⟩

/-! ### Replies (R110, R111, R114, R115) -/

theorem exec_stationReply_ignored {reply : StationReply} (ignored : ∀ op, s.line.op = some op → replyCompletes reply op = false) :
    exec (.stationReply reply) s = .next (selectEvent s) := by
  have run : exec (.stationReply reply) s = endEvent (match s.line.op with
      | some op => if replyCompletes reply op then completeWithReply op reply.pins s else s
      | none => s) := rfl
  rw [run]
  split
  · next op running => rw [if_neg (by simp [ignored op running])]; rfl
  · rfl

theorem exec_stationReply_completes {reply : StationReply} (running : s.line.op = some op)
    (completes : replyCompletes reply op = true) :
    exec (.stationReply reply) s = .next (selectEvent (completeWithReply op reply.pins s)) := by
  have run : exec (.stationReply reply) s = endEvent (match s.line.op with
      | some op => if replyCompletes reply op then completeWithReply op reply.pins s else s
      | none => s) := rfl
  rw [run]
  simp only [running, completes, if_true]
  rfl

theorem completeWithReply_request (serves : LineServes s op i x w) (pins : Positions) :
    completeWithReply op pins s = freeLine (completeSlot i (replyAnswer (row s.stations op.station) op w pins)
      (s.setStation op.station (afterRequestReply (row s.stations op.station) op))) := by
  obtain ⟨-, origin, held, work, -⟩ := serves
  simp [completeWithReply, origin, bitWorkOf_eq_some held work]

/-- The positions of a bit slot among 32 logical values (R106, R114). -/
theorem fieldValue_getLsbD (w : BitWork) (inversion pins : Positions) {k : Nat} (below : k < 16) :
    (fieldValue w (inverted inversion pins)).getLsbD k = (decide (k < bitWidth w.kind) &&
      (pins.getLsbD (positionOf w.addr + k) != inversion.getLsbD (positionOf w.addr + k))) := by
  simp only [fieldValue, BitVec.getLsbD_setWidth, below, decide_true, Bool.true_and, BitVec.getLsbD_ushiftRight, BitVec.getLsbD_and,
    inverted, BitVec.getLsbD_xor]
  by_cases within : positionOf w.addr + k < 32
  · simp [bitMask_getLsbD w within, Bool.and_comm]
  · simp [BitVec.getLsbD_of_ge _ _ (Nat.not_lt.mp within)]

theorem replyAnswer_read (command : op.command = .readStation)
    (reads : w.kind = .test ∨ ∃ width, w.kind = .fieldRead width ∧ width ≤ 16) (st : Station) (pins : Positions) :
    replyAnswer st op w pins = if st.presence = .disabled then .fault .noStation
      else if w.kind = .test then .data (.byte ((fieldValue w (inverted st.inversion pins)).setWidth 8))
      else .data (.word (fieldValue w (inverted st.inversion pins))) := by
  rcases reads with kind | ⟨width, kind, -⟩ <;> simp [replyAnswer, command, bitReadValue, kind]

theorem afterRequestReply_read (command : op.command = .readStation) (st : Station) :
    afterRequestReply st op = if st.presence = .disabled then st else { st with presence := .present, timeouts := 0 } := by
  unfold afterRequestReply afterReply
  split
  · rfl
  · simp [command]

/-- A reply to a request's operation answers its slot and frees the line. -/
theorem exec_stationReply_request {reply : StationReply} (serves : LineServes s op i x w)
    (completes : replyCompletes reply op = true) :
    ∃ v, exec (.stationReply reply) s = .next (selectEvent v) ∧
      Released s v i x (plainResponse x.initiator x.tag (replyAnswer (row s.stations op.station) op w reply.pins)) ∧
      v.stations = putRow s.stations op.station (afterRequestReply (row s.stations op.station) op) ∧
      v.line = { s.line with op := none } ∧ v.regions = s.regions ∧ v.ports = s.ports ∧ v.events = s.events ∧
      v.management = s.management := by
  have step : x.step = .one := serves.2.2.2.2.2.1
  refine ⟨_, exec_stationReply_completes serves.1 completes, ?_⟩
  rw [completeWithReply_request serves]
  obtain ⟨released, stations, events, line, regions, ports, management⟩ := freeLine_completes
    (t := s.setStation op.station (afterRequestReply (row s.stations op.station) op)) serves
    (replyAnswer (row s.stations op.station) op w reply.pins) ⟨rfl, rfl, rfl, rfl, rfl⟩ rfl
  rw [loneResponse_plain (.inl step)] at released
  exact ⟨released, stations, line, regions, ports, events, management⟩

/-- Settles O46: by the operation's command. -/
theorem stationReplyAnswersTheRequest : Obligations.StationReplyAnswersTheRequest := by
  unfold Obligations.StationReplyAnswersTheRequest
  refine ⟨fun reply s other => exec_stationReply_ignored fun op running => ?_, fun op i x w st pins s serves here => ⟨?_, ?_⟩⟩
  · rcases other with idle | ⟨op', running', differs⟩
    · rw [idle] at running; cases running
    · obtain rfl : op = op' := Option.some.inj (running.symm.trans running')
      rcases differs with broken | station | ⟨command, kind⟩ | ⟨a, b, c, command, kind⟩
      · simp [replyCompletes, broken]
      · simp [replyCompletes, station]
      · simp [replyCompletes, command, kind]
      · simp [replyCompletes, command, kind]
  · intro command reads
    have completes : replyCompletes { kind := .readStation, station := op.station, pins := pins, intact := true } op = true := by
      simp [replyCompletes, command]
    obtain ⟨v, run, released, stations, line, regions, ports, events, management⟩ := exec_stationReply_request serves completes
    rw [here, replyAnswer_read command reads] at released
    rw [here, afterRequestReply_read command] at stations
    exact ⟨v, fieldValue w (inverted st.inversion pins), run, fun k below => fieldValue_getLsbD w _ _ below, released, stations, line,
      regions, ports, events, management⟩
  · intro direction levels formed command
    have completes : replyCompletes { kind := .writeStation, station := op.station, pins := pins, intact := true } op = true := by
      simp [replyCompletes, command]
    obtain ⟨v, run, released, stations, line, regions, ports, events, management⟩ := exec_stationReply_request serves completes
    rw [here] at released stations
    refine ⟨v, run, ?_, ?_, line, regions, ports, events, management⟩
    · simpa [replyAnswer, command] using released
    · rw [stations]
      unfold afterRequestReply afterReply
      split <;> simp_all

/-! ### Polls (R118, R119) -/

/-- The latched set after a poll reply (R119). -/
def latchedAfter (st : Station) (now : Positions) : Positions :=
  match st.lastSample with
  | none => st.latched
  | some last => if st.presence = .absent then st.latched else st.latched ||| edges st last now

theorem afterPoll_eq {st : Station} (enabled : st.presence ≠ .disabled) (pins : Positions) :
    afterPoll st pins = { st with
      presence := .present, timeouts := 0, lastSample := some (inverted st.inversion pins),
      latched := latchedAfter st (inverted st.inversion pins) } := by
  unfold afterPoll afterPollReply latchedAfter afterReply
  rw [if_neg enabled, if_neg enabled]
  cases st.lastSample with
  | none => rfl
  | some last =>
    dsimp only
    split <;> rfl

theorem latchedAfter_getLsbD (st : Station) (now : Positions) (k : Nat) (below : k < 32) :
    (latchedAfter st now).getLsbD k = (st.latched.getLsbD k ||
      match st.lastSample with
      | none => false
      | some last => decide (st.presence ≠ .absent) &&
          (st.rise.getLsbD k && !last.getLsbD k && now.getLsbD k || st.fall.getLsbD k && last.getLsbD k && !now.getLsbD k)) := by
  unfold latchedAfter
  cases st.lastSample with
  | none => simp
  | some last =>
    dsimp only
    by_cases absent : st.presence = .absent
    · simp [absent]
    · rw [if_neg absent, decide_eq_true absent, Bool.true_and]
      simp only [edges, BitVec.getLsbD_or, BitVec.getLsbD_and, BitVec.getLsbD_not, below, decide_true, Bool.true_and]

/-- Settles O47: the sample is taken, and the free line polls the next enabled station. -/
theorem pollReplyTakesTheEdges : Obligations.PollReplyTakesTheEdges := by
  unfold Obligations.PollReplyTakesTheEdges
  intro n cursor st pins s running cycle empty here enabled
  have completes : replyCompletes { kind := .readStation, station := n, pins := pins, intact := true }
      { station := n, command := .readStation, origin := .poll } = true := by simp [replyCompletes]
  have sampled := afterPoll_eq enabled pins
  generalize polled : s.setStation n (afterPoll st pins) = u at *
  have reply : completeWithReply { station := n, command := .readStation, origin := .poll } pins s = freeLine u := by
    simp only [completeWithReply, here, polled]
  have stations : u.stations = putRow s.stations n (afterPoll st pins) := by rw [← polled]; rfl
  have same : SameEnabled s u := sameEnabled_putRow stations (by rw [sampled, here]; simpa using enabled)
  have line : u.line = s.line := by rw [← polled]; rfl
  obtain ⟨l, quiet⟩ := freeLine_quiet (s := u) (by rw [line]; exact empty)
  refine ⟨freeLine u, inverted st.inversion pins, latchedAfter st (inverted st.inversion pins), ?_, fun k _ => ?_,
    latchedAfter_getLsbD st _, ?_, fun m next => ?_, fun nobody notDue => ?_, ?_⟩
  · rw [← reply]; exact exec_stationReply_completes running completes
  · simp only [inverted, BitVec.getLsbD_xor]
  · rw [quiet, ← sampled, ← stations]; rfl
  · rw [freeLine_polls (by rw [line]; exact empty) (by rw [line]; exact cycle) (same.nextEnabled next), line]
  · rw [freeLine_endsCycle (by rw [line]; exact empty) (by rw [line]; exact cycle) (same.noneEnabled nobody)
      (by rw [line]; exact notDue), line]
    rfl
  · rw [quiet, ← polled]
    exact ⟨rfl, rfl, rfl, rfl, rfl, rfl⟩

/-! ### Line timeouts (R107, R111) -/

theorem exec_lineTimerExpiry (running : s.line.op = some op) :
    exec .lineTimerExpiry s = .next (selectEvent (completeWithTimeout op s)) := by
  have run : exec .lineTimerExpiry s = endEvent (match s.line.op with
      | some op => completeWithTimeout op s
      | none => s) := rfl
  rw [run]
  simp only [running]
  rfl

/-- What a timeout does to a station and to the incidents (R107). -/
def CountsTimeout (s : State) (n : StationId) (st new : Station) (events : EventUnit) : Prop :=
  ((st.presence = .disabled ∨ st.presence = .absent) ∧ new = st ∧ events = s.events) ∨
    ((st.presence = .unknown ∨ st.presence = .present) ∧ st.timeouts = 0 ∧ new = { st with timeouts := 1 } ∧ events = s.events) ∨
    ((st.presence = .unknown ∨ st.presence = .present) ∧ st.timeouts = 1 ∧ new = { st with timeouts := 2, presence := .absent } ∧
      events = { s.events with
        incidents := putRow s.events.incidents 5 (raised (row s.events.incidents 5) (some (.station n))) })

theorem timeoutStation_eq {st new : Station} {events : EventUnit} (here : row s.stations n = st)
    (counts : CountsTimeout s n st new events) : timeoutStation n s = (s.setStation n new).setEvents events := by
  have second : Config.lostAfterTimeouts = 2 := rfl
  unfold timeoutStation
  dsimp only
  rw [here]
  rcases counts with ⟨presence | presence, rfl, rfl⟩ | ⟨presence | presence, count, rfl, rfl⟩ | ⟨presence | presence, count, rfl, rfl⟩
  · simp [losesStation, afterTimeout, presence]; rfl
  · simp [losesStation, afterTimeout, presence]; rfl
  · simp [losesStation, afterTimeout, presence, count, second]; rfl
  · simp [losesStation, afterTimeout, presence, count, second]; rfl
  · simp [losesStation, afterTimeout, presence, count, second]; rfl
  · simp [losesStation, afterTimeout, presence, count, second]; rfl

theorem CountsTimeout.enabled {st new : Station} {events : EventUnit} (counts : CountsTimeout s n st new events) :
    new.presence = .disabled ↔ st.presence = .disabled := by
  rcases counts with ⟨-, rfl, -⟩ | ⟨-, -, rfl, -⟩ | ⟨presence, -, rfl, -⟩
  · rfl
  · rfl
  · rcases presence with presence | presence <;> simp [presence]

/-- Settles O48: the station counts the timeout, and the operation ends. -/
theorem lineTimeoutCountsAgainstTheStation : Obligations.LineTimeoutCountsAgainstTheStation := by
  unfold Obligations.LineTimeoutCountsAgainstTheStation
  refine ⟨fun s idle => ?_, fun op st new events s running here counts => ⟨fun i x w serves => ?_, fun origin empty notDue cursor cycle
    nobody => ?_⟩⟩
  · have run : exec .lineTimerExpiry s = endEvent (match s.line.op with
        | some op => completeWithTimeout op s
        | none => s) := rfl
    rw [run]
    simp only [idle]
    rfl
  · have counted := timeoutStation_eq here counts
    have reply : completeWithTimeout op s =
        freeLine (completeSlot i (timeoutAnswer st) ((s.setStation op.station new).setEvents events)) := by
      simp only [completeWithTimeout, serves.2.1, counted, here]
    obtain ⟨released, stations, events', line, regions, ports, management⟩ := freeLine_completes
      (t := (s.setStation op.station new).setEvents events) serves (timeoutAnswer st) ⟨rfl, rfl, rfl, rfl, rfl⟩ rfl
    have step : x.step = .one := serves.2.2.2.2.2.1
    have code : timeoutAnswer st = .fault (if st.presence = .disabled then .noStation else .timeout) := by
      unfold timeoutAnswer
      split <;> rfl
    refine ⟨_, exec_lineTimerExpiry running, ?_⟩
    rw [reply]
    refine ⟨?_, stations, events', line, regions, ports, management⟩
    rw [← code, ← loneResponse_plain (.inl step)]
    exact released
  · have counted := timeoutStation_eq here counts
    generalize timed : (s.setStation op.station new).setEvents events = u at counted
    have reply : completeWithTimeout op s = freeLine u := by
      simp only [completeWithTimeout, origin, counted]
    have same : SameEnabled s u := by
      refine sameEnabled_putRow (n := op.station) (st := new) (by rw [← timed]; rfl) ?_
      rw [here]
      exact CountsTimeout.enabled counts
    have line : u.line = s.line := by rw [← timed]; rfl
    refine ⟨_, exec_lineTimerExpiry running, ?_⟩
    rw [reply, freeLine_endsCycle (by rw [line]; exact empty) (by rw [line]; exact cycle) (same.noneEnabled nobody)
      (by rw [line]; exact notDue), line, ← timed]
    exact ⟨rfl, rfl, rfl, rfl, rfl, rfl, rfl⟩

/-! ### The scan timer (R117, R118) -/

theorem exec_scanTimerExpiry (s : State) :
    exec .scanTimerExpiry s = .next (selectEvent (if s.line.scanTimer = .stopped then s else scanExpiry s)) := rfl

/-- The line with its scan timer started again. -/
def rescanned (s : State) : State := s.setLine { s.line with scanTimer := .running s.line.scanPeriod }

theorem scanExpiry_begins (noCycle : s.line.cycle = none) : scanExpiry s = lineArbiter (beginCycle (rescanned s)) := by
  simp only [scanExpiry, noCycle]
  rfl

/-- Settles O49: by whether a cycle runs, and by the next station to poll. -/
theorem scanTimerBeginsACycle : Obligations.ScanTimerBeginsACycle := by
  unfold Obligations.ScanTimerBeginsACycle
  refine fun s => ⟨fun stopped => by rw [exec_scanTimerExpiry, if_pos stopped], fun d runs => ?_⟩
  have run : exec .scanTimerExpiry s = .next (selectEvent (scanExpiry s)) := by
    rw [exec_scanTimerExpiry, if_neg (by simp [runs])]
  refine ⟨fun noCycle nobody empty => ⟨_, run, ?_⟩, fun n noCycle next => ⟨fun idle empty => ⟨_, run, ?_⟩, fun busy => ⟨_, run, ?_⟩⟩,
    fun cursor n running station => ⟨_, run, ?_⟩⟩
  · have found : nextPoll (rescanned s) 0 = none := nextPoll_eq_none nobody
    have ended : beginCycle (rescanned s) =
        s.setLine { s.line with scanTimer := .running s.line.scanPeriod, cycleDue := false, cycle := none } := by
      simp only [beginCycle, found]
      rfl
    have still : lineArbiter (beginCycle (rescanned s)) = beginCycle (rescanned s) := by
      rw [ended]
      exact lineArbiterFor_nothing _ empty rfl
    rw [scanExpiry_begins noCycle, still, ended]
    refine ⟨?_, rfl, rfl, rfl, rfl⟩
    simp [noCycle]
  · have found : nextPoll (rescanned s) 0 = some n := nextPoll_eq_some next
    have begun : beginCycle (rescanned s) =
        s.setLine { s.line with scanTimer := .running s.line.scanPeriod, cycleDue := false, cycle := some 0 } := by
      simp only [beginCycle, found]
      rfl
    have polled : lineArbiter (beginCycle (rescanned s)) = takePoll n (beginCycle (rescanned s)) := by
      rw [begun]
      exact lineArbiter_polls idle empty rfl next
    rw [scanExpiry_begins noCycle, polled, begun]
    exact ⟨rfl, rfl, rfl, rfl, rfl⟩
  · have found : nextPoll (rescanned s) 0 = some n := nextPoll_eq_some next
    have begun : beginCycle (rescanned s) =
        s.setLine { s.line with scanTimer := .running s.line.scanPeriod, cycleDue := false, cycle := some 0 } := by
      simp only [beginCycle, found]
      rfl
    have still : lineArbiter (beginCycle (rescanned s)) = beginCycle (rescanned s) :=
      lineArbiter_busy (by rw [begun]; exact busy)
    rw [scanExpiry_begins noCycle, still, begun]
    exact ⟨rfl, rfl, rfl, rfl, rfl⟩
  · have named : overrunStation s cursor = some n := by
      rcases station with ⟨op, busy, origin, rfl⟩ | ⟨noPoll, next⟩
      · simp [overrunStation, busy, origin]
      · unfold overrunStation
        split
        · next op busy => rw [if_neg (noPoll op busy)]; exact nextPoll_eq_some next
        · exact nextPoll_eq_some next
    simp only [scanExpiry, running, named]
    exact ⟨rfl, rfl, rfl, rfl, rfl, rfl⟩

end

end Sys2Proof.Machine
end

section
/-! PROOFS. SYNC (R156 to R158), and the receiver (R154, R155). -/

namespace Sys2Proof.Machine

-- one proof at a time: the text is compiled whole, in one process whose threads share its memory limit
set_option Elab.async false

section
variable {s t u : State} {f : Framing}

/-! ### SYNC (R156, R157, R158) -/

/-- A SYNC makes a link with signal UP, and hands over one LINK-NOTICE. -/
theorem takeSync_eq (signal : s.link.signal = true) : takeSync s = handNotice (s.setLink { s.link with state := .up }) := by
  unfold takeSync
  split
  · next up => rw [show ({ s.link with state := .up } : LinkUnit) = s.link by rw [← up]]; rfl
  · rw [if_pos signal]

/-- Settles O6: in both link states the notice is handed over while the link is UP. -/
theorem syncAnswersWithLinkNotice : Obligations.SyncAnswersWithLinkNotice := by
  unfold Obligations.SyncAnswersWithLinkNotice
  intro rest s u arrival signal
  have run : exec (.sync rest) s = endEvent (takeMessage (0x70 :: rest) takeSync s) := rfl
  rw [run, takeMessage_arrives arrival]
  obtain ⟨rx, rfl⟩ := arrival.exists_rx
  generalize raised : (s.setLink { s.link with rx := rx }).setLink { (s.setLink { s.link with rx := rx }).link with state := .up } = v
  have up : v.link.state = .up := by rw [← raised]; rfl
  obtain ⟨outbound, ⟨state, signal', resetCount, strap, framing, buffered, -⟩, ⟨regions, chains, ports, stations, line, events,
    management⟩, slots, initiators, counter⟩ := handOver_onlyHands up (.linkNotice v.link.strap v.link.resetCount)
  refine ⟨handNotice v, ?_, ?_⟩
  · rw [takeSync_eq (by simpa using signal), raised]
    rfl
  · rw [handNotice]
    subst raised
    exact ⟨state, outbound, resetCount, strap, buffered, framing, signal'.trans signal,
      ⟨regions, chains, ports, stations, line, events, management⟩, slots, initiators, counter⟩

/-! ### What the receiver leaves alone (R155) -/

/-- A symbol of a frame leaves the requests in the part and its other blocks alone, and takes nothing from the outbound list. -/
structure LeavesRequests (s t : State) : Prop where
  state : t.link.state = s.link.state
  signal : t.link.signal = s.link.signal
  resetCount : t.link.resetCount = s.link.resetCount
  outbound : s.link.outbound <+: t.link.outbound
  regions : t.regions = s.regions
  slots : t.slots = s.slots
  initiators : t.initiators = s.initiators
  acceptCounter : t.acceptCounter = s.acceptCounter
  chains : t.chains = s.chains
  ports : t.ports = s.ports
  line : t.line = s.line
  management : t.management = s.management

theorem LeavesRequests.trans (st : LeavesRequests s t) (tu : LeavesRequests t u) : LeavesRequests s u where
  state := tu.state.trans st.state
  signal := tu.signal.trans st.signal
  resetCount := tu.resetCount.trans st.resetCount
  outbound := st.outbound.trans tu.outbound
  regions := tu.regions.trans st.regions
  slots := tu.slots.trans st.slots
  initiators := tu.initiators.trans st.initiators
  acceptCounter := tu.acceptCounter.trans st.acceptCounter
  chains := tu.chains.trans st.chains
  ports := tu.ports.trans st.ports
  line := tu.line.trans st.line
  management := tu.management.trans st.management

theorem passes_setLink {l : LinkUnit} (state : l.state = s.link.state) (signal : l.signal = s.link.signal)
    (resetCount : l.resetCount = s.link.resetCount) (outbound : l.outbound = s.link.outbound) : LeavesRequests s (s.setLink l) where
  state := state
  signal := signal
  resetCount := resetCount
  outbound := by simp [outbound]
  regions := rfl
  slots := rfl
  initiators := rfl
  acceptCounter := rfl
  chains := rfl
  ports := rfl
  line := rfl
  management := rfl

theorem passes_setFraming (f : Framing) (s : State) : LeavesRequests s (s.setFraming f) := passes_setLink rfl rfl rfl rfl

theorem LeavesRequests.refl (s : State) : LeavesRequests s s := passes_setLink rfl rfl rfl rfl

theorem passes_selectEvent (s : State) : LeavesRequests s (selectEvent s) where
  state := by simp
  signal := by simp
  resetCount := by simp
  outbound := selectEvent_grows s List.prefix_rfl
  regions := by simp
  slots := by simp
  initiators := by simp
  acceptCounter := by simp
  chains := by simp
  ports := by simp
  line := by simp
  management := by simp

theorem passes_raiseLinkError (c : LinkErrorCause) (s : State) : LeavesRequests s (raiseLinkError c s) := by
  constructor <;> simp [raiseLinkError]

/-- Symbols before the end of a frame: only the framing changes, and what a selection changes. -/
structure Collects (s t : State) (f : Framing) : Prop where
  passes : LeavesRequests s t
  selection : OnlySelection s t
  rx : t.link.rx = s.link.rx
  framing : t.link.framing = f

theorem OnlySelection.refl (s : State) : OnlySelection s s := .of_eq rfl rfl

theorem collects_setFraming (s : State) (f : Framing) : Collects s (selectEvent (s.setFraming f)) f where
  passes := (passes_setFraming f s).trans (passes_selectEvent _)
  selection := (OnlySelection.of_eq (t := s.setFraming f) rfl rfl).trans (selectEvent_onlySelection _)
  rx := by simp [State.setFraming]
  framing := by simp [State.setFraming]

theorem Collects.trans {g : Framing} (st : Collects s t f) (tu : Collects t u g) : Collects s u g where
  passes := st.passes.trans tu.passes
  selection := st.selection.trans tu.selection
  rx := tu.rx.trans st.rx
  framing := tu.framing

/-! ### The symbols of a frame -/

theorem takeSymbols_cons (sym : LineSymbol) (rest : List LineSymbol) (s : State) :
    takeSymbols (sym :: rest) s = takeSymbols rest (selectEvent (takeSymbol sym s)) := rfl

theorem takeSymbol_started (hunting : s.link.framing = .hunting) : takeSymbol .delimiter s = s.setFraming .started := by
  simp [takeSymbol, hunting]

theorem takeSymbol_length {n : Byte} (started : s.link.framing = .started) (least : 2 ≤ n.toNat) (most : n.toNat ≤ 48) :
    takeSymbol (.byte n) s = s.setFraming (.collecting n.toNat []) := by
  simp [takeSymbol, started, Config.minBody, Config.maxBody, least, most]

theorem takeSymbol_badLength {n : Byte} (started : s.link.framing = .started) (beyond : n.toNat < 2 ∨ 48 < n.toNat) :
    takeSymbol (.byte n) s = raiseLinkError .length (s.setFraming .hunting) := by
  have bad : ¬(Config.minBody ≤ n.toNat ∧ n.toNat ≤ Config.maxBody) := by
    simp only [Config.minBody, Config.maxBody]
    omega
  simp only [takeSymbol, started, if_neg bad]

theorem takeSymbol_inside (inside : s.link.framing ≠ .hunting) :
    takeSymbol .delimiter s = raiseLinkError .length (s.setFraming .started) := by
  unfold takeSymbol
  cases framing : s.link.framing with
  | hunting => exact absurd framing inside
  | started => rfl
  | collecting length got => rfl

theorem takeSymbol_collects {length : Nat} {got : List Byte} (collecting : s.link.framing = .collecting length got)
    (more : got.length < length + 1) (b : Byte) :
    takeSymbol (.byte b) s = s.setFraming (.collecting length (got ++ [b])) := by
  simp only [takeSymbol, collecting]
  rw [if_pos (by omega)]

theorem takeSymbol_ends {length : Nat} {got : List Byte} (collecting : s.link.framing = .collecting length got)
    (last : got.length = length + 1) (b : Byte) :
    takeSymbol (.byte b) s = takeFrame length (got ++ [b]) (s.setFraming .hunting) := by
  simp only [takeSymbol, collecting]
  rw [if_neg (by omega)]

/-- The bytes of a frame but its last are collected one after another. -/
theorem takeSymbols_collect {length : Nat} (bytes : List Byte) (rest : List LineSymbol) {got : List Byte}
    (collecting : s.link.framing = .collecting length got) (room : got.length + bytes.length ≤ length + 1) :
    ∃ t, takeSymbols (bytes.map .byte ++ rest) s = takeSymbols rest t ∧ Collects s t (.collecting length (got ++ bytes)) := by
  induction bytes generalizing s got with
  | nil =>
    refine ⟨s, rfl, ⟨.refl s, .refl s, rfl, by simpa using collecting⟩⟩
  | cons b later ih =>
    rw [List.length_cons] at room
    have first := collects_setFraming s (.collecting length (got ++ [b]))
    obtain ⟨t, run, collected⟩ := ih (s := selectEvent (s.setFraming (.collecting length (got ++ [b])))) first.framing
      (by simp only [List.length_append, List.length_singleton]; omega)
    refine ⟨t, ?_, ?_⟩
    · rw [List.map_cons, List.cons_append, takeSymbols_cons, takeSymbol_collects collecting (by omega), run]
    · have whole := first.trans collected
      rwa [List.append_assoc, List.singleton_append] at whole

/-- A whole frame ends with the check of its last two bytes. -/
theorem takeSymbols_wholeFrame (body : List Byte) (hi lo : Byte) (least : 2 ≤ body.length) (most : body.length ≤ 48)
    (hunting : s.link.framing = .hunting) :
    ∃ t, takeSymbols (.delimiter :: .byte (BitVec.ofNat 8 body.length) :: (body ++ [hi, lo]).map .byte) s =
        selectEvent (takeFrame body.length (body ++ [hi, lo]) (t.setFraming .hunting)) ∧
      Collects s t (.collecting body.length (body ++ [hi])) := by
  have number : (BitVec.ofNat 8 body.length).toNat = body.length := by
    rw [BitVec.toNat_ofNat]
    exact Nat.mod_eq_of_lt (by omega)
  have started := collects_setFraming s .started
  have measured := collects_setFraming (selectEvent (s.setFraming .started)) (.collecting body.length [])
  obtain ⟨t, run, collected⟩ := takeSymbols_collect (body ++ [hi]) [.byte lo] measured.framing (by simp)
  rw [List.nil_append] at collected
  refine ⟨t, ?_, started.trans (measured.trans collected)⟩
  have symbols : (body ++ [hi, lo]).map LineSymbol.byte = (body ++ [hi]).map .byte ++ [.byte lo] := by simp
  rw [takeSymbols_cons, takeSymbols_cons, takeSymbol_started hunting,
    takeSymbol_length started.framing (by omega) (by omega), number, symbols, run, takeSymbols_cons,
    takeSymbol_ends collected.framing (by simp), List.append_assoc]
  rfl

theorem exec_frameReceived {symbols : List LineSymbol} (signal : s.link.signal = true) :
    exec (.frameReceived symbols) s = .next (takeSymbols symbols s) := by
  have run : exec (.frameReceived symbols) s = .next (if s.link.signal then takeSymbols symbols s else s) := rfl
  rw [run, if_pos signal]

/-- A LINK-ERROR is raised in the event of the symbol that shows the fault (R125). -/
theorem linkError_incidents (c : LinkErrorCause) (f : Framing) (s : State) :
    (selectEvent (raiseLinkError c (s.setFraming f))).events.incidents =
      putRow s.events.incidents 6 (raised (row s.events.incidents 6) (some (.cause c))) := by
  rw [selectEvent_incidents]
  rfl

theorem linkError_link (c : LinkErrorCause) (f : Framing) (s : State) :
    (selectEvent (raiseLinkError c (s.setFraming f))).link.framing = f ∧
      (selectEvent (raiseLinkError c (s.setFraming f))).link.rx = s.link.rx := by
  simp [raiseLinkError, State.setFraming]

theorem passes_linkError (c : LinkErrorCause) (f : Framing) (s : State) :
    LeavesRequests s (selectEvent (raiseLinkError c (s.setFraming f))) :=
  ((passes_setFraming f s).trans (passes_raiseLinkError c (s.setFraming f))).trans (passes_selectEvent _)

theorem takeFrame_good (body : List Byte) (s : State) :
    takeFrame body.length (body ++ [hiByte (checkWord body), loByte (checkWord body)]) s = bufferBody body s := by
  simp [takeFrame]

theorem takeFrame_bad {body : List Byte} {hi lo : Byte} (bad : ¬(hi = hiByte (checkWord body) ∧ lo = loByte (checkWord body)))
    (s : State) : takeFrame body.length (body ++ [hi, lo]) s = raiseLinkError .check s := by
  simp only [takeFrame, List.take_left', List.drop_left']
  rw [if_neg]
  simpa using bad

theorem bufferBody_effects (body : List Byte) (s : State) :
    LeavesRequests s (bufferBody body s) ∧ OnlySelection s (bufferBody body s) ∧ (bufferBody body s).link.framing = s.link.framing ∧
      (bufferBody body s).link.rx = if s.link.rx.length < 2 then s.link.rx ++ [body] else s.link.rx := by
  unfold bufferBody
  rw [show Config.receiveBufferFrames = 2 from rfl]
  split
  · exact ⟨passes_setLink rfl rfl rfl rfl, .of_eq rfl rfl, rfl, rfl⟩
  · exact ⟨.refl s, .refl s, rfl, rfl⟩

/-- Settles O4: the symbols are collected, and the last one decides. -/
theorem framesAreBufferedOrRaiseLinkError : Obligations.FramesAreBufferedOrRaiseLinkError := by
  unfold Obligations.FramesAreBufferedOrRaiseLinkError
  refine fun s signal => ⟨fun body hi lo least most hunting => ?_, fun n beyond hunting => ?_, fun inside => ?_⟩
  · obtain ⟨t, run, collected⟩ := takeSymbols_wholeFrame body hi lo least most hunting
    refine ⟨_, (exec_frameReceived signal).trans (congrArg _ run), ?_⟩
    by_cases good : hi = hiByte (checkWord body) ∧ lo = loByte (checkWord body)
    · obtain ⟨rfl, rfl⟩ := good
      rw [takeFrame_good]
      obtain ⟨passes, selection, framing, rx⟩ := bufferBody_effects body (t.setFraming .hunting)
      have whole := ((collected.passes.trans (passes_setFraming .hunting t)).trans passes).trans (passes_selectEvent _)
      have hunting' : (selectEvent (bufferBody body (t.setFraming .hunting))).link.framing = .hunting := by
        simp only [selectEvent_link, framing]
        rfl
      refine ⟨hunting', whole.state, whole.signal.trans signal, whole.resetCount, whole.outbound,
        whole.regions, whole.slots, whole.initiators, whole.acceptCounter, whole.chains, whole.ports, whole.line, whole.management,
        fun _ => ⟨?_, ?_⟩, fun bad => absurd ⟨rfl, rfl⟩ bad⟩
      · exact ((collected.selection.trans (.of_eq rfl rfl)).trans selection).trans (selectEvent_onlySelection _)
      · have same : (t.setFraming .hunting).link.rx = s.link.rx := collected.rx
        rw [same] at rx
        simpa using rx
    · rw [takeFrame_bad good]
      have whole := collected.passes.trans (passes_linkError .check .hunting t)
      obtain ⟨framing, rx⟩ := linkError_link .check .hunting t
      refine ⟨framing, whole.state, whole.signal.trans signal, whole.resetCount, whole.outbound,
        whole.regions, whole.slots, whole.initiators, whole.acceptCounter, whole.chains, whole.ports, whole.line, whole.management,
        fun ok => absurd ok good, fun _ => ⟨rx.trans collected.rx, ?_⟩⟩
      obtain ⟨-, incidents, -⟩ := collected.selection
      rw [linkError_incidents, incidents]
  · have started := collects_setFraming s .started
    have run : takeSymbols [.delimiter, .byte n] s =
        selectEvent (raiseLinkError .length ((selectEvent (s.setFraming .started)).setFraming .hunting)) := by
      rw [takeSymbols_cons, takeSymbols_cons, takeSymbol_started hunting, takeSymbol_badLength started.framing beyond]
      rfl
    obtain ⟨framing, rx⟩ := linkError_link .length .hunting (selectEvent (s.setFraming .started))
    obtain ⟨-, incidents, -⟩ := started.selection
    refine ⟨_, (exec_frameReceived signal).trans (congrArg _ run), framing, rx.trans started.rx,
      (passes_linkError .length .hunting _).slots.trans started.passes.slots, ?_⟩
    rw [linkError_incidents, incidents]
  · have run : takeSymbols [.delimiter] s = selectEvent (raiseLinkError .length (s.setFraming .started)) := by
      rw [takeSymbols_cons, takeSymbol_inside inside]
      rfl
    obtain ⟨framing, rx⟩ := linkError_link .length .started s
    exact ⟨_, (exec_frameReceived signal).trans (congrArg _ run), framing, rx, (passes_linkError .length .started s).slots,
      linkError_incidents .length .started s⟩

end

end Sys2Proof.Machine
end

section
/-! PROOFS. What a frame on the line carries (R154, R163), and the transmitter (R159). -/

namespace Sys2Proof.Machine

-- one proof at a time: the text is compiled whole, in one process whose threads share its memory limit
set_option Elab.async false

section
variable {s : State} {f : List LineSymbol} {m : Message} {fill : Nat → Byte}

/-! ### Numbers in bytes (R163) -/

theorem hiByte_eq (w : BitVec 16) : hiByte w = BitVec.ofNat 8 (w.toNat / 256) := by
  apply BitVec.eq_of_toNat_eq
  simp [hiByte, Nat.shiftRight_eq_div_pow]

theorem loByte_eq (w : BitVec 16) : loByte w = BitVec.ofNat 8 w.toNat := by
  apply BitVec.eq_of_toNat_eq
  simp [loByte]

theorem lowFirst16_eq (w : BitVec 16) : lowFirst16 w = twoBytes w.toNat := by
  simp only [lowFirst16, twoBytes, hiByte_eq, loByte_eq]

theorem lowFirst16_ofNat (n : Nat) : lowFirst16 (BitVec.ofNat 16 n) = twoBytes n := by
  have low : BitVec.ofNat 8 (n % 65536) = BitVec.ofNat 8 n := by
    apply BitVec.eq_of_toNat_eq
    simp only [BitVec.toNat_ofNat]
    omega
  have high : BitVec.ofNat 8 (n % 65536 / 256) = BitVec.ofNat 8 (n / 256) := by
    apply BitVec.eq_of_toNat_eq
    simp only [BitVec.toNat_ofNat]
    omega
  rw [lowFirst16_eq, BitVec.toNat_ofNat, twoBytes, twoBytes, low, high]

theorem addrBytes_eq (a : Addr) : addrBytes a = threeBytes a := by
  have high : a.extractLsb' 16 8 = BitVec.ofNat 8 (a.toNat / 65536) := by
    apply BitVec.eq_of_toNat_eq
    simp [Nat.shiftRight_eq_div_pow]
  have mid : a.extractLsb' 8 8 = BitVec.ofNat 8 (a.toNat / 256) := by
    apply BitVec.eq_of_toNat_eq
    simp [Nat.shiftRight_eq_div_pow]
  have low : a.extractLsb' 0 8 = BitVec.ofNat 8 a.toNat := by
    apply BitVec.eq_of_toNat_eq
    simp
  rw [addrBytes, threeBytes, high, mid, low]

theorem positionsBytes_eq (p : Positions) : positionsBytes p = fourBytes p := by
  have byte0 : p.extractLsb' 0 8 = BitVec.ofNat 8 p.toNat := by
    apply BitVec.eq_of_toNat_eq
    simp
  have byte1 : p.extractLsb' 8 8 = BitVec.ofNat 8 (p.toNat / 256) := by
    apply BitVec.eq_of_toNat_eq
    simp [Nat.shiftRight_eq_div_pow]
  have byte2 : p.extractLsb' 16 8 = BitVec.ofNat 8 (p.toNat / 65536) := by
    apply BitVec.eq_of_toNat_eq
    simp [Nat.shiftRight_eq_div_pow]
  have byte3 : p.extractLsb' 24 8 = BitVec.ofNat 8 (p.toNat / 16777216) := by
    apply BitVec.eq_of_toNat_eq
    simp [Nat.shiftRight_eq_div_pow]
  rw [positionsBytes, fourBytes, byte0, byte1, byte2, byte3]

/-! ### The check word (R154) -/

theorem crcBit_toNat (crc : BitVec 16) (bit : Bool) :
    (crcBit crc bit).toNat = if decide (32768 ≤ crc.toNat) = bit then 2 * crc.toNat % 65536
      else (2 * crc.toNat % 65536) ^^^ (2 ^ 12 + 2 ^ 5 + 1) := by
  have top : crc.getLsbD 15 = decide (32768 ≤ crc.toNat) := by
    have msb := BitVec.msb_eq_decide crc
    rwa [BitVec.msb_eq_getLsbD_last] at msb
  have shifted : (crc <<< 1).toNat = 2 * crc.toNat % 65536 := by
    simp [Nat.shiftLeft_eq, Nat.mul_comm]
  unfold crcBit
  dsimp only
  rw [top]
  by_cases same : decide (32768 ≤ crc.toNat) = bit
  · simp only [same, bne_self_eq_false, Bool.false_eq_true, if_false, if_true, shifted]
  · rw [if_neg same, if_pos (by simpa [bne_iff_ne] using same), BitVec.toNat_xor, shifted]
    rfl

theorem registerAfter_append (first later : List Bool) (r : Nat) :
    registerAfter (first ++ later) r = registerAfter later (registerAfter first r) := by
  induction first generalizing r with
  | nil => rfl
  | cons bit rest ih => exact ih _

theorem registerAfter_bits (bits : List Bool) (crc : BitVec 16) :
    registerAfter bits crc.toNat = (bits.foldl crcBit crc).toNat := by
  induction bits generalizing crc with
  | nil => rfl
  | cons bit rest ih => rw [registerAfter, ← crcBit_toNat, ih, List.foldl_cons]

theorem registerAfter_bitsOf (body : List Byte) (crc : BitVec 16) :
    registerAfter (bitsOf body) crc.toNat = (body.foldl crcByte crc).toNat := by
  induction body generalizing crc with
  | nil => rfl
  | cons b rest ih =>
    have first : bitsOf (b :: rest) = [b.getLsbD 7, b.getLsbD 6, b.getLsbD 5, b.getLsbD 4, b.getLsbD 3, b.getLsbD 2, b.getLsbD 1,
      b.getLsbD 0] ++ bitsOf rest := rfl
    rw [first, registerAfter_append, registerAfter_bits, ih]
    rfl

theorem checkWord_toNat (body : List Byte) : (checkWord body).toNat = registerAfter (bitsOf body) 65535 :=
  (registerAfter_bitsOf body 0xFFFF).symm

/-- A frame holds its body between the length byte and the check word. -/
theorem frameOf_eq (body : List Byte) :
    frameOf body = .delimiter :: .byte (BitVec.ofNat 8 body.length) ::
      (body ++ [BitVec.ofNat 8 (registerAfter (bitsOf body) 65535 / 256), BitVec.ofNat 8 (registerAfter (bitsOf body) 65535)]).map
        .byte := by
  simp only [frameOf, hiByte_eq, loByte_eq, checkWord_toNat, byteOf, List.map_append, List.map_cons, List.map_nil,
    List.cons_append, List.nil_append]

/-! ### The layouts (R163) -/

theorem faultNumber_eq (c : FaultCode) : faultNumber c = codeOfFault c := by cases c <;> rfl

theorem answerCode_eq (a : Answer) : answerCode a = BitVec.ofNat 8 (codeOfAnswer a) := by
  cases a with
  | fault c => rw [answerCode, faultNumber_eq]; rfl
  | done => rfl
  | data v => rfl
  | defer => rfl
  | full => rfl
  | skipped => rfl

theorem headerByte_eq (k : Initiator) (t : Tag) : headerByte ⟨k, t, .none⟩ = BitVec.ofNat 8 (32 * k.val + 4 * t.val) := by
  revert k t
  decide

theorem sourceNumber_eq (src : Source) : (sourceNumber src).val = numberOfSource src := by
  cases src with
  | station n => rfl
  | incident k => cases k <;> rfl

theorem detailBytes_eq (d : Option Detail) : detailBytes d = detailCarried d := by
  rcases d with - | p | ⟨p, a⟩ | n | (- | -)
  · rfl
  · rfl
  · simp only [detailBytes, detailCarried, addrBytes_eq]; rfl
  · rfl
  · rfl
  · rfl

theorem regionBytes_eq (r : RegionRecord) :
    [phaseCode r.phase] ++ regionFieldBytes r.fields ++ [byteOf r.inFlight] = regionCarried r := by
  obtain ⟨phase, ⟨base, limit, port, completion, posted, lanes, lockable, readSet, writeSet, targetBase⟩, inFlight⟩ := r
  simp only [regionCarried, regionFieldBytes, addrBytes_eq, yesNoByte, byteOf, List.append_assoc, List.cons_append, List.nil_append]
  cases phase <;> cases completion <;> cases lanes <;>
    simp only [phaseCode, completionBytes, laneCode, byteOf, List.cons_append, List.nil_append]

theorem portBytes_eq (r : PortReport) :
    [settingCode r.setting, portStateCode r.state, byteOf r.queueLength, gateCode r.gate, byteOf r.lockLifetime,
      byteOf r.holdLimit] ++ lockBytes r.lock = portCarried r := by
  obtain ⟨setting, state, queueLength, gate, lockLifetime, holdLimit, lock⟩ := r
  cases lock with
  | none => cases setting <;> cases state <;> cases gate <;> rfl
  | some l =>
    obtain ⟨owner, address, width, entry, timer⟩ := l
    simp only [portCarried, lockBytes, addrBytes_eq]
    cases setting <;> cases state <;> cases gate <;> cases width <;> cases timer <;> rfl

theorem optionBytes_carried (p : Option Positions) (free : Positions) :
    OptionCarried p (yesNoByte p.isSome :: positionsBytes (p.getD free)) := by
  cases p with
  | none => exact ⟨_, _, _, _, rfl⟩
  | some v => simp only [OptionCarried, positionsBytes_eq]; rfl

theorem stationBytes_carried (fill : Nat → Byte) (r : Station) : StationCarried r (recordBytes fill (.station r)) := by
  refine ⟨_, _, optionBytes_carried r.lastSample (fillPositions fill 1), optionBytes_carried r.delivered (fillPositions fill 5), ?_⟩
  cases presence : r.presence <;>
    simp only [recordBytes, presenceCode, presence, ← positionsBytes_eq, byteOf, List.append_assoc, List.cons_append, List.nil_append]

/-- The bits of an initiator's byte: the occupancy below, the mode on top, and free ones between. -/
theorem occupancyByte_carries (free : Byte) (r : Nat × Mode) :
    (occupancyByte free r).toNat % 16 = r.1 % 16 ∧ (occupancyByte free r).getLsbD 7 = decide (r.2 = .abandoning) := by
  have low (k : Nat) (below : k < 4) : (occupancyByte free r).getLsbD k = (BitVec.ofNat 8 r.1).getLsbD k := by
    have cases_of : k = 0 ∨ k = 1 ∨ k = 2 ∨ k = 3 := by omega
    unfold occupancyByte byteOf
    rcases cases_of with rfl | rfl | rfl | rfl <;> cases r.2 <;> simp
  constructor
  · have nibble : (occupancyByte free r).setWidth 4 = BitVec.ofNat 4 r.1 := by
      refine BitVec.eq_of_getLsbD_eq fun k below => ?_
      rw [BitVec.getLsbD_setWidth, low k below]
      simp only [below, decide_true, Bool.true_and, BitVec.getLsbD_ofNat, show k < 8 by omega]
    simpa using congrArg BitVec.toNat nibble
  · unfold occupancyByte
    cases r.2 <;> simp

theorem occupancyBytes_carried (fill : Nat → Byte) (records : List (Nat × Mode)) (free : Nat) :
    OccupancyCarried records free (recordBytes fill (.occupancy records free)) := by
  have length : (records.mapIdx fun k r => occupancyByte (fill (k + 1)) r).length = records.length := by simp
  refine ⟨by simp [recordBytes], ?_, fun k r found => ⟨occupancyByte (fill (k + 1)) r, ?_, occupancyByte_carries _ r⟩⟩
  · rw [recordBytes, List.getElem?_append_right (by rw [length]), length]
    simp [byteOf]
  · have below : k < records.length := (List.getElem?_eq_some_iff.mp found).1
    rw [recordBytes, List.getElem?_append_left (by rw [length]; exact below), List.getElem?_mapIdx, found]
    rfl

theorem dataBytes_carried (fill : Nat → Byte) (v : DataValue) : DataCarried v (dataBytes fill v) := by
  rcases v with b | w | ((- | r) | r | r | r | ⟨records, free⟩)
  · rfl
  · exact lowFirst16_eq w
  · rfl
  · exact regionBytes_eq r
  · exact portBytes_eq r
  · exact stationBytes_carried fill r
  · simp only [dataBytes, recordBytes, DataCarried, lowFirst16_ofNat, detailBytes_eq]
  · exact occupancyBytes_carried fill records free

theorem responseFlags_bits (free : Byte) (r : Response) :
    (responseFlags free r).getLsbD 0 = r.partialMarker ∧ (responseFlags free r).getLsbD 1 = r.summary.isSome := by
  unfold responseFlags yesNoByte
  cases r.partialMarker <;> cases r.summary <;> simp

theorem summaryBytes_eq (c : Summary) : summaryBytes c = (match c.failure with
    | none => [BitVec.ofNat 8 c.count, 0, 0, 0]
    | some f => [BitVec.ofNat 8 c.count] ++ twoBytes f.ordinal ++ [BitVec.ofNat 8 (codeOfFault f.code)]) := by
  unfold summaryBytes
  cases c.failure with
  | none => rfl
  | some f => simp only [lowFirst16_ofNat, faultNumber_eq]; rfl

theorem responseBody_carried (fill : Nat → Byte) (r : Response) : ResponseCarried r (responseBody fill r) := by
  obtain ⟨marker, present⟩ := responseFlags_bits (fill 0) r
  refine ⟨responseFlags (fill 0) r, (match r.answer with
    | .data v => dataBytes fill v
    | _ => []), marker, present, ?_, ?_⟩
  · rw [responseBody, headerByte_eq, answerCode_eq]
    cases r.summary with
    | none => rfl
    | some c => simp only [summaryBytes_eq] <;> rfl
  · cases r.answer with
    | data v => exact dataBytes_carried fill v
    | done => rfl
    | defer => rfl
    | full => rfl
    | skipped => rfl
    | fault c => rfl

theorem eventBody_carried (fill : Nat → Byte) (target : Initiator) (e : EventMessage) :
    BodyCarried (.event target e) (eventBody fill target e) := by
  have low := target.isLt
  refine ⟨BitVec.ofNat 3 target.val ++ (fill 0).extractLsb' 0 5, ?_, ?_⟩
  · have free := ((fill 0).extractLsb' 0 5).isLt
    rw [BitVec.toNat_append, ← Nat.shiftLeft_add_eq_or_of_lt free, Nat.shiftLeft_eq, BitVec.toNat_ofNat]
    omega
  · simp only [eventBody, sourceNumber_eq, byteOf]
    cases e.payload with
    | latched set => simp only [payloadBytes, positionsBytes_eq]
    | incident count detail => simp only [payloadBytes, lowFirst16_ofNat, detailBytes_eq]

theorem noticeBody_carried (fill : Nat → Byte) (strap : Initiator) (count : BitVec 16) :
    BodyCarried (.linkNotice strap count) (noticeBody fill strap count) := by
  have low := strap.isLt
  refine ⟨(fill 0).extractLsb' 3 5 ++ BitVec.ofNat 3 strap.val, ?_, ?_⟩
  · have small := (BitVec.ofNat 3 strap.val).isLt
    rw [BitVec.toNat_append, ← Nat.shiftLeft_add_eq_or_of_lt small, Nat.shiftLeft_eq, BitVec.toNat_ofNat]
    omega
  · rw [noticeBody, lowFirst16_eq]

/-- The frame of a message carries it, whatever the bits that no layout states. -/
theorem frameOf_carries (fill : Nat → Byte) (m : Message) : FrameCarries m (frameOf (messageBody fill m)) := by
  refine ⟨messageBody fill m, ?_, frameOf_eq _⟩
  cases m with
  | response r => exact responseBody_carried fill r
  | event target e => exact eventBody_carried fill target e
  | linkNotice strap count => exact noticeBody_carried fill strap count

/-! ### The transmitter (R159) -/

theorem beginFrame_sending {l : LinkUnit} (leaving : l.sending = some f) : beginFrame l = l := by
  simp [beginFrame, leaving]

theorem beginFrame_paused {l : LinkUnit} (paused : l.farPause = true) : beginFrame l = l := by
  unfold beginFrame
  split
  · rw [if_pos paused]
  · rfl

theorem beginFrame_begins {l : LinkUnit} {later : List Message} (idle : l.sending = none) (waiting : l.outbound = m :: later)
    (mark : l.farPause = false) : ∃ f, (beginFrame l).sending = some f ∧ FrameCarries m f := by
  refine ⟨frameOf (messageBody (Config.freeByte l.frameCount) m), ?_, frameOf_carries _ m⟩
  simp [beginFrame, idle, waiting, mark]

theorem enqueue_sending {l : LinkUnit} (m : Message) (fixed : l.sending ≠ none ∨ l.farPause = true) :
    (enqueue l m).sending = l.sending := by
  have kept : beginFrame { l with outbound := l.outbound ++ [m] } = { l with outbound := l.outbound ++ [m] } := by
    rcases fixed with leaving | paused
    · obtain ⟨f, leaving⟩ := Option.ne_none_iff_exists'.mp leaving
      exact beginFrame_sending leaving
    · exact beginFrame_paused paused
  unfold enqueue
  split
  · rfl
  · rw [kept]

/-- A selection lets the frame on the line be, and begins none under a pause mark. -/
theorem selectEvent_sending (fixed : s.link.sending ≠ none ∨ s.link.farPause = true) :
    (selectEvent s).link.sending = s.link.sending := by
  rcases selectEvent_cases s with still | ⟨-, src, built⟩
  · rw [still]
  · have link : (copyForSource src (s.setEvents (eventsAfterBuild s.events (builtMessage s src)))).link = s.link := by simp
    have sent : (buildMessage src s).link = enqueue s.link (.event s.events.target (builtMessage s src)) := by
      rw [← link]
      rfl
    rw [built, sent, enqueue_sending _ fixed]

/-- A change of the link interface alone, followed by selection: what every link event does here. -/
theorem select_setLink {l : LinkUnit} {old : List Message} (outbound : old <+: l.outbound) :
    old <+: (selectEvent (s.setLink l)).link.outbound ∧ (selectEvent (s.setLink l)).slots = s.slots ∧
      OnlySelection s (selectEvent (s.setLink l)) :=
  ⟨selectEvent_grows _ outbound, by simp, (OnlySelection.of_eq (t := s.setLink l) rfl rfl).trans (selectEvent_onlySelection _)⟩

theorem beginFrame_outbound (l : LinkUnit) : (beginFrame l).outbound = l.outbound := by simp

/-- A frame that begins in an event stands on the line at its end. -/
theorem select_begins {l : LinkUnit} {later : List Message} (idle : l.sending = none) (waiting : l.outbound = m :: later)
    (mark : l.farPause = false) :
    ∃ f, (selectEvent (s.setLink (beginFrame l))).link.sending = some f ∧ FrameCarries m f := by
  obtain ⟨f, begun, carries⟩ := beginFrame_begins idle waiting mark
  refine ⟨f, ?_, carries⟩
  rw [selectEvent_sending (.inl (by simp [begun]))]
  exact begun

/-- Settles O5: each link event changes the link interface alone, and a frame begins from the head of the outbound list. -/
theorem transmitterFollowsPauseMark : Obligations.TransmitterFollowsPauseMark := by
  unfold Obligations.TransmitterFollowsPauseMark
  refine ⟨fun s => ?_, fun s => ?_, fun s f m later leaving waiting => ?_, fun s => ?_⟩
  · obtain ⟨outbound, slots, selection⟩ :=
      select_setLink (s := s) (l := { s.link with farPause := true }) (old := s.link.outbound) List.prefix_rfl
    exact ⟨_, rfl, by simp, selectEvent_sending (.inr rfl), outbound, slots, selection⟩
  · obtain ⟨outbound, slots, selection⟩ := select_setLink (s := s) (l := beginFrame { s.link with farPause := false })
      (old := s.link.outbound) (by simp)
    refine ⟨_, rfl, by simp, outbound, slots, selection, fun f leaving => ?_, fun m later idle waiting =>
      select_begins idle waiting rfl⟩
    have same : beginFrame { s.link with farPause := false } = { s.link with farPause := false } := beginFrame_sending leaving
    rw [same, selectEvent_sending (.inl (by simp [leaving]))]
    exact leaving
  · have left : messageLeft s.link = beginFrame { s.link with outbound := later, sending := none } := by
      simp [messageLeft, leaving, waiting]
    have run : exec .messageSent s =
        .next (selectEvent (s.setLink (beginFrame { s.link with outbound := later, sending := none }))) := by
      rw [← left]
      rfl
    obtain ⟨outbound, slots, selection⟩ := select_setLink (s := s)
      (l := beginFrame { s.link with outbound := later, sending := none }) (old := later) (by simp)
    refine ⟨_, run, outbound, slots, selection, fun paused => ?_, fun n rest more mark =>
      select_begins (later := rest) rfl more mark⟩
    have same : beginFrame { s.link with outbound := later, sending := none } = { s.link with outbound := later, sending := none } :=
      beginFrame_paused paused
    rw [same]
    exact selectEvent_sending (.inr paused)
  · obtain ⟨outbound, slots, selection⟩ :=
      select_setLink (s := s) (l := { s.link with signal := true }) (old := s.link.outbound) List.prefix_rfl
    exact ⟨_, rfl, by simp, by simp, by simp, outbound, slots, selection⟩

end

end Sys2Proof.Machine
end

section
/-! PROOFS. Abandonment of one initiator or of all (R39 to R43, R79, R104, R161). -/

namespace Sys2Proof.Machine

-- one proof at a time: the text is compiled whole, in one process whose threads share its memory limit
set_option Elab.async false

section
variable {s t u : State} {who : InitiatorSet} {tag : Option Tag} {k : Initiator} {i j : SlotId} {p : PortId} {l : LockRecord}

/-! ### Steps over a list -/

/-- A step for each thing of a list makes a property for each of them, when no step undoes it for another. -/
theorem forEach_establishes {α : Type} {f : α → State → State} {Inv : State → Prop} {Q : α → State → Prop}
    (makes : ∀ x s, Inv s → Inv (f x s) ∧ Q x (f x s)) (keeps : ∀ x y s, Inv s → Q y s → Q y (f x s)) (l : List α)
    (ready : Inv s) : Inv (forEach f l s) ∧ ∀ x, x ∈ l → Q x (forEach f l s) := by
  have later (rest : List α) (y : α) (s : State) (inv : Inv s) (made : Q y s) : Inv (forEach f rest s) ∧ Q y (forEach f rest s) := by
    induction rest generalizing s with
    | nil => exact ⟨inv, made⟩
    | cons x rest ih => exact ih _ (makes x s inv).1 (keeps x y s inv made)
  induction l generalizing s with
  | nil => exact ⟨ready, fun _ mem => absurd mem (by simp)⟩
  | cons x rest ih =>
    obtain ⟨inv, made⟩ := makes x s ready
    obtain ⟨inv', others⟩ := ih inv
    refine ⟨inv', fun y mem => ?_⟩
    rcases List.mem_cons.mp mem with rfl | mem
    · exact (later rest y _ inv made).2
    · exact others y mem

/-- A step for each thing of a list keeps what every step keeps. -/
theorem forEach_invariant {α : Type} {f : α → State → State} {Inv : State → Prop} (keeps : ∀ x s, Inv s → Inv (f x s))
    (l : List α) (ready : Inv s) : Inv (forEach f l s) :=
  (forEach_establishes (Q := fun _ _ => True) (fun x s inv => ⟨keeps x s inv, trivial⟩) (fun _ _ _ _ _ => trivial) l ready).1

/-! ### An initiator whose work is withdrawn (R40, R42) -/

/-- From `s` on, the initiator `k` is ABANDONING with the tag given, or its abandonment has ended in this event with its ABANDON
answered. -/
structure Winding (s : State) (tag : Option Tag) (k : Initiator) (t : State) : Prop where
  linkState : t.link.state = s.link.state
  outbound : s.link.outbound <+: t.link.outbound
  record : ((row t.initiators k).mode = .abandoning ∧ (row t.initiators k).abandonTag = tag) ∨
    (row t.initiators k = { occupancy := 0, mode := .normal, abandonTag := none } ∧
      ∀ g, tag = some g → s.link.state = .up → Hands s t (plainResponse k g .done))

/-- A step that takes nothing from the outbound list, and lowers the occupancy at most. -/
theorem Winding.step (w : Winding s tag k t) (linkState : u.link.state = t.link.state)
    (outbound : t.link.outbound <+: u.link.outbound)
    (initiators : row u.initiators k = row t.initiators k ∨
      row u.initiators k = { row t.initiators k with occupancy := (row t.initiators k).occupancy - 1 }) : Winding s tag k u where
  linkState := linkState.trans w.linkState
  outbound := w.outbound.trans outbound
  record := by
    rcases w.record with ⟨mode, given⟩ | ⟨ended, answered⟩
    · refine .inl ?_
      rcases initiators with same | lowered
      · rw [same]; exact ⟨mode, given⟩
      · rw [lowered]; exact ⟨mode, given⟩
    · refine .inr ⟨?_, fun g given up => (answered g given up).until outbound⟩
      rcases initiators with same | lowered
      · rw [same, ended]
      · rw [lowered, ended] <;> rfl

theorem endAbandonment_other {j : Initiator} (other : k ≠ j) (s : State) : row (endAbandonment j s).initiators k = row s.initiators k := by
  unfold endAbandonment
  dsimp only
  split
  · split <;> simp [row_putRow_ne _ _ _ _ other]
  · rfl

theorem endAbandonment_ends (abandoning : (row s.initiators k).mode = .abandoning) (empty : (row s.initiators k).occupancy = 0) :
    row (endAbandonment k s).initiators k = { occupancy := 0, mode := .normal, abandonTag := none } ∧
      ∀ g, (row s.initiators k).abandonTag = some g → s.link.state = .up →
        (endAbandonment k s).link.outbound = s.link.outbound ++ [plainResponse k g .done] := by
  unfold endAbandonment
  rw [if_pos ⟨abandoning, empty⟩]
  dsimp only
  cases given : (row s.initiators k).abandonTag with
  | none => exact ⟨by simp [empty], by simp⟩
  | some t =>
    refine ⟨by simp [empty], fun g same up => ?_⟩
    obtain rfl := Option.some.inj same
    exact handOver_outbound_up _ _ (by simpa using up)

theorem Winding.endAbandonment (w : Winding s tag k t) (j : Initiator) : Winding s tag k (endAbandonment j t) := by
  have grows : t.link.outbound <+: (Machine.endAbandonment j t).link.outbound := endAbandonment_grows j t List.prefix_rfl
  by_cases here : k = j
  · subst here
    by_cases ends : (row t.initiators k).mode = .abandoning ∧ (row t.initiators k).occupancy = 0
    · obtain ⟨ended, answers⟩ := endAbandonment_ends ends.1 ends.2
      refine ⟨by simpa using w.linkState, w.outbound.trans grows, .inr ⟨ended, fun g given up => ?_⟩⟩
      rcases w.record with ⟨-, given'⟩ | ⟨normal, -⟩
      · exact .of_grows w.outbound (by rw [answers g (given'.trans given) (w.linkState.trans up)])
      · rw [normal] at ends
        cases ends.1
    · have still : Machine.endAbandonment k t = t := by rw [Machine.endAbandonment, if_neg ends]
      rwa [still]
  · exact w.step (by simp) grows (.inl (endAbandonment_other here t))

theorem lowered_occupancy (k j : Initiator) (s : State) :
    row (lowerOccupancy j s).initiators k = row s.initiators k ∨
      row (lowerOccupancy j s).initiators k = { row s.initiators k with occupancy := (row s.initiators k).occupancy - 1 } := by
  simp only [lowerOccupancy, State.setInitiator_initiators, row_putRow]
  split
  · next same => rw [same]; exact .inr rfl
  · exact .inl rfl

theorem Winding.freeSlotOf (w : Winding s tag k t) (i : SlotId) (j : Initiator) : Winding s tag k (freeSlotOf i j t) :=
  w.step (by simp) (by simp) (lowered_occupancy k j (t.setSlot i none))

theorem Winding.answerRetire (w : Winding s tag k t) (e : EntryId) : Winding s tag k (answerRetire e t) := by
  rcases answerRetire_cases e t with ⟨-, run⟩ | ⟨r, -, -, ⟨-, run⟩ | ⟨j, y, -, -, -, run⟩⟩
  · rwa [run]
  · rw [run]
    exact w.step rfl List.prefix_rfl (.inl rfl)
  · rw [run]
    refine (Winding.freeSlotOf (w.step ?_ ?_ ?_) j y.initiator).endAbandonment y.initiator
    · simp [retireListed]
    · exact answerSlot_grows j y .done (retireListed e t) List.prefix_rfl
    · exact .inl (by simp [retireListed])

theorem Winding.lowerCount (w : Winding s tag k t) (e : EntryId) : Winding s tag k (lowerCount e t) := by
  unfold Machine.lowerCount
  split
  · exact w
  · split
    · exact (w.step (u := t.setRegion e none) rfl List.prefix_rfl (.inl rfl)).answerRetire e
    · exact w.step rfl List.prefix_rfl (.inl rfl)

theorem Winding.dropSlot (w : Winding s tag k t) (who : InitiatorSet) (i : SlotId) : Winding s tag k (dropSlot who i t) := by
  unfold Machine.dropSlot
  split
  · next x _ =>
    split
    · have left : Winding s tag k (leaveQueues i x.work t) := w.step (by simp) (by simp) (.inl (by simp))
      have freed := left.freeSlotOf i x.initiator
      unfold lowerWorkCount
      split
      · exact freed.lowerCount _
      · exact freed
    · exact w
  · exact w

/-! ### What is withdrawn before the drops (R40 steps 1, 4 and 6) -/

/-- The work of the initiators of a set is being withdrawn: their ACTIVE slots are suppressed, and their chains are CLOSED. -/
structure Withdrawing (s : State) (who : InitiatorSet) (tag : Option Tag) (t : State) : Prop where
  agree : Agree .nothing t
  table : SlotTableOk t
  winding : ∀ k, who.has k = true → Winding s tag k t
  suppressed : ∀ i x, row t.slots i = some x → who.has x.initiator = true → x.state = .active → x.answered = true ∨ x.suppressed = true
  closed : ∀ k, who.has k = true → row t.chains k = Chain.closed

theorem Agree.kept {f : State → State} (keeps : (True → Agree .nothing s) → Keeps True True .nothing s (f s))
    (agree : Agree .nothing s) (table : SlotTableOk s) : Agree .nothing (f s) ∧ SlotTableOk (f s) :=
  ⟨(keeps fun _ => agree).queues trivial, (keeps fun _ => agree).table table⟩

theorem startModes_winding (s : State) (who : InitiatorSet) (tag : Option Tag) (h : who.has k = true) :
    Winding s tag k (forEach (startMode tag) (initiatorsOf who) s) where
  linkState := by rw [forEach_keeps State.link _ (fun k s => by simp)]
  outbound := by rw [forEach_keeps State.link _ (fun k s => by simp)]
  record := by
    refine .inl ((forEach_establishes (f := startMode tag) (Inv := fun _ => True)
      (Q := fun k t => (row t.initiators k).mode = .abandoning ∧ (row t.initiators k).abandonTag = tag)
      (fun k s _ => ⟨trivial, by simp [startMode]⟩) (fun j k s _ made => ?_) (initiatorsOf who) trivial).2 k
      ((mem_initiatorsOf who k).mpr h))
    simp only [startMode, State.setInitiator_initiators, row_putRow]
    split
    · exact ⟨rfl, rfl⟩
    · exact made

theorem suppressSlot_rows (who : InitiatorSet) (i j : SlotId) (s : State) :
    row (suppressSlot who i s).slots j = row s.slots j ∨
      (j = i ∧ ∃ x, row s.slots i = some x ∧ row (suppressSlot who i s).slots i = some { x with suppressed := true }) := by
  unfold suppressSlot
  split
  · next x held =>
    split
    · by_cases here : j = i
      · exact .inr ⟨here, x, held, by simp⟩
      · exact .inl (by simp [row_putRow_ne _ _ _ _ here])
    · exact .inl rfl
  · exact .inl rfl

/-- The state before the drops. -/
def preparedFor (who : InitiatorSet) (tag : Option Tag) (s : State) : State :=
  forEach clearChain (initiatorsOf who) (forEach (suppressSlot who) (List.finRange 32) (forEach (startMode tag) (initiatorsOf who) s))

theorem suppressSlot_suppresses {x : Slot} (held : row (suppressSlot who i s).slots i = some x) (own : who.has x.initiator = true)
    (active : x.state = .active) : x.suppressed = true := by
  unfold suppressSlot at held
  split at held
  · next y hy =>
    split at held
    · simp only [State.setSlot_slots, row_putRow_self, Option.some.injEq] at held
      rw [← held]
    · next leaves =>
      obtain rfl : y = x := Option.some.inj (hy.symm.trans held)
      exact absurd ⟨own, active⟩ leaves
  · next free => rw [free] at held; cases held

theorem withdrawing_prepared (agree : Agree .nothing s) (table : SlotTableOk s) :
    Withdrawing s who tag (preparedFor who tag s) := by
  have modes := forEach_invariant (f := startMode tag) (Inv := fun t => Agree .nothing t ∧ SlotTableOk t)
    (fun k t ok => Agree.kept (f := startMode tag k) (fun q => startMode_keeps q tag k) ok.1 ok.2) (initiatorsOf who) ⟨agree, table⟩
  obtain ⟨suppressing, suppressed⟩ := forEach_establishes (f := suppressSlot who) (Inv := fun t => Agree .nothing t ∧ SlotTableOk t)
    (Q := fun i t => ∀ x, row t.slots i = some x → who.has x.initiator = true → x.state = .active → x.suppressed = true)
    (fun i t ok => ⟨Agree.kept (fun q => suppressSlot_keeps q who i) ok.1 ok.2, fun x => suppressSlot_suppresses⟩)
    (fun i j t _ made x held own active => by
      rcases suppressSlot_rows who i j t with same | ⟨rfl, -⟩
      · exact made x (same ▸ held) own active
      · exact suppressSlot_suppresses held own active)
    (List.finRange 32) modes
  obtain ⟨agree', table'⟩ := forEach_invariant (f := clearChain) (Inv := fun t => Agree .nothing t ∧ SlotTableOk t)
    (fun k t ok => Agree.kept (fun q => closeChain_keeps q k) ok.1 ok.2) (initiatorsOf who) suppressing
  refine ⟨agree', table', fun k h => ?_, fun i x held => ?_, fun k h => ?_⟩
  · have started := startModes_winding s who tag h
    have link : (preparedFor who tag s).link = (forEach (startMode tag) (initiatorsOf who) s).link := by
      rw [preparedFor, forEach_keeps State.link _ (fun k s => by simp), forEach_keeps State.link _ (fun k s => by simp)]
    refine started.step (by rw [link]) (by rw [link]) (.inl ?_)
    · rw [preparedFor, forEach_keeps State.initiators _ (fun k s => by simp),
        forEach_keeps State.initiators _ (fun k s => by simp)]
  · rw [preparedFor, forEach_keeps State.slots _ (fun k s => by simp)] at held
    exact fun own active => .inr (suppressed i (List.mem_finRange i) x held own active)
  · rw [preparedFor, row_forEach_clearChain, if_pos ((mem_initiatorsOf who k).mpr h)]

/-! ### The drops (R40 steps 2 and 3) -/

theorem dropSlot_keptOrFreed (who : InitiatorSet) (i j : SlotId) (s : State) : KeptOrFreed j s (dropSlot who i s) := by
  unfold dropSlot
  split
  · next x _ =>
    split
    · have left : KeptOrFreed j s (leaveQueues i x.work s) := .of_slots_eq j (by simp)
      refine left.trans (KeptOrFreed.trans ?_ (lowerWorkCount_keptOrFreed _ _ _))
      by_cases here : j = i
      · exact .inr (by rw [freeSlotOf_slots, here, row_putRow_self])
      · exact .inl (by rw [freeSlotOf_slots, row_putRow_ne _ _ _ _ here])
    · exact .inl rfl
  · exact .inl rfl

/-- A slot that is left of an abandoned initiator is an answered posted write, or ACTIVE and suppressed (R40). -/
def Settled (who : InitiatorSet) (t : State) : Prop :=
  ∀ i x, row t.slots i = some x → who.has x.initiator = true → x.answered = true ∨ (x.state = .active ∧ x.suppressed = true)

theorem dropSlot_drops {x : Slot} (table : SlotTableOk s) (held : row (dropSlot who i s).slots i = some x)
    (own : who.has x.initiator = true) : x.answered = true ∨ x.state = .active := by
  have before : row s.slots i = some x := by
    rcases dropSlot_keptOrFreed who i i s with kept | freed
    · rw [← kept, held]
    · rw [freed] at held; cases held
  by_cases drops : dropsSlot who x = true
  · have freed : row (dropSlot who i s).slots i = none := by
      simp only [dropSlot, before, drops, if_true]
      exact (lowerWorkCount_keptOrFreed _ _ _).free (by rw [freeSlotOf_slots, row_putRow_self])
    rw [freed] at held
    cases held
  · obtain ⟨-, -, unfinished, -⟩ := table
    have notDone := unfinished i x before
    cases answered : x.answered with
    | true => exact .inl rfl
    | false =>
      refine .inr ?_
      cases state : x.state with
      | waiting => simp [dropsSlot, own, answered, state] at drops
      | queued => simp [dropsSlot, own, answered, state] at drops
      | active => rfl
      | done => exact absurd state notDone

theorem KeptOrFreed.before {x : Slot} (kept : KeptOrFreed i s t) (held : row t.slots i = some x) : row s.slots i = some x := by
  rcases kept with same | freed
  · rw [← same, held]
  · rw [freed] at held; cases held

theorem Withdrawing.dropSlot (w : Withdrawing s who tag t) (i : SlotId) : Withdrawing s who tag (dropSlot who i t) := by
  obtain ⟨agree, table⟩ := Agree.kept (fun q => dropSlot_keeps q (fun k h => by rw [w.closed k h]; rfl) i) w.agree w.table
  exact ⟨agree, table, fun k h => (w.winding k h).dropSlot who i,
    fun j x held => w.suppressed j x ((dropSlot_keptOrFreed who i j t).before held),
    fun k h => by rw [← w.closed k h]; simp⟩

/-- The state with the slots dropped. -/
def droppedFor (who : InitiatorSet) (tag : Option Tag) (s : State) : State :=
  forEach (dropSlot who) (List.finRange 32) (preparedFor who tag s)

theorem withdrawing_dropped (agree : Agree .nothing s) (table : SlotTableOk s) :
    Withdrawing s who tag (droppedFor who tag s) ∧ Settled who (droppedFor who tag s) := by
  obtain ⟨w, dropped⟩ := forEach_establishes (f := Machine.dropSlot who) (Inv := Withdrawing s who tag)
    (Q := fun i t => ∀ x, row t.slots i = some x → who.has x.initiator = true → x.answered = true ∨ x.state = .active)
    (fun i t w => ⟨w.dropSlot i, fun x => dropSlot_drops w.table⟩)
    (fun i j t _ made x held => made x ((dropSlot_keptOrFreed who i j t).before held)) (List.finRange 32)
    (withdrawing_prepared agree table)
  refine ⟨w, fun i x held own => ?_⟩
  rcases dropped i (List.mem_finRange i) x held own with answered | active
  · exact .inl answered
  · exact (w.suppressed i x held own active).imp_right fun suppressed => ⟨active, suppressed⟩

/-! ### The locks (R40 step 5, R79) -/

/-- What is left of an abandoned initiator in a port's queue is a posted write. -/
theorem Settled.queued {x : Slot} (settled : Settled who t) (agree : Agree .nothing t) (table : SlotTableOk t)
    (mem : i ∈ (row t.ports p).queue) (held : row t.slots i = some x) (own : who.has x.initiator = true) :
    ∃ w d, x.work = .port w ∧ w.kind = .write d := by
  obtain ⟨-, -, -, written⟩ := table
  obtain ⟨y, w, hy, queued, -⟩ := agree.queue p i mem
  obtain rfl : x = y := Option.some.inj (held.symm.trans hy)
  rcases settled i x held own with answered | ⟨active, -⟩
  · exact written i x held answered
  · rw [queued] at active; cases active

theorem Settled.loses_none (settled : Settled who t) (agree : Agree .nothing t) (table : SlotTableOk t)
    (own : who.has l.owner = true) : (row t.ports p).queue.filter (isUnlockOf t l.owner) = [] := by
  rw [List.filter_eq_nil_iff]
  intro i mem unlock
  obtain ⟨x, w, held, -, work, -⟩ := agree.queue p i mem
  have initiator : x.initiator = l.owner := by
    cases kind : w.kind <;> simp [isUnlockOf, portWorkOf_eq_some held work, kind, slotInitiator_some held] at unlock
    exact unlock
  obtain ⟨w', d, work', kind⟩ := settled.queued agree table mem held (initiator ▸ own)
  obtain rfl : w = w' := by rw [work] at work'; cases work'; rfl
  simp [isUnlockOf, portWorkOf_eq_some held work, kind] at unlock

/-- A slot after the arbiter was occupied before, and is at most ACTIVE now. -/
theorem arbiter_rows {x : Slot} (held : row (arbiter p s).slots j = some x) :
    ∃ y, row s.slots j = some y ∧ (x = y ∨ x = { y with state := .active }) := by
  have issued (i : SlotId) (found : row (issueSlot p i s).slots j = some x) :
      ∃ y, row s.slots j = some y ∧ (x = y ∨ x = { y with state := .active }) := by
    have slots : (issueSlot p i s).slots = s.slots ∨ (issueSlot p i s).slots = (setSlotState i .active s).slots := by
      unfold issueSlot
      split
      · split
        · dsimp only
          split <;> exact .inr (by simp)
        · exact .inl rfl
      · exact .inl rfl
    rcases slots with same | same
    · rw [same] at found; exact ⟨x, found, .inl rfl⟩
    · rw [same] at found
      unfold setSlotState at found
      split at found
      · next y hy =>
        by_cases here : j = i
        · subst here
          simp only [State.setSlot_slots, row_putRow_self, Option.some.injEq] at found
          exact ⟨y, hy, .inr found.symm⟩
        · rw [State.setSlot_slots, row_putRow_ne _ _ _ _ here] at found
          exact ⟨x, found, .inl rfl⟩
      · exact ⟨x, found, .inl rfl⟩
  unfold arbiter at held
  dsimp only at held
  split at held
  · split at held
    · exact ⟨x, by simpa using held, .inl rfl⟩
    · split at held
      · exact issued _ held
      · exact ⟨x, held, .inl rfl⟩
  · exact ⟨x, held, .inl rfl⟩

/-- The lock record that the arbiter leaves at a port without one is that of the LOCK-READ it has issued (R72). -/
theorem arbiter_newLock (unlocked : (row s.ports p).lock = none) (locked : (row (arbiter p s).ports p).lock = some l) :
    ∃ i x w, i ∈ (row s.ports p).queue ∧ row s.slots i = some x ∧ x.work = .port w ∧ w.kind = .lockRead ∧
      l.owner = x.initiator := by
  have issued (i : SlotId) (mem : i ∈ (row s.ports p).queue) (found : (row (issueSlot p i s).ports p).lock = some l) :
      ∃ i x w, i ∈ (row s.ports p).queue ∧ row s.slots i = some x ∧ x.work = .port w ∧ w.kind = .lockRead ∧
        l.owner = x.initiator := by
    unfold issueSlot at found
    split at found
    · next x w held work =>
      split at found
      · have lock : lockAtIssue x.initiator w (row s.ports p) = some l := by
          dsimp only at found
          split at found <;> simpa using found
        have kind : w.kind = .lockRead := by
          cases kind : w.kind <;> simp [lockAtIssue, kind, unlocked] at lock ⊢
        refine ⟨i, x, w, mem, held, portWorkOf_some held work, kind, ?_⟩
        simp only [lockAtIssue, kind, Option.some.injEq] at lock
        rw [← lock]
        rfl
      · rw [unlocked] at found; cases found
    · rw [unlocked] at found; cases found
  unfold arbiter at locked
  dsimp only at locked
  split at locked
  · split at locked
    · simp [grantHold, unlocked] at locked
    · split at locked
      · next i picked => exact issued i (arbiterPick_spec picked).1 locked
      · rw [unlocked] at locked; cases locked
  · rw [unlocked] at locked; cases locked

/-- The lock record of an abandoned initiator is removed, and no queued slot is lost with it. -/
theorem dropOwnedLock_owned (settled : Settled who t) (agree : Agree .nothing t) (table : SlotTableOk t)
    (locked : (row t.ports p).lock = some l) (own : who.has l.owner = true) :
    dropOwnedLock who p t = arbiter p (lowerCount l.entry (unlockedPort t p l)) := by
  have drops : ((row t.ports p).lock.any fun l => who.has l.owner) = true := by simp [locked, own]
  rw [dropOwnedLock, if_pos drops]
  simp only [removeLock, locked, dropLock_eq, settled.loses_none agree table own]
  rfl

theorem dropOwnedLock_foreign (foreign : ∀ l, (row t.ports p).lock = some l → who.has l.owner = false) :
    dropOwnedLock who p t = t := by
  rw [dropOwnedLock, if_neg]
  cases locked : (row t.ports p).lock with
  | none => simp
  | some l => simp [foreign l locked]

/-- The port whose lock record an abandoned initiator owned. -/
theorem owned_or_foreign (who : InitiatorSet) (t : State) (p : PortId) :
    (∃ l, (row t.ports p).lock = some l ∧ who.has l.owner = true) ∨
      ∀ l, (row t.ports p).lock = some l → who.has l.owner = false := by
  cases locked : (row t.ports p).lock with
  | none => exact .inr (by simp)
  | some l =>
    cases own : who.has l.owner with
    | true => exact .inl ⟨l, rfl, own⟩
    | false => exact .inr fun k same => by rw [← Option.some.inj same, own]

theorem unlockedPort_lowered_settled (settled : Settled who t) (p : PortId) (l : LockRecord) (e : EntryId) :
    Settled who (lowerCount e (unlockedPort t p l)) :=
  fun i x held => settled i x ((lowerCount_keptOrFreed e i (unlockedPort t p l)).before held)

theorem dropOwnedLock_port_ne {r : PortId} (ne : p ≠ r) (w : Withdrawing s who tag t) (settled : Settled who t) :
    row (dropOwnedLock who r t).ports p = row t.ports p := by
  rcases owned_or_foreign who t r with ⟨l, locked, own⟩ | foreign
  · rw [dropOwnedLock_owned settled w.agree w.table locked own, arbiter_port_ne ne]
    simp [unlockedPort, row_putRow_ne _ _ _ _ ne]
  · rw [dropOwnedLock_foreign foreign]

/-- One port's part in the removal of the locks. -/
theorem Withdrawing.dropOwnedLock (w : Withdrawing s who tag t) (settled : Settled who t) (p : PortId) :
    (Withdrawing s who tag (dropOwnedLock who p t) ∧ Settled who (dropOwnedLock who p t)) ∧
      ∀ l, (row (dropOwnedLock who p t).ports p).lock = some l → who.has l.owner = false := by
  rcases owned_or_foreign who t p with ⟨l, locked, own⟩ | foreign
  · obtain ⟨agree, table⟩ := Agree.kept (fun q => dropOwnedLock_keeps q who p) w.agree w.table
    have run := dropOwnedLock_owned settled w.agree w.table locked own
    have settled' := unlockedPort_lowered_settled settled p l l.entry
    have lessens : Lessens .nothing t (lowerCount l.entry (unlockedPort t p l)) :=
      (unlockedPort_lessens .nothing p l t).trans
        (lowerCount_lessens ((unlockedPort_lessens .nothing p l t).agree w.agree) l.entry)
    have occupied {i : SlotId} {x : Slot} (held : row (lowerCount l.entry (unlockedPort t p l)).slots i = some x) :
        row t.slots i = some x := (lowerCount_keptOrFreed l.entry i (unlockedPort t p l)).before held
    have unlocked : (row (lowerCount l.entry (unlockedPort t p l)).ports p).lock = none := by simp [unlockedPort]
    refine ⟨⟨⟨agree, table, fun k h => ?_, fun i x held own active => ?_, fun k h => ?_⟩, fun i x held own => ?_⟩, fun k found => ?_⟩
    · rw [run]
      have lowered : Winding s tag k (lowerCount l.entry (unlockedPort t p l)) :=
        ((w.winding k h).step (u := unlockedPort t p l) rfl List.prefix_rfl (.inl rfl)).lowerCount l.entry
      exact lowered.step (by simp) (by simp) (.inl (by simp))
    · rw [run] at held
      obtain ⟨y, before, rfl | rfl⟩ := arbiter_rows held
      · exact w.suppressed i x (occupied before) own active
      · rcases settled i y (occupied before) own with answered | ⟨-, suppressed⟩
        · exact .inl answered
        · exact .inr suppressed
    · rw [run, ← w.closed k h]
      simp [unlockedPort]
    · rw [run] at held
      obtain ⟨y, before, rfl | rfl⟩ := arbiter_rows held
      · exact settled i x (occupied before) own
      · exact (settled i y (occupied before) own).imp_right fun both => ⟨rfl, both.2⟩
    · rw [run] at found
      obtain ⟨i, x, pw, mem, held, work, kind, owner⟩ := arbiter_newLock unlocked found
      cases foreign : who.has k.owner with
      | false => rfl
      | true =>
        obtain ⟨w', d, work', kind'⟩ := settled'.queued (lessens.agree w.agree)
          ((lowerCount_sound l.entry (unlockedPort t p l)).table (.congr rfl (fun _ => rfl) w.table)) mem held (owner ▸ foreign)
        rw [work] at work'
        cases work'
        rw [kind] at kind'
        cases kind'
  · rw [dropOwnedLock_foreign foreign]
    exact ⟨⟨w, settled⟩, foreign⟩

/-- The work that an abandonment withdraws is withdrawn: what is left of the initiators is settled, and no lock record is theirs. -/
theorem abandonWork_withdraws (agree : Agree .nothing s) (table : SlotTableOk s) (who : InitiatorSet) (tag : Option Tag) :
    Withdrawing s who tag (abandonWork who tag s) ∧ Settled who (abandonWork who tag s) ∧
      ∀ p l, (row (abandonWork who tag s).ports p).lock = some l → who.has l.owner = false := by
  obtain ⟨withdrawn, unlocked⟩ := forEach_establishes (f := Machine.dropOwnedLock who)
    (Inv := fun t => Withdrawing s who tag t ∧ Settled who t)
    (Q := fun p t => ∀ l, (row t.ports p).lock = some l → who.has l.owner = false)
    (fun p t ok => ok.1.dropOwnedLock ok.2 p)
    (fun p r t ok foreign l locked => by
      by_cases here : r = p
      · subst here
        exact (ok.1.dropOwnedLock ok.2 r).2 l locked
      · rw [dropOwnedLock_port_ne here ok.1 ok.2] at locked
        exact foreign l locked)
    (List.finRange 4) (withdrawing_dropped (tag := tag) (who := who) agree table)
  exact ⟨withdrawn.1, withdrawn.2, fun p l locked => unlocked p (List.mem_finRange p) l locked⟩

theorem abandonWork_events (who : InitiatorSet) (tag : Option Tag) (s : State) : (abandonWork who tag s).events = s.events := by
  unfold abandonWork
  dsimp only
  rw [forEach_keeps State.events _ (fun p s => ?_), forEach_keeps State.events _ (fun p s => by simp),
    forEach_keeps State.events _ (fun p s => by simp), forEach_keeps State.events _ (fun p s => by simp),
    forEach_keeps State.events _ (fun p s => by simp)]
  unfold dropOwnedLock
  split
  · exact removeLock_events p s
  · rfl

/-! ### ABANDON (R39 to R42) -/

/-- The state in which an ABANDON may end at once. -/
def withdrawnFor (k : Initiator) (tag : Tag) (s : State) : State :=
  if (abandonWork (InitiatorSet.single k) (some tag) s).events.target = k then
    withdrawMessage (abandonWork (InitiatorSet.single k) (some tag) s)
  else abandonWork (InitiatorSet.single k) (some tag) s

theorem abandonInitiator_eq (k : Initiator) (g : Tag) (s : State) :
    abandonInitiator k g s = endAbandonment k (withdrawnFor k g s) := rfl

/-- What an ABANDON leaves is what its work leaves, but for the event unit and the record of its initiator. -/
theorem withdrawnFor_same (k : Initiator) (g : Tag) (s : State) :
    (withdrawnFor k g s).link = (abandonWork (InitiatorSet.single k) (some g) s).link ∧
      (withdrawnFor k g s).initiators = (abandonWork (InitiatorSet.single k) (some g) s).initiators ∧
      (withdrawnFor k g s).slots = (abandonWork (InitiatorSet.single k) (some g) s).slots ∧
      (withdrawnFor k g s).chains = (abandonWork (InitiatorSet.single k) (some g) s).chains ∧
      (withdrawnFor k g s).ports = (abandonWork (InitiatorSet.single k) (some g) s).ports ∧
      (withdrawnFor k g s).acceptCounter = s.acceptCounter := by
  unfold withdrawnFor
  split <;> simp

theorem withdrawnFor_idle (target : s.events.target = k) (g : Tag) :
    (withdrawnFor k g s).events.delivery = .idle ∧ (withdrawnFor k g s).events.target = k := by
  have events := abandonWork_events (InitiatorSet.single k) (some g) s
  rw [withdrawnFor, if_pos (by rw [events, target])]
  obtain ⟨delivery, -, -, same, -⟩ := withdrawMessage_effects (abandonWork (InitiatorSet.single k) (some g) s)
  exact ⟨delivery, by rw [same, events, target]⟩

theorem withdrawnFor_winding (agree : Agree .nothing s) (table : SlotTableOk s) (k : Initiator) (g : Tag) :
    Winding s (some g) k (withdrawnFor k g s) := by
  obtain ⟨link, initiators, -⟩ := withdrawnFor_same k g s
  exact ((abandonWork_withdraws agree table _ _).1.winding k (single_has k)).step (by rw [link]) (by rw [link]) (.inl (by rw [initiators]))

/-- How an ABANDON ends: at once, answered, or later, with the initiator ABANDONING. -/
theorem abandonInitiator_ends (agree : Agree .nothing s) (table : SlotTableOk s) (up : s.link.state = .up) (k : Initiator) (g : Tag) :
    (slotsOf (abandonInitiator k g s) k = 0 ∧
        row (abandonInitiator k g s).initiators k = { occupancy := 0, mode := .normal, abandonTag := none } ∧
        Hands s (abandonInitiator k g s) (plainResponse k g .done)) ∨
      (0 < slotsOf (abandonInitiator k g s) k ∧
        row (abandonInitiator k g s).initiators k =
          { occupancy := slotsOf (abandonInitiator k g s) k, mode := .abandoning, abandonTag := some g } ∧
        abandonInitiator k g s = withdrawnFor k g s) := by
  have winding := (withdrawnFor_winding agree table k g).endAbandonment k
  obtain ⟨-, counts, -⟩ : SlotTableOk (abandonInitiator k g s) :=
    (abandonInitiator_keeps (A := True) (B := True) (fun _ => agree) k g).table table
  have counted := counts k
  rcases winding.record with ⟨mode, given⟩ | ⟨ended, answered⟩
  · rw [← abandonInitiator_eq] at mode given
    have still : abandonInitiator k g s = withdrawnFor k g s := by
      by_cases ends : (row (withdrawnFor k g s).initiators k).mode = .abandoning ∧ (row (withdrawnFor k g s).initiators k).occupancy = 0
      · rw [abandonInitiator_eq, (endAbandonment_ends ends.1 ends.2).1] at mode
        cases mode
      · rw [abandonInitiator_eq, endAbandonment, if_neg ends]
    have some_left : 0 < slotsOf (abandonInitiator k g s) k := by
      refine Nat.pos_of_ne_zero fun zero => ?_
      rw [zero] at counted
      have before := mode
      rw [still] at before counted
      rw [abandonInitiator_eq, (endAbandonment_ends before counted).1] at mode
      cases mode
    exact .inr ⟨some_left, by rw [← counted, ← given, ← mode], still⟩
  · rw [← abandonInitiator_eq] at ended
    exact .inl ⟨by rw [← counted, ended], ended, answered g rfl up⟩

theorem abandonInitiator_withdraws (agree : Agree .nothing s) (table : SlotTableOk s) (k : Initiator) (g : Tag) :
    row (abandonInitiator k g s).chains k = Chain.closed ∧
      (∀ p l, (row (abandonInitiator k g s).ports p).lock = some l → l.owner ≠ k) ∧
      ∀ i x, row (abandonInitiator k g s).slots i = some x → x.initiator = k → x.answered = true ∨ x.suppressed = true := by
  obtain ⟨withdrawn, settled, foreign⟩ := abandonWork_withdraws agree table (InitiatorSet.single k) (some g)
  obtain ⟨-, -, slots, chains, ports, -⟩ := withdrawnFor_same k g s
  rw [abandonInitiator_eq]
  simp only [endAbandonment_frame, slots, chains, ports]
  refine ⟨withdrawn.closed k (single_has k), fun p l locked same => ?_, fun i x held own => ?_⟩
  · have unowned := foreign p l locked
    rw [same, single_has] at unowned
    cases unowned
  · exact (settled i x held (own ▸ single_has k)).imp_right And.right

theorem judge_abandon {h : ReqHeader} (normal : (row s.initiators h.initiator).mode = .normal) (mark : h.mark = .none) :
    judge s h (parsedOf (.abandon h [])) = .abandon := by
  simp [judge, normal, mark, parsedOf, parseAbandon, badMark, isMemberMark]

/-- Settles O20: the work is withdrawn step by step, over the slots and then over the ports, and the abandonment ends at once unless
a slot is left. -/
theorem abandonWithdrawsTheInitiatorsWork : Obligations.AbandonWithdrawsTheInitiatorsWork := by
  unfold Obligations.AbandonWithdrawsTheInitiatorsWork
  intro h body s u named arrival up normal mark table queues
  have run := exec_arrives (c := .abandon h []) rfl named arrival up
  rw [judge_abandon (by rw [arrival.same]; exact normal) mark] at run
  obtain ⟨rx, rfl⟩ := arrival.exists_rx
  have agree : Agree .nothing (s.setLink { s.link with rx := rx }) := (agree_nothing_iff _).mpr queues
  have table' : SlotTableOk (s.setLink { s.link with rx := rx }) := table
  obtain ⟨closed, foreign, settled⟩ := abandonInitiator_withdraws agree table' h.initiator h.tag
  have slotsSame (t : State) (k : Initiator) : slotsOf (selectEvent t) k = slotsOf t k := by simp [slotsOf]
  refine ⟨_, run, ?_, ?_, ?_, by simp [carryVerdict], ?_⟩
  all_goals simp only [slotsSame, selectEvent_frame, carryVerdict]
  · exact closed
  · exact foreign
  · exact settled
  · rcases abandonInitiator_ends agree table' up h.initiator h.tag with ⟨none_left, record, hands⟩ | ⟨left, record, still⟩
    · obtain ⟨joined, outbound, mem⟩ := hands.until (selectEvent_grows _ List.prefix_rfl)
      refine .inl ⟨none_left, record, joined, ?_, mem⟩
      simpa using outbound
    · refine .inr ⟨left, record, fun target => ?_⟩
      obtain ⟨idle, same⟩ := withdrawnFor_idle (s := s.setLink { s.link with rx := rx }) target h.tag
      have closed : (row (abandonInitiator h.initiator h.tag (s.setLink { s.link with rx := rx })).initiators
          (abandonInitiator h.initiator h.tag (s.setLink { s.link with rx := rx })).events.target).mode = .abandoning := by
        rw [still, same, ← still, record]
      rw [selectEvent_closed closed, still]
      exact idle

end

end Sys2Proof.Machine
end

section
/-! PROOFS. The link reset (R43, R157, R161). -/

namespace Sys2Proof.Machine

-- one proof at a time: the text is compiled whole, in one process whose threads share its memory limit
set_option Elab.async false

section
variable {s t u : State} {tag : Option Tag} {k : Initiator} {i : SlotId} {p : PortId} {l : LockRecord}

/-! ### What hands nothing over (R19, R42) -/

/-- A drain that ends now is answered by nobody: no ABANDON tag is present, and the slots of the pending retires are answered or
suppressed. -/
structure Hushed (s : State) : Prop where
  tags : ∀ k, (row s.initiators k).abandonTag = none
  retires : ∀ r, r ∈ s.management.retires → ∀ j y, row s.slots j = some y → y.initiator = r.initiator → y.tag = r.tag →
    y.answered = true ∨ y.suppressed = true

theorem Hushed.of_same (hushed : Hushed s) (tags : ∀ k, (row t.initiators k).abandonTag = (row s.initiators k).abandonTag)
    (retires : t.management.retires = s.management.retires) (slots : ∀ i, KeptOrFreed i s t) : Hushed t where
  tags k := (tags k).trans (hushed.tags k)
  retires r mem j _ held := hushed.retires r (retires ▸ mem) j _ ((slots j).before held)

theorem endAbandonment_silent (untagged : (row s.initiators k).abandonTag = none) : (endAbandonment k s).link = s.link := by
  unfold endAbandonment
  split
  · simp [untagged]
  · rfl

theorem answerSlot_silent {x : Slot} (silent : x.answered = true ∨ x.suppressed = true) (i : SlotId) (a : Answer) (s : State) :
    (answerSlot i x a s).link = s.link := by
  have quiet : (x.answered || x.suppressed) = true := by simpa using silent
  simp [answerSlot, quiet]

theorem lowered_tag (k j : Initiator) (s : State) :
    (row (lowerOccupancy j s).initiators k).abandonTag = (row s.initiators k).abandonTag := by
  rcases lowered_occupancy k j s with same | lowered
  · rw [same]
  · rw [lowered]

theorem freeSlotOf_tag (i : SlotId) (k j : Initiator) (s : State) :
    (row (freeSlotOf i j s).initiators k).abandonTag = (row s.initiators k).abandonTag := lowered_tag k j (s.setSlot i none)

theorem answerRetire_silent (hushed : Hushed s) (e : EntryId) : (answerRetire e s).link = s.link := by
  rcases answerRetire_cases e s with ⟨-, run⟩ | ⟨r, mem, -, ⟨-, run⟩ | ⟨j, y, held, initiator, same, run⟩⟩
  · rw [run]
  · rw [run]; rfl
  · rw [run, endAbandonment_silent]
    · simp only [freeSlotOf_link]
      rw [answerSlot_silent (hushed.retires r mem j y held initiator same)]
      rfl
    · rw [freeSlotOf_tag]
      simpa [retireListed] using hushed.tags y.initiator

theorem lowerCount_silent (hushed : Hushed s) (e : EntryId) : (lowerCount e s).link = s.link := by
  unfold lowerCount
  split
  · rfl
  · split
    · exact answerRetire_silent (s := s.setRegion e none) ⟨hushed.tags, hushed.retires⟩ e
    · rfl

theorem lowerWorkCount_silent (hushed : Hushed s) (w : Work) : (lowerWorkCount w s).link = s.link := by
  unfold lowerWorkCount
  split
  · exact lowerCount_silent hushed _
  · rfl

theorem leaveQueues_retires (i : SlotId) (w : Work) (s : State) :
    (leaveQueues i w s).management.retires = s.management.retires := by cases w <;> rfl

theorem dropSlot_silent (hushed : Hushed s) (who : InitiatorSet) (i : SlotId) : (dropSlot who i s).link = s.link := by
  unfold dropSlot
  split
  · next x _ =>
    split
    · rw [lowerWorkCount_silent (hushed.of_same (fun k => by rw [freeSlotOf_tag]; simp)
        (by simp only [freeSlotOf_frame, leaveQueues_retires]) fun j => ?_)]
      · simp
      · by_cases here : j = i
        · exact .inr (by rw [freeSlotOf_slots, here, row_putRow_self])
        · exact .inl (by rw [freeSlotOf_slots, row_putRow_ne _ _ _ _ here]; simp)
    · rfl
  · rfl

/-! ### The abandonment of all eight (R43, R161) -/

theorem everyInitiator_has (k : Initiator) : everyInitiator.has k = true := by revert k; decide

theorem Winding.untagged (w : Winding s none k t) : (row t.initiators k).abandonTag = none := by
  rcases w.record with ⟨-, given⟩ | ⟨ended, -⟩
  · exact given
  · rw [ended]

theorem Withdrawing.hushed (w : Withdrawing s everyInitiator none t) : Hushed t where
  tags k := (w.winding k (everyInitiator_has k)).untagged
  retires r mem j y held initiator same := by
    obtain ⟨i, x, op, hx, initiator', same', active, -⟩ := w.agree.retires r mem
    obtain rfl := w.agree.keys i j x y hx held (initiator'.trans initiator.symm) (same'.trans same.symm)
    obtain rfl : x = y := Option.some.inj (hx.symm.trans held)
    exact w.suppressed i x held (everyInitiator_has _) active

theorem Withdrawing.dropOwnedLock_silent (w : Withdrawing s everyInitiator none t) (settled : Settled everyInitiator t) (p : PortId) :
    (Machine.dropOwnedLock everyInitiator p t).link = t.link := by
  rcases owned_or_foreign everyInitiator t p with ⟨l, locked, own⟩ | foreign
  · have hushed : Hushed (unlockedPort t p l) := w.hushed.of_same (fun _ => rfl) rfl fun _ => .inl rfl
    rw [dropOwnedLock_owned settled w.agree w.table locked own]
    simp only [arbiter_frame]
    rw [lowerCount_silent hushed]
    rfl
  · rw [dropOwnedLock_foreign foreign]

/-- The work of all initiators is withdrawn without a word. -/
theorem abandonWork_silent (agree : Agree .nothing s) (table : SlotTableOk s) : (abandonWork everyInitiator none s).link = s.link := by
  have prepared : (preparedFor everyInitiator none s).link = s.link := by
    rw [preparedFor, forEach_keeps State.link _ (fun k s => by simp), forEach_keeps State.link _ (fun k s => by simp),
      forEach_keeps State.link _ (fun k s => by simp)]
  obtain ⟨-, dropped⟩ := forEach_invariant (f := dropSlot everyInitiator)
    (Inv := fun t => Withdrawing s everyInitiator none t ∧ t.link = s.link)
    (fun i t ok => ⟨ok.1.dropSlot i, (dropSlot_silent ok.1.hushed everyInitiator i).trans ok.2⟩) (List.finRange 32)
    ⟨withdrawing_prepared agree table, prepared⟩
  exact (forEach_invariant (f := Machine.dropOwnedLock everyInitiator)
    (Inv := fun t => (Withdrawing s everyInitiator none t ∧ Settled everyInitiator t) ∧ t.link = s.link)
    (fun p t ok => ⟨(ok.1.1.dropOwnedLock ok.1.2 p).1, (ok.1.1.dropOwnedLock_silent ok.1.2 p).trans ok.2⟩) (List.finRange 4)
    ⟨withdrawing_dropped agree table, dropped⟩).2

/-- What the link reset leaves of the requests. -/
structure AllAbandoned (t : State) : Prop where
  chains : ∀ k, row t.chains k = Chain.closed
  locks : ∀ p, (row t.ports p).lock = none
  slots : ∀ i x, row t.slots i = some x → x.answered = true ∨ x.suppressed = true
  initiators : ∀ k, (row t.initiators k).abandonTag = none ∧
    ((row t.initiators k).mode = .abandoning ↔ 0 < (row t.initiators k).occupancy)

theorem Winding.modes (w : Winding s none k t)
    (goesOn : ¬((row t.initiators k).mode = .abandoning ∧ (row t.initiators k).occupancy = 0)) :
    (row t.initiators k).mode = .abandoning ↔ 0 < (row t.initiators k).occupancy := by
  rcases w.record with ⟨mode, -⟩ | ⟨ended, -⟩
  · exact ⟨fun _ => Nat.pos_of_ne_zero fun empty => goesOn ⟨mode, empty⟩, fun _ => mode⟩
  · simp [ended]

/-- Settled abandonments end: each initiator keeps its tag absent, and is ABANDONING only while it holds slots. -/
theorem endAbandonments (winding : ∀ k, Winding s none k t) :
    (∀ k, Winding s none k (forEach endAbandonment (List.finRange 8) t)) ∧
      ∀ k, (row (forEach endAbandonment (List.finRange 8) t).initiators k).mode = .abandoning ↔
        0 < (row (forEach endAbandonment (List.finRange 8) t).initiators k).occupancy := by
  have ends (j : Initiator) (v : State) : ¬((row (endAbandonment j v).initiators j).mode = .abandoning ∧
      (row (endAbandonment j v).initiators j).occupancy = 0) := by
    by_cases finished : (row v.initiators j).mode = .abandoning ∧ (row v.initiators j).occupancy = 0
    · rw [(endAbandonment_ends finished.1 finished.2).1]; simp
    · rwa [endAbandonment, if_neg finished]
  obtain ⟨winding', goOn⟩ := forEach_establishes (f := endAbandonment) (Inv := fun v => ∀ k, Winding s none k v)
    (Q := fun k v => ¬((row v.initiators k).mode = .abandoning ∧ (row v.initiators k).occupancy = 0))
    (fun j v inv => ⟨fun k => (inv k).endAbandonment j, ends j v⟩)
    (fun j k v _ goesOn => by
      by_cases here : k = j
      · subst here; exact ends k v
      · rwa [endAbandonment_other here])
    (List.finRange 8) winding
  exact ⟨winding', fun k => (winding' k).modes (goOn k (List.mem_finRange k))⟩

theorem abandonAll_abandons (agree : Agree .nothing s) (table : SlotTableOk s) :
    AllAbandoned (abandonAll s) ∧ (abandonAll s).link = s.link ∧ (abandonAll s).events.delivery = .idle := by
  obtain ⟨withdrawn, settled, foreign⟩ := abandonWork_withdraws agree table everyInitiator none
  have winding (k : Initiator) : Winding s none k (withdrawMessage (abandonWork everyInitiator none s)) :=
    (withdrawn.winding k (everyInitiator_has k)).step (by simp) (by simp) (.inl (by simp))
  obtain ⟨ended, modes⟩ := endAbandonments winding
  have silent : (abandonAll s).link = (withdrawMessage (abandonWork everyInitiator none s)).link :=
    (forEach_invariant (f := endAbandonment)
      (Inv := fun v => (∀ k, Winding s none k v) ∧ v.link = (withdrawMessage (abandonWork everyInitiator none s)).link)
      (fun j v ok => ⟨fun k => (ok.1 k).endAbandonment j, (endAbandonment_silent (ok.1 j).untagged).trans ok.2⟩) (List.finRange 8)
      ⟨winding, rfl⟩).2
  have chains : (abandonAll s).chains = (abandonWork everyInitiator none s).chains := by
    rw [abandonAll, forEach_keeps State.chains _ (fun k s => by simp)]; simp
  have ports : (abandonAll s).ports = (abandonWork everyInitiator none s).ports := by
    rw [abandonAll, forEach_keeps State.ports _ (fun k s => by simp)]; simp
  have slots : (abandonAll s).slots = (abandonWork everyInitiator none s).slots := by
    rw [abandonAll, forEach_keeps State.slots _ (fun k s => by simp)]; simp
  have events : (abandonAll s).events = (withdrawMessage (abandonWork everyInitiator none s)).events := by
    rw [abandonAll, forEach_keeps State.events _ (fun k s => by simp)]
  refine ⟨⟨fun k => ?_, fun p => ?_, fun i x held => ?_, fun k => ⟨(ended k).untagged, modes k⟩⟩, ?_, ?_⟩
  · rw [chains]; exact withdrawn.closed k (everyInitiator_has k)
  · rw [ports]
    exact Option.eq_none_iff_forall_ne_some.mpr fun l locked => by
      have owned := foreign p l locked
      rw [everyInitiator_has] at owned
      cases owned
  · rw [slots] at held
    exact (settled i x held (everyInitiator_has _)).imp_right And.right
  · rw [silent]
    simpa using abandonWork_silent agree table
  · rw [events]
    exact (withdrawMessage_effects _).1

/-! ### The link reset (R156, R157, R161) -/

theorem AllAbandoned.of_same (done : AllAbandoned t) (chains : u.chains = t.chains) (ports : u.ports = t.ports)
    (slots : u.slots = t.slots) (initiators : u.initiators = t.initiators) : AllAbandoned u where
  chains := chains ▸ done.chains
  locks := ports ▸ done.locks
  slots := slots ▸ done.slots
  initiators := initiators ▸ done.initiators

/-- A LINK-RESET taken while UP: all is abandoned, and the LINK-NOTICE is the first message handed over. -/
theorem linkResetByMessage_resets (agree : Agree .nothing s) (table : SlotTableOk s) (up : s.link.state = .up) :
    AllAbandoned (selectEvent (linkResetByMessage s)) ∧ (selectEvent (linkResetByMessage s)).link.state = .up ∧
      (selectEvent (linkResetByMessage s)).link.resetCount = s.link.resetCount + 1 ∧
      (selectEvent (linkResetByMessage s)).acceptCounter = s.acceptCounter ∧
      HandsFirst s (selectEvent (linkResetByMessage s)) (.linkNotice s.link.strap (s.link.resetCount + 1)) := by
  have agree' : Agree .nothing (raiseResetCount s) := (agree_nothing_iff _).mpr ((agree_nothing_iff s).mp agree)
  obtain ⟨abandoned, link, -⟩ := abandonAll_abandons (s := raiseResetCount s) agree' table
  refine ⟨abandoned.of_same (by simp [linkResetByMessage]) (by simp [linkResetByMessage]) (by simp [linkResetByMessage])
    (by simp [linkResetByMessage]), ?_, ?_, ?_, ?_⟩
  · simp [linkResetByMessage, raiseResetCount, up]
  · simp [linkResetByMessage, raiseResetCount]
  · simp [linkResetByMessage, raiseResetCount]
  · refine selectEvent_grows _ ?_
    rw [linkResetByMessage, handNotice, handOver_outbound_up _ _ (by rw [link]; exact up), link]
    exact List.prefix_rfl

/-- The loss of signal while UP: all is abandoned, and the link is DOWN with nothing received or to send. -/
theorem loseSignal_resets (agree : Agree .nothing s) (table : SlotTableOk s) (up : s.link.state = .up) :
    AllAbandoned (selectEvent (loseSignal s)) ∧
      (selectEvent (loseSignal s)).link = signalGone (raiseResetCount s).link ∧
      (selectEvent (loseSignal s)).events.delivery = .idle ∧
      (selectEvent (loseSignal s)).acceptCounter = s.acceptCounter := by
  have run : loseSignal s = abandonAll ((raiseResetCount s).setLink (signalGone (raiseResetCount s).link)) := by
    simp only [loseSignal, up]
  have agree' : Agree .nothing ((raiseResetCount s).setLink (signalGone (raiseResetCount s).link)) :=
    (agree_nothing_iff _).mpr ((agree_nothing_iff s).mp agree)
  obtain ⟨abandoned, link, idle⟩ := abandonAll_abandons agree' table
  rw [run, selectEvent_of_down (by rw [link]; rfl)]
  exact ⟨abandoned, link, idle, by simp [raiseResetCount]⟩

/-- Settles O7: while UP both resets abandon all eight initiators, which hands nothing over; while DOWN neither does anything to
them. -/
theorem linkResetAbandonsEveryInitiator : Obligations.LinkResetAbandonsEveryInitiator := by
  unfold Obligations.LinkResetAbandonsEveryInitiator
  refine ⟨fun rest s u arrival down => ?_, fun s ok down => ?_, fun c s u up table queues raised => ?_⟩
  · have down' : u.link.state = .down := by rw [arrival.same]; exact down
    have run : exec (.linkReset rest) s = endEvent (takeMessage (0x71 :: rest) takeLinkReset s) := rfl
    have discarded : takeLinkReset u = u := by simp only [takeLinkReset, down']
    rw [run, takeMessage_arrives arrival, discarded, endEvent, selectEvent_of_down down']
  · obtain ⟨silent, -⟩ := ok
    obtain ⟨outbound, sending⟩ := silent down
    have gone : loseSignal s = s.setLink (signalGone s.link) := by simp only [loseSignal, down]
    have run : exec .signalLost s = endEvent (loseSignal s) := rfl
    rw [run, gone, endEvent, selectEvent_of_down rfl, State.setLink, signalGone, ← outbound, ← sending, ← down]
  · have agree : Agree .nothing s := (agree_nothing_iff s).mpr queues
    rcases raised with ⟨rest, rfl, arrival⟩ | rfl
    · have run : exec (.linkReset rest) s = endEvent (takeMessage (0x71 :: rest) takeLinkReset s) := rfl
      rw [run, takeMessage_arrives arrival]
      obtain ⟨rx, rfl⟩ := arrival.exists_rx
      obtain ⟨abandoned, state, count, counter, notice⟩ := linkResetByMessage_resets
        (s := s.setLink { s.link with rx := rx }) ((agree_nothing_iff _).mpr queues) table up
      have taken : takeLinkReset (s.setLink { s.link with rx := rx }) = linkResetByMessage (s.setLink { s.link with rx := rx }) := by
        simp [takeLinkReset, up]
      rw [taken]
      refine ⟨_, rfl, count, fun k => ?_, abandoned.locks, abandoned.slots, abandoned.initiators, counter, fun _ => ⟨state, notice⟩,
        fun other => by cases other⟩
      rw [abandoned.chains k]
      exact ⟨rfl, rfl, rfl⟩
    · obtain ⟨abandoned, link, idle, counter⟩ := loseSignal_resets agree table up
      have run : exec .signalLost s = endEvent (loseSignal s) := rfl
      refine ⟨_, run, by rw [link]; rfl, fun k => ?_, abandoned.locks, abandoned.slots, abandoned.initiators, counter, fun other => ?_,
        fun _ => ?_⟩
      · rw [abandoned.chains k]
        exact ⟨rfl, rfl, rfl⟩
      · obtain ⟨rest, other⟩ := other
        cases other
      · rw [link]
        exact ⟨rfl, rfl, rfl, rfl, rfl, rfl, idle⟩

end

end Sys2Proof.Machine
end

section
/-! PROOFS. The release of a chain's member (R35 to R38, R93, R98 to R102), and what it does to the chain. -/

namespace Sys2Proof.Machine

-- one proof at a time: the text is compiled whole, in one process whose threads share its memory limit
set_option Elab.async false

section
variable {s t u v : State} {p : PortId} {cur : Issued} {x y : Slot} {w z : PortWork} {r q : RegionRecord} {i j : SlotId} {a : Answer}
  {k : Initiator} {failed : Bool} {low : Byte} {bytes : SegmentBytes} {before after : List SlotId} {c d : Chain} {m : Message} {n : Nat} {code : FaultCode}

/-! ### The outcome that a chain is told (R35, R100) -/

theorem inChain_iff : inChain s i x = true ↔ x.role ≠ .none ∧ i ∈ (row s.chains x.initiator).members := by
  simp [inChain]

theorem reportToChain_success (success : ∀ code, a ≠ .fault code) : reportToChain i x a s = s := by
  unfold reportToChain
  split
  · exact absurd rfl (success _)
  · rfl

theorem reportToChain_fault (ordinal : roleOrdinal x.role = some n) (unsuppressed : x.suppressed = false)
    (member : inChain s i x = true) (code : FaultCode) :
    reportToChain i x (.fault code) s = s.setChain x.initiator (recordFailure (row s.chains x.initiator) n code) := by
  simp [reportToChain, ordinal, unsuppressed, member]

/-- A context that has been told of the outcome of one of its members. -/
theorem reportToChain_members (i : SlotId) (x : Slot) (a : Answer) (s : State) (k : Initiator) :
    (row (reportToChain i x a s).chains k).members = (row s.chains k).members := by
  unfold reportToChain
  split
  · split
    · rw [State.setChain_chains, row_putRow]
      split
      · next same => rw [same, recordFailure_eq]
      · rfl
    · rfl
  · rfl

theorem inChain_reported (member : inChain s i x = true) (a : Answer) : inChain (reportToChain i x a s) i x = true := by
  rw [inChain_iff, reportToChain_members]
  exact inChain_iff.mp member

/-! ### The response of a chain's member (R36, R102) -/

/-- The RESPONSE of a slot, with the summary of its chain where it is the chain's LAST. -/
def chainResponse (s : State) (i : SlotId) (x : Slot) (a : Answer) : Message :=
  .response { initiator := x.initiator, tag := x.tag, answer := a, partialMarker := partialMarkerOf x a,
              summary := if isLastRole x.role && inChain s i x then some (chainSummary s x.initiator) else none }

theorem answerSlot_due_outbound (unanswered : x.answered = false) (unsuppressed : x.suppressed = false) (up : s.link.state = .up)
    (i : SlotId) (a : Answer) : (answerSlot i x a s).link.outbound = s.link.outbound ++ [chainResponse s i x a] := by
  simp only [answerSlot, unanswered, unsuppressed, Bool.or_self, Bool.false_eq_true, if_false]
  rw [respond, handOver_outbound_up _ _ (by simpa using up)]
  rfl

theorem chainResponse_member (role : x.role = .member n) (s : State) (i : SlotId) (a : Answer) :
    chainResponse s i x a = loneResponse x a := by
  simp [chainResponse, loneResponse, role, isLastRole]

theorem chainResponse_last (role : x.role = .last n) (member : inChain s i x = true) (plain : a ≠ .fault .timeout) :
    chainResponse s i x a = .response
      { initiator := x.initiator, tag := x.tag, answer := a, partialMarker := false, summary := some (chainSummary s x.initiator) } := by
  simp [chainResponse, role, isLastRole, member, partialMarkerOf, plain]

/-! ### The release of a chain's member (R37, R93, R102) -/

/-- The context of a chain that one of its members has left. -/
def chainWithout (i : SlotId) (x : Slot) (c : Chain) : Chain :=
  if isLastRole x.role then Chain.closed else { c with members := c.members.erase i }

theorem leaveChain_member (member : inChain s i x = true) :
    leaveChain i x s = s.setChain x.initiator (chainWithout i x (row s.chains x.initiator)) := by
  unfold leaveChain chainWithout
  rw [if_pos member]
  split <;> rfl

theorem lowerWorkCount_chains (w : Work) (s : State) : (lowerWorkCount w s).chains = s.chains := by simp

theorem finishSlot_member (held : row s.slots i = some x) (member : inChain s i x = true) (a : Answer) :
    finishSlot i a s = endAbandonment x.initiator
      ((lowerWorkCount x.work (freedAnswered i x a (reportToChain i x a s))).setChain x.initiator
        (chainWithout i x (row (reportToChain i x a s).chains x.initiator))) := by
  have chains : (lowerWorkCount x.work (freedAnswered i x a (reportToChain i x a s))).chains = (reportToChain i x a s).chains := by
    simp [freedAnswered]
  have member' : inChain (lowerWorkCount x.work (freedAnswered i x a (reportToChain i x a s))) i x = true := by
    have reported := inChain_reported member a
    rw [inChain_iff] at reported ⊢
    rwa [chains]
  rw [finishSlot, held]
  simp only [releaseSlot]
  rw [show freeSlotOf i x.initiator (answerSlot i x a (reportToChain i x a s)) = freedAnswered i x a (reportToChain i x a s) from rfl,
    leaveChain_member member', chains]

/-- What a chain's context becomes when a member of it completes. -/
theorem finishSlot_member_chains (held : row s.slots i = some x) (member : inChain s i x = true) (a : Answer) :
    (finishSlot i a s).chains =
      putRow s.chains x.initiator (chainWithout i x (row (reportToChain i x a s).chains x.initiator)) := by
  have reported : putRow (reportToChain i x a s).chains x.initiator =
      putRow s.chains x.initiator := by
    unfold reportToChain
    split
    · split
      · funext c; simp
      · rfl
    · rfl
  rw [finishSlot_member held member]
  simp [freedAnswered, reported]

/-- A port slot of a chain whose initiator is NORMAL has completed, and no drain has ended with it. -/
structure MemberLeaves (s v : State) (i : SlotId) (x : Slot) (e : EntryId) (r : RegionRecord) (m : Message) (d : Chain) : Prop where
  slots : v.slots = putRow s.slots i none
  outbound : v.link.outbound = s.link.outbound ++ [m]
  linkState : v.link.state = s.link.state
  mode : (row v.initiators x.initiator).mode = .normal
  acceptCounter : v.acceptCounter = s.acceptCounter
  chains : v.chains = putRow s.chains x.initiator d
  regions : v.regions = putRow s.regions e (some { r with inFlight := r.inFlight - 1 })
  ports : v.ports = s.ports
  line : v.line = s.line

theorem finishSlot_leaves (held : row s.slots i = some x) (member : inChain s i x = true) (work : x.work = .port w)
    (present : row s.regions w.entry = some r) (stays : NoDrainEnds r 1) (unanswered : x.answered = false)
    (unsuppressed : x.suppressed = false) (up : s.link.state = .up) (normal : (row s.initiators x.initiator).mode = .normal)
    (a : Answer) :
    MemberLeaves s (finishSlot i a s) i x w.entry r (chainResponse (reportToChain i x a s) i x a)
      (chainWithout i x (row (reportToChain i x a s).chains x.initiator)) := by
  have chains := finishSlot_member_chains held member a
  have initiators : (freedAnswered i x a (reportToChain i x a s)).initiators = putRow s.initiators x.initiator
      { row s.initiators x.initiator with occupancy := (row s.initiators x.initiator).occupancy - 1 } := by
    simpa [freedAnswered] using freeSlotOf_answered_initiators i x a (reportToChain i x a s)
  have lowered : lowerWorkCount x.work (freedAnswered i x a (reportToChain i x a s)) =
      (freedAnswered i x a (reportToChain i x a s)).setRegion w.entry (some { r with inFlight := r.inFlight - 1 }) := by
    simp only [lowerWorkCount, work, workEntry]
    exact lowerCount_counts (by simpa [freedAnswered] using present) stays
  rw [finishSlot_member held member, lowered, endAbandonment_goesOn (.inl (by simp [initiators, normal]))] at chains ⊢
  exact {
    slots := by simpa [freedAnswered] using freeSlotOf_answered_slots i x a (reportToChain i x a s)
    outbound := by
      have handed := answerSlot_due_outbound unanswered unsuppressed (s := reportToChain i x a s) (by simpa using up) i a
      simpa [freedAnswered] using handed
    linkState := by simp [freedAnswered]
    mode := by simp [initiators, normal]
    acceptCounter := by simp [freedAnswered]
    chains := chains
    regions := by simp [freedAnswered]
    ports := by simp [freedAnswered]
    line := by simp [freedAnswered] }

/-! ### The next member joins its destination (R33, R47, R98) -/

/-- A slot accepted between two runs of a queue is placed between them (R47). -/
theorem placeInQueue_between (earlier : ∀ q, q ∈ before → ¬ behind s q < behind s i)
    (later : ∀ q, q ∈ after → behind s q < behind s i) : placeInQueue s i (before ++ after) = before ++ i :: after := by
  induction before with
  | nil =>
    cases after with
    | nil => rfl
    | cons q rest => simp [placeInQueue, later q (by simp)]
  | cons q rest ih =>
    simp only [List.cons_append, placeInQueue, if_neg (earlier q (by simp))]
    rw [ih fun q mem => earlier q (by simp [mem])]

theorem behind_eq (held : row s.slots i = some x) : behind s i = (s.acceptCounter - x.sequence).toNat := by
  simp [behind, held]

/-- The queue of a destination with the slot that becomes QUEUED there. -/
theorem placeInQueue_accepted {state : SlotState} (between : AcceptedBetween s before y after)
    (kept : ∀ q, q ∈ before ++ after → row v.slots q = row s.slots q) (held : row v.slots j = some { y with state := state })
    (counter : v.acceptCounter = s.acceptCounter) : placeInQueue v j (before ++ after) = before ++ j :: after := by
  obtain ⟨earlier, later⟩ := between
  have here : behind v j = (s.acceptCounter - y.sequence).toNat := by rw [behind_eq held, counter]
  refine placeInQueue_between (fun q mem => ?_) fun q mem => ?_
  · obtain ⟨x, hx, less⟩ := earlier q mem
    rw [here, behind_eq ((kept q (by simp [mem])).trans hx), counter]
    exact Nat.lt_asymm less
  · obtain ⟨x, hx, less⟩ := later q mem
    rw [here, behind_eq ((kept q (by simp [mem])).trans hx), counter]
    exact less

theorem advanceChain_opened {later : List SlotId} (opened : (row s.chains k).state = .opened)
    (members : (row s.chains k).members = j :: later) (held : row s.slots j = some y) (waiting : y.state = .waiting) :
    advanceChain k s = joinDestination j y.work s := by
  unfold advanceChain
  rw [opened, members]
  simp only [held, waiting, if_true]

theorem completeSlot_member (held : row s.slots i = some x) (member : inChain s i x = true) (a : Answer) :
    completeSlot i a s = advanceChain x.initiator (finishSlot i a s) := by
  simp [completeSlot, held, member]

/-- The end of a service that leaves the lock record, of a slot that is due its RESPONSE (R58). -/
theorem endService_standing (held : row s.slots i = some x) (work : x.work = .port w) (standing : endsLock w.kind failed = false)
    (due : x.answered = false) (a : Answer) : endService p i a failed s = arbiter p (idlePort p (completeSlot i a s)) := by
  have unraised : postedFailAtEnd p x w failed s = s := by simp [postedFailAtEnd, due]
  simp only [endService, held, portWorkOf_eq_some held work, lockAtEnd_keeps standing, unraised]

/-- At an IDLE port where nothing waits, the arbiter decides nothing. -/
theorem arbiter_idlePort (empty : (row s.ports p).queue = []) (gate : (row s.ports p).gate ≠ .pending) :
    arbiter p (idlePort p s) = idlePort p s := by
  refine arbiter_nothing ?_ ?_
  · rw [idlePort, row_setPort, if_pos rfl]; exact gate
  · rw [idlePort, row_setPort, if_pos rfl]; exact empty

/-- A chain's head has left, and its next member, WAITING, is to join its destination. -/
structure HeadLeft (s v : State) (p : PortId) (i j : SlotId) (y : Slot) (before after : List SlotId) : Prop where
  slots : v.slots = putRow s.slots i none
  ports : v.ports = s.ports
  line : v.line = s.line
  acceptCounter : v.acceptCounter = s.acceptCounter
  apart : j ≠ i
  held : row s.slots j = some y
  waiting : y.state = .waiting
  busy : (row s.ports p).state ≠ .idle
  empty : (row s.ports p).queue = []
  gate : (row s.ports p).gate ≠ .pending
  joins : JoinsBetween s p before y after
  serving : ∃ x, row s.slots i = some x ∧ x.state = .active

/-- The state in which the next member has become QUEUED. -/
theorem HeadLeft.queued (left : HeadLeft s v p i j y before after) :
    (setSlotState j .queued v).slots = putRow (putRow s.slots i none) j (some { y with state := .queued }) := by
  rw [setSlotState_eq (x := y) (by rw [left.slots, row_putRow_ne _ _ _ _ left.apart, left.held]), State.setSlot_slots, left.slots]

/-- It takes its place in a queue of QUEUED slots. -/
theorem HeadLeft.placed (left : HeadLeft s v p i j y before after)
    (queued : ∀ q, q ∈ before ++ after → ∃ x, row s.slots q = some x ∧ x.state = .queued) :
    placeInQueue (setSlotState j .queued v) j (before ++ after) = before ++ j :: after := by
  refine placeInQueue_accepted left.joins.1 (state := .queued) (fun q mem => ?_) ?_ (by simp [left.acceptCounter])
  · obtain ⟨x, hx, state⟩ := queued q mem
    have notNext : q ≠ j := by
      rintro rfl
      rw [Option.some.inj (hx.symm.trans left.held), left.waiting] at state
      cases state
    have notHead : q ≠ i := by
      rintro rfl
      obtain ⟨z, hz, active⟩ := left.serving
      rw [Option.some.inj (hx.symm.trans hz), active] at state
      cases state
    rw [left.queued, row_putRow_ne _ _ _ _ notNext, row_putRow_ne _ _ _ _ notHead]
  · rw [left.queued, row_putRow_self]

/-- The member joins another port, which is busy. -/
theorem HeadLeft.joinsPort (left : HeadLeft s v p i j y before after) (agree : Agree .nothing s) (work : y.work = .port z)
    (other : z.port ≠ p) :
    arbiter p (idlePort p (joinDestination j y.work v)) =
      ((setSlotState j .queued v).setPort z.port { row s.ports z.port with queue := before ++ j :: after }).setPort p
        { row s.ports p with state := .idle } := by
  obtain ⟨-, joins⟩ := left.joins
  simp only [work, other, if_false] at joins
  obtain ⟨up, queue, busy⟩ := joins
  have ports : (setSlotState j .queued v).ports = s.ports := by simp [left.ports]
  have placed := left.placed fun q mem => by
    obtain ⟨x, w, hx, state, -⟩ := agree.queue z.port q (by rw [queue]; exact mem)
    exact ⟨x, hx, state⟩
  have joined : joinDestination j y.work v =
      (setSlotState j .queued v).setPort z.port { row s.ports z.port with queue := before ++ j :: after } := by
    rw [work]
    show joinPort z.port j (setSlotState j .queued v) = _
    rw [joinPort_up (by rw [ports]; exact up), placedAt, ports, queue, placed, arbiter_busy (by simpa using busy)]
  have here : row ((setSlotState j .queued v).setPort z.port { row s.ports z.port with queue := before ++ j :: after }).ports p =
      row s.ports p := by
    rw [row_setPort, if_neg (Ne.symm other), ports]
  rw [joined, arbiter_idlePort (by rw [here]; exact left.empty) (by rw [here]; exact left.gate), idlePort, here]

/-- The member joins the line queue, while the line is busy. -/
theorem HeadLeft.joinsLine {b : BitWork} (left : HeadLeft s v p i j y before after) (agree : Agree .nothing s) (work : y.work = .bit b) :
    arbiter p (idlePort p (joinDestination j y.work v)) =
      ((setSlotState j .queued v).setLine { s.line with queue := before ++ j :: after }).setPort p
        { row s.ports p with state := .idle } := by
  obtain ⟨-, joins⟩ := left.joins
  simp only [work] at joins
  obtain ⟨busy, queue⟩ := joins
  have line : (setSlotState j .queued v).line = s.line := by simp [left.line]
  have placed := left.placed fun q mem => by
    obtain ⟨x, w, hx, state, -⟩ := agree.lineQueue q (by rw [queue]; exact mem)
    exact ⟨x, hx, state⟩
  have joined : joinDestination j y.work v = (setSlotState j .queued v).setLine { s.line with queue := before ++ j :: after } := by
    rw [work]
    show joinLine j (setSlotState j .queued v) = _
    rw [joinLine, line, queue, placed, lineArbiter_busy (by simpa using busy)]
  have here : row ((setSlotState j .queued v).setLine { s.line with queue := before ++ j :: after }).ports p = row s.ports p := by
    simp [left.ports]
  rw [joined, arbiter_idlePort (by rw [here]; exact left.empty) (by rw [here]; exact left.gate), idlePort, here]

/-- The member joins the head's own port, which issues it as it becomes IDLE. -/
theorem HeadLeft.issued (left : HeadLeft s v p i j y before after) (work : y.work = .port z) (own : z.port = p)
    (present : row v.regions z.entry = some q) :
    ∃ t, arbiter p (idlePort p (joinDestination j y.work v)) = t ∧
      t.slots = putRow (putRow s.slots i none) j (some { y with state := .active }) ∧
      t.ports = putRow s.ports p { row s.ports p with
        state := .issued { slot := j, step := .one, lowByte := none, timer := stepTimerOf q.fields.completion,
                           presented := segmentStep z q.fields.lanes .one } } ∧
      t.link = v.link ∧ t.chains = v.chains ∧ t.regions = v.regions ∧ t.line = v.line := by
  obtain ⟨-, joins⟩ := left.joins
  simp only [work, own, if_true] at joins
  obtain ⟨up, queue, unlocked, -, kind⟩ := joins
  have noLockRead : z.kind ≠ .lockRead := by rcases kind with kind | ⟨d, kind⟩ <;> simp [kind]
  have ports : (setSlotState j .queued v).ports = s.ports := by simp [left.ports]
  have joined : joinDestination j y.work v = (setSlotState j .queued v).setPort p { row s.ports p with queue := [j] } := by
    rw [work]
    show joinPort z.port j (setSlotState j .queued v) = _
    rw [own, joinPort_up (by rw [ports]; exact up), placedAt, ports, left.empty, arbiter_busy (by simpa using left.busy)]
    rfl
  have idle : idlePort p ((setSlotState j .queued v).setPort p { row s.ports p with queue := [j] }) =
      (setSlotState j .queued v).setPort p { row s.ports p with queue := [j], state := .idle } := by
    simp [idlePort, State.setPort]
  have slots : ((setSlotState j .queued v).setPort p { row s.ports p with queue := [j], state := .idle }).slots =
      putRow (putRow s.slots i none) j (some { y with state := .queued }) := left.queued
  have lock : lockAtIssue y.initiator z { row s.ports p with queue := [j], state := .idle } = none := by
    rw [lockAtIssue_eq]
    rcases kind with kind | ⟨d, kind⟩ <;> simp [kind, unlocked]
  refine ⟨issuedAt p j { y with state := .queued } z q
    ((setSlotState j .queued v).setPort p { row s.ports p with queue := [j], state := .idle }), ?_, ?_, ?_, ?_⟩
  · rw [joined, idle, arbiter_issues (i := j) (y := { y with state := .queued }) (w := z) (r := q) (by simp) (by simp [left.gate])
      (by simp [arbiterPick, unlocked]) (by rw [slots, row_putRow_self]) work (by simpa using present), issuedState,
      if_neg noLockRead]
  · rw [issuedAt, State.setPort_slots, setSlotState_eq (x := { y with state := .queued }) (by rw [slots, row_putRow_self]),
      State.setSlot_slots, slots, putRow_putRow_self]
  · have served : servingPort j { y with state := .queued } z q { row s.ports p with queue := [j], state := .idle } =
        { row s.ports p with
          state := .issued { slot := j, step := .one, lowByte := none, timer := stepTimerOf q.fields.completion,
                             presented := segmentStep z q.fields.lanes .one } } := by
      rw [servingPort, lock, Port.mk.injEq]
      simp [left.empty, unlocked]
    simp [issuedAt, left.ports, served]
  · simp [issuedAt]

/-! ### What follows the head (R98, R99) -/

theorem successAnswer_eq (served : w.kind = .read ∧ a = .data (readValue w r.fields.lanes low bytes) ∨
      ∃ d, w.kind = .write d ∧ a = .done) :
    successAnswer w r.fields.lanes low bytes = a ∧ endsLock w.kind false = false ∧ ∀ code, a ≠ .fault code := by
  rcases served with ⟨kind, rfl⟩ | ⟨d, kind, rfl⟩
  · exact ⟨by simp [successAnswer, kind], by simp [kind, endsLock], by simp⟩
  · exact ⟨by simp [successAnswer, kind], by simp [kind, endsLock], by simp⟩

/-- The release of a head with the next member WAITING behind it. -/
theorem headLeft (presents : Presents s p cur x w r) (agree : Agree .nothing s) (leaves : MemberLeaves s v cur.slot x w.entry r m d)
    (apart : j ≠ cur.slot) (held : row s.slots j = some y) (waiting : y.state = .waiting) (empty : (row s.ports p).queue = [])
    (gate : (row s.ports p).gate ≠ .pending) (joins : JoinsBetween s p before y after) :
    HeadLeft s v p cur.slot j y before after where
  slots := leaves.slots
  ports := leaves.ports
  line := leaves.line
  acceptCounter := leaves.acceptCounter
  apart := apart
  held := held
  waiting := waiting
  busy := by simp [presents.1]
  empty := empty
  gate := gate
  joins := joins
  serving := by
    obtain ⟨x, -, held, active, -⟩ := agree.current p cur (by simp [Exempt.nothing]) presents.1
    exact ⟨x, held, active⟩

/-- A FAILED chain of which only its WAITING LAST is left: the LAST is answered SKIPPED with the summary, and the chain is CLOSED. -/
theorem advanceChain_skipsLast (failed : d.state = .failed) (only : d.members = [j]) (context : row v.chains y.initiator = d)
    (held : row v.slots j = some y) (work : y.work = .port z) (role : y.role = .last n) (present : row v.regions z.entry = some q)
    (stays : NoDrainEnds q 1) (waiting : y.state = .waiting) (unanswered : y.answered = false) (unsuppressed : y.suppressed = false)
    (up : v.link.state = .up) (normal : (row v.initiators y.initiator).mode = .normal) :
    MemberLeaves v (advanceChain y.initiator v) j y z.entry q
      (.response { initiator := y.initiator, tag := y.tag, answer := .skipped, partialMarker := false,
                   summary := some { count := d.count, failure := d.failure } }) Chain.closed := by
  have member : inChain v j y = true := by simp [inChain, role, context, only]
  have waits : isWaiting v j = true := by simp [isWaiting, held, waiting]
  have swept : advanceChain y.initiator v = finishSlot j .skipped v := by
    unfold advanceChain sweepChain
    rw [context, failed, only, List.filter_singleton, waits]
    rfl
  have leaves := finishSlot_leaves held member work present stays unanswered unsuppressed up normal .skipped
  rw [reportToChain_success (by simp), chainResponse_last role member (by simp), chainSummary, context] at leaves
  rw [swept]
  simpa [chainWithout, role, isLastRole] using leaves

/-- The entry of a member that goes to the head's own port is present, as it was but for its count. -/
theorem HeadLeft.entry {e : EntryId} (left : HeadLeft s v p i j y before after) (work : y.work = .port z) (own : z.port = p)
    (regions : v.regions = putRow s.regions e (some { r with inFlight := r.inFlight - 1 })) (present : row s.regions e = some r) :
    ∃ q, row v.regions z.entry = some q ∧ ∀ q', row s.regions z.entry = some q' → q'.fields = q.fields := by
  obtain ⟨-, joins⟩ := left.joins
  simp only [work, own, if_true] at joins
  obtain ⟨-, -, -, isPresent, -⟩ := joins
  by_cases same : z.entry = e
  · refine ⟨{ r with inFlight := r.inFlight - 1 }, by rw [regions, same, row_putRow_self], fun q' held => ?_⟩
    rw [same, present] at held
    rw [← Option.some.inj held]
  · obtain ⟨q, held⟩ := Option.isSome_iff_exists.mp isPresent
    refine ⟨q, by rw [regions, row_putRow_ne _ _ _ _ same, held], fun q' held' => ?_⟩
    rw [Option.some.inj (held.symm.trans held')]

/-- Settles O45: the head's release makes the next member QUEUED, or sweeps the failed chain. -/
theorem headTimeoutSweepsTheChain : Obligations.HeadTimeoutSweepsTheChain := by
  unfold Obligations.HeadTimeoutSweepsTheChain
  constructor
  · intro c p cur x y w r m j later before after ch bytes answer s ok completes presents last served role unanswered unsuppressed up
      normal chain opened members held waiting apart stays empty gate joins
    have agree := (agree_nothing_iff s).mpr ok
    obtain ⟨issued, held_x, work, present⟩ := presents
    obtain ⟨success, standing, noFault⟩ := successAnswer_eq served
    have member : inChain s cur.slot x = true := by simp [inChain, role, chain, members]
    have leaves := finishSlot_leaves held_x member work present stays unanswered unsuppressed up normal answer
    rw [reportToChain_success noFault, chainResponse_member role, loneResponse_plain (.inr (noFault _))] at leaves
    have without : chainWithout cur.slot x (row s.chains x.initiator) = { ch with members := j :: later } := by
      simp [chainWithout, role, isLastRole, chain, members]
    rw [without] at leaves
    generalize finished : finishSlot cur.slot answer s = v at leaves
    have left := headLeft ⟨issued, held_x, work, present⟩ agree leaves apart held waiting empty gate joins
    have row_chain : row v.chains x.initiator = { ch with members := j :: later } := by rw [leaves.chains, row_putRow_self]
    have run : stepSucceeds p cur bytes s = arbiter p (idlePort p (joinDestination j y.work v)) := by
      rw [stepSucceeds_last ⟨issued, held_x, work, present⟩ last, success,
        endService_standing held_x work standing unanswered, completeSlot_member held_x member, finished,
        advanceChain_opened (by rw [row_chain]; exact opened) (by rw [row_chain])
          (by rw [left.slots, row_putRow_ne _ _ _ _ apart]; exact held) waiting]
    refine ⟨_, completes.runs issued, ?_⟩
    rw [run]
    cases work_y : y.work with
    | port z =>
      by_cases own : z.port = p
      · obtain ⟨q, present_z, fields⟩ := left.entry work_y own leaves.regions present
        obtain ⟨t, issues, slots, ports, link, chains, regions, line⟩ := left.issued work_y own present_z
        rw [← work_y, issues]
        refine ⟨by rw [link, leaves.outbound], by rw [chains, leaves.chains], by rw [regions, leaves.regions],
          fun z' same other => ?_, fun z' q' same _ present' => ?_, fun z' same => ?_⟩
        · cases work_y.symm.trans same
          exact absurd own other
        · cases work_y.symm.trans same
          rw [stepTimerOf_eq] at ports
          rw [fields q' present']
          exact ⟨slots, ports, by rw [line, leaves.line]⟩
        · cases work_y.symm.trans same
      · rw [← work_y, left.joinsPort agree work_y own]
        refine ⟨by simpa using leaves.outbound, by simpa using leaves.chains, by simpa using leaves.regions,
          fun z' same _ => ?_, fun z' q' same own' => ?_, fun z' same => ?_⟩
        · cases work_y.symm.trans same
          exact ⟨left.queued, by simp [leaves.ports], by simpa using leaves.line⟩
        · cases work_y.symm.trans same
          exact absurd own' own
        · cases work_y.symm.trans same
    | bit b =>
      rw [← work_y, left.joinsLine agree work_y]
      refine ⟨by simpa using leaves.outbound, by simpa using leaves.chains, by simpa using leaves.regions,
        fun z' same => ?_, fun z' q' same => ?_, fun z' same => ?_⟩
      · cases work_y.symm.trans same
      · cases work_y.symm.trans same
      · exact ⟨left.queued, rfl, by simp [leaves.ports]⟩
    | manage op =>
      obtain ⟨-, never⟩ := joins
      rw [work_y] at never
      exact never.elim
  · intro p cur x y w z r q t m n j c s presents timer kind role unanswered unsuppressed up normal chain members opened held_y apart
      own role_y waiting unanswered_y unsuppressed_y work_y present_z active active_z empty gate
    obtain ⟨issued, held, work, present⟩ := presents
    have member : inChain s cur.slot x = true := by simp [inChain, role, chain, members]
    have leaves := finishSlot_leaves (s := timedOut p cur s) held member work present (.inl active) unanswered unsuppressed up normal
      (.fault .timeout)
    rw [reportToChain_fault (s := timedOut p cur s) (by rw [role]; rfl) unsuppressed member, chainResponse_member role, loneResponse_timeout,
      State.setChain_chains, row_putRow_self, show (timedOut p cur s).chains = s.chains from rfl, chain] at leaves
    have without : chainWithout cur.slot x (recordFailure c m .timeout) =
        { c with state := .failed, failure := some (c.failure.getD { ordinal := m, code := .timeout }), members := [j] } := by
      simp [chainWithout, role, isLastRole, recordFailure_eq, members]
    rw [without] at leaves
    have run : stepFails p cur s =
        arbiter p (idlePort p (advanceChain x.initiator (finishSlot cur.slot (.fault .timeout) (timedOut p cur s)))) := by
      rw [← completeSlot_member (s := timedOut p cur s) held member]
      exact endService_standing (s := timedOut p cur s) (failed := true) held work (by simp [kind, endsLock]) unanswered _
    generalize finishSlot cur.slot (.fault .timeout) (timedOut p cur s) = v at leaves run
    have context : row v.chains y.initiator =
        { c with state := .failed, failure := some (c.failure.getD { ordinal := m, code := .timeout }), members := [j] } := by
      rw [own, leaves.chains, row_putRow_self]
    have held_v : row v.slots j = some y := by rw [leaves.slots, row_putRow_ne _ _ _ _ apart]; exact held_y
    obtain ⟨q', present_v, active_v⟩ : ∃ q', row v.regions z.entry = some q' ∧ q'.phase = .active := by
      by_cases same : z.entry = w.entry
      · exact ⟨{ r with inFlight := r.inFlight - 1 }, by rw [leaves.regions, same, row_putRow_self], active⟩
      · exact ⟨q, by rw [leaves.regions, row_putRow_ne _ _ _ _ same]; exact present_z, active_z⟩
    have last := advanceChain_skipsLast (rfl : _ = ChainState.failed) rfl context held_v work_y role_y present_v (.inl active_v) waiting
      unanswered_y unsuppressed_y (leaves.linkState.trans up) (by rw [own]; exact leaves.mode)
    rw [own] at last
    have ports : row (advanceChain x.initiator v).ports p = row s.ports p := by rw [last.ports, leaves.ports]; rfl
    refine ⟨_, exec_readyTimerExpiry issued timer, ?_⟩
    rw [run, arbiter_idlePort (by rw [ports]; exact empty) (by rw [ports]; exact gate)]
    refine ⟨?_, ?_, ?_⟩
    · exact last.slots.trans (by rw [leaves.slots]; rfl)
    · refine last.chains.trans ?_
      rw [leaves.chains, own, putRow_putRow_self]
      rfl
    · refine last.outbound.trans ?_
      rw [leaves.outbound, List.append_assoc, own]
      rfl

end

end Sys2Proof.Machine
end

section
/-! PROOFS. What the ending of one slot leaves to the others (R18, R37, R93), and the sweep of a chain (R99). -/

namespace Sys2Proof.Machine

-- one proof at a time: the text is compiled whole, in one process whose threads share its memory limit
set_option Elab.async false

section
variable {s t u v : State} {x y : Slot} {i j : SlotId} {a : Answer} {k k' : Initiator} {c d : Chain} {n : Nat} {code : FaultCode}
  {l mids rest : List SlotId}

/-! ### The management unit -/

/-- The ending of slots leaves the manager set, and pending retires can only go (R144). -/
def RetiresEnd (s t : State) : Prop :=
  t.management.managers = s.management.managers ∧ t.management.retires.Sublist s.management.retires

theorem RetiresEnd.of_eq (same : t.management = s.management) : RetiresEnd s t := by rw [RetiresEnd, same]; exact ⟨rfl, .refl _⟩

theorem RetiresEnd.trans (st : RetiresEnd s t) (tu : RetiresEnd t u) : RetiresEnd s u :=
  ⟨tu.1.trans st.1, tu.2.trans st.2⟩

theorem retireListed_retiresEnd (e : EntryId) (s : State) : RetiresEnd s (retireListed e s) := ⟨rfl, List.filter_sublist⟩

theorem answerRetire_retiresEnd (e : EntryId) (s : State) : RetiresEnd s (answerRetire e s) := by
  rcases answerRetire_cases e s with ⟨-, run⟩ | ⟨r, -, -, ⟨-, run⟩ | ⟨j, y, -, -, -, run⟩⟩
  · rw [run]; exact .of_eq rfl
  · rw [run]; exact retireListed_retiresEnd e s
  · rw [run]
    exact (retireListed_retiresEnd e s).trans (.of_eq (by simp))

theorem lowerCount_retiresEnd (e : EntryId) (s : State) : RetiresEnd s (lowerCount e s) := by
  unfold lowerCount
  split
  · exact .of_eq rfl
  · split
    · exact answerRetire_retiresEnd _ (s.setRegion _ none)
    · exact .of_eq rfl

theorem lowerWorkCount_retiresEnd (w : Work) (s : State) : RetiresEnd s (lowerWorkCount w s) := by
  unfold lowerWorkCount
  split
  · exact lowerCount_retiresEnd _ s
  · exact .of_eq rfl

theorem finishSlot_retiresEnd (i : SlotId) (a : Answer) (s : State) : RetiresEnd s (finishSlot i a s) := by
  unfold finishSlot
  split
  · exact .of_eq rfl
  · next x _ =>
    have answered : RetiresEnd s (freeSlotOf i x.initiator (answerSlot i x a (reportToChain i x a s))) := .of_eq (by simp)
    exact (answered.trans (lowerWorkCount_retiresEnd x.work _)).trans (.of_eq (by simp [releaseSlot]))

/-! ### A slot that stands -/

/-- The slot holds `y`, which waits for no drain. -/
structure Stands (t : State) (j : SlotId) (y : Slot) : Prop where
  held : row t.slots j = some y
  unnamed : ∀ r, r ∈ t.management.retires → ¬(r.initiator = y.initiator ∧ r.tag = y.tag)

theorem Stands.of_same (stands : Stands s j y) (slot : row t.slots j = row s.slots j) (retires : RetiresEnd s t) : Stands t j y :=
  ⟨slot.trans stands.held, fun r mem => stands.unnamed r (retires.2.subset mem)⟩

/-- The end of a drain frees the slot of its own RETIRE-REGION at most. -/
theorem Stands.answerRetire (stands : Stands s j y) (e : EntryId) : Stands (answerRetire e s) j y := by
  have retires := answerRetire_retiresEnd e s
  rcases answerRetire_cases e s with ⟨-, run⟩ | ⟨r, mem, -, ⟨-, run⟩ | ⟨i, x, held, own, tag, run⟩⟩
  · rwa [run]
  · rw [run] at retires ⊢
    exact stands.of_same rfl retires
  · by_cases here : j = i
    · subst here
      obtain rfl : x = y := Option.some.inj (held.symm.trans stands.held)
      exact absurd ⟨own.symm, tag.symm⟩ (stands.unnamed r mem)
    · rw [run] at retires ⊢
      refine stands.of_same ?_ retires
      rw [endAbandonment_slots, freeSlotOf_slots, row_putRow_ne _ _ _ _ here, answerSlot_slots_ne here]
      rfl

theorem Stands.lowerCount (stands : Stands s j y) (e : EntryId) : Stands (lowerCount e s) j y := by
  unfold Machine.lowerCount
  split
  · exact stands
  · split
    · exact Stands.answerRetire (s := s.setRegion e none) ⟨stands.held, stands.unnamed⟩ e
    · exact ⟨stands.held, stands.unnamed⟩

theorem Stands.lowerWorkCount (stands : Stands s j y) (w : Work) : Stands (lowerWorkCount w s) j y := by
  unfold Machine.lowerWorkCount
  split
  · exact stands.lowerCount _
  · exact stands

theorem Stands.finishSlot (stands : Stands s j y) (ne : j ≠ i) (a : Answer) : Stands (finishSlot i a s) j y := by
  unfold Machine.finishSlot
  split
  · exact stands
  · next x _ =>
    have freed : Stands (freeSlotOf i x.initiator (answerSlot i x a (reportToChain i x a s))) j y := by
      refine stands.of_same ?_ (.of_eq (by simp))
      rw [freeSlotOf_slots, row_putRow_ne _ _ _ _ ne, answerSlot_slots_ne ne]
      simp
    exact (freed.lowerWorkCount x.work).of_same (by simp [releaseSlot]) (.of_eq (by simp [releaseSlot]))

theorem Stands.skipSlots (stands : Stands s j y) (out : j ∉ l) : Stands (skipSlots l s) j y := by
  induction l generalizing s with
  | nil => exact stands
  | cons i rest ih =>
    rw [List.mem_cons, not_or] at out
    exact ih (stands.finishSlot out.1 .skipped) out.2

/-- A sweep spares a slot that is not WAITING, and one that is in another chain. -/
theorem Stands.sweepChain (stands : Stands s j y) (spared : y.state ≠ .waiting ∨ j ∉ (row s.chains k).members) :
    Stands (sweepChain k s) j y := by
  refine stands.skipSlots fun mem => ?_
  obtain ⟨member, waits⟩ := List.mem_filter.mp mem
  rcases spared with ready | other
  · exact ready (by simpa [isWaiting, stands.held] using waits)
  · exact other member

theorem Stands.failSlot (stands : Stands s j y) (ne : j ≠ i) (ready : y.state ≠ .waiting) (code : FaultCode) :
    Stands (failSlot i code s) j y := by
  unfold Machine.failSlot
  split
  · exact stands
  · dsimp only
    split
    · exact (stands.finishSlot ne _).sweepChain (.inl ready)
    · exact stands.finishSlot ne _

theorem skipSlots_keptOrFreed (l : List SlotId) (j : SlotId) (s : State) : KeptOrFreed j s (skipSlots l s) := by
  induction l generalizing s with
  | nil => exact .inl rfl
  | cons i rest ih => exact (finishSlot_keptOrFreed i j _ s).trans (ih _)

theorem failSlot_keptOrFreed (i j : SlotId) (code : FaultCode) (s : State) : KeptOrFreed j s (failSlot i code s) := by
  unfold failSlot
  split
  · exact .inl rfl
  · dsimp only
    split
    · exact (finishSlot_keptOrFreed i j _ s).trans (skipSlots_keptOrFreed _ j _)
    · exact finishSlot_keptOrFreed i j _ s

theorem failSlot_frees (i : SlotId) (code : FaultCode) (s : State) : row (failSlot i code s).slots i = none := by
  unfold failSlot
  split
  · assumption
  · dsimp only
    split
    · exact (skipSlots_keptOrFreed _ i _).free (finishSlot_frees i _ s)
    · exact finishSlot_frees i _ s

/-! ### A chain that stands -/

theorem finishSlot_chains_lone (held : row s.slots i = some x) (alone : inChain s i x = false) (a : Answer) :
    (finishSlot i a s).chains = s.chains := by
  have unreported : reportToChain i x a s = s := by
    unfold reportToChain
    split
    · simp [alone]
    · rfl
  have left (t : State) (chains : t.chains = s.chains) : leaveChain i x t = t := by
    have alone' : inChain t i x = false := by rw [inChain, chains]; exact alone
    simp [leaveChain, alone']
  rw [finishSlot, held]
  simp only [unreported, releaseSlot]
  rw [left _ (by simp)]
  simp

theorem finishSlot_chain_other (held : row s.slots i = some x) (other : k ≠ x.initiator) (a : Answer) :
    row (finishSlot i a s).chains k = row s.chains k := by
  cases member : inChain s i x with
  | false => rw [finishSlot_chains_lone held member]
  | true => rw [finishSlot_member_chains held member, row_putRow_ne _ _ _ _ other]

theorem chainWithout_members (i : SlotId) (x : Slot) (c : Chain) : (chainWithout i x c).members.Sublist c.members := by
  unfold chainWithout
  split
  · exact List.nil_sublist _
  · exact List.erase_sublist

theorem finishSlot_members (i : SlotId) (a : Answer) (s : State) (k : Initiator) :
    (row (finishSlot i a s).chains k).members.Sublist (row s.chains k).members := by
  cases held : row s.slots i with
  | none => rw [finishSlot, held]
  | some x =>
    cases member : inChain s i x with
    | false => rw [finishSlot_chains_lone held member]
    | true =>
      rw [finishSlot_member_chains held member, row_putRow]
      split
      · next same =>
        subst same
        have shorter := chainWithout_members i x (row (reportToChain i x a s).chains x.initiator)
        rwa [reportToChain_members] at shorter
      · exact .refl _

/-- The context of the initiator `k` is `c`, whose members are in no other chain and hold what they held in `v`. -/
structure ChainStands (v : State) (k : Initiator) (c : Chain) (t : State) : Prop where
  context : row t.chains k = c
  apart : ∀ k', k' ≠ k → ∀ j, j ∈ (row t.chains k').members → j ∉ c.members
  slots : ∀ j y, j ∈ c.members → row v.slots j = some y → Stands t j y

theorem ChainStands.of_same (stands : ChainStands v k c s) (chains : t.chains = s.chains) (slots : t.slots = s.slots)
    (management : t.management = s.management) : ChainStands v k c t where
  context := by rw [chains]; exact stands.context
  apart := by rw [chains]; exact stands.apart
  slots j y mem held := (stands.slots j y mem held).of_same (by rw [slots]) (.of_eq management)

/-- A slot that is no member of the chain ends without it. -/
theorem ChainStands.finishSlot (stands : ChainStands v k c s) (out : i ∉ c.members) (a : Answer) :
    ChainStands v k c (finishSlot i a s) where
  context := by
    cases held : row s.slots i with
    | none => rw [Machine.finishSlot, held]; exact stands.context
    | some x =>
      by_cases own : k = x.initiator
      · have alone : inChain s i x = false := by
          rw [← Bool.not_eq_true, inChain_iff, ← own, stands.context]
          exact fun both => out both.2
        rw [finishSlot_chains_lone held alone]
        exact stands.context
      · rw [finishSlot_chain_other held own]
        exact stands.context
  apart k' other j mem := stands.apart k' other j ((finishSlot_members i a s k').subset mem)
  slots j y mem held := (stands.slots j y mem held).finishSlot (fun same => out (by rwa [← same])) a

theorem ChainStands.skipSlots (stands : ChainStands v k c s) (out : ∀ i, i ∈ l → i ∉ c.members) :
    ChainStands v k c (skipSlots l s) := by
  induction l generalizing s with
  | nil => exact stands
  | cons i rest ih => exact ih (stands.finishSlot (out i (by simp)) .skipped) fun j mem => out j (by simp [mem])

theorem ChainStands.failSlot (stands : ChainStands v k c s) (out : i ∉ c.members) (code : FaultCode) :
    ChainStands v k c (failSlot i code s) := by
  cases held : row s.slots i with
  | none => rwa [Machine.failSlot, held]
  | some x =>
    rw [Machine.failSlot, held]
    dsimp only
    have finished := stands.finishSlot out (.fault code)
    split
    · next fails =>
      obtain ⟨-, mem⟩ := inChain_iff.mp fails.1
      have other : x.initiator ≠ k := by
        rintro rfl
        exact out (stands.context ▸ mem)
      exact finished.skipSlots fun j swept => finished.apart x.initiator other j (List.mem_of_mem_filter swept)
    · exact finished

/-! ### The sweep of the chain itself (R99, R102) -/

/-- A member that is due a plain RESPONSE. -/
structure DueMember (k : Initiator) (z : Slot) : Prop where
  initiator : z.initiator = k
  role : ∃ m, z.role = .member m
  unanswered : z.answered = false
  unsuppressed : z.suppressed = false

theorem DueMember.notLast (due : DueMember k y) : isLastRole y.role = false := by
  obtain ⟨m, role⟩ := due.role
  simp [role, isLastRole]

theorem DueMember.inChain (due : DueMember k y) (mem : j ∈ (row s.chains k).members) : inChain s j y = true := by
  obtain ⟨m, role⟩ := due.role
  rw [inChain_iff, due.initiator]
  exact ⟨by simp [role], mem⟩

/-- Members are answered SKIPPED one after another, each with a plain RESPONSE, and leave the list. -/
theorem skipSlots_members (members : (row s.chains k).members = mids ++ rest) (nodup : (mids ++ rest).Nodup)
    (due : ∀ j, j ∈ mids → ∃ z, row v.slots j = some z ∧ DueMember k z)
    (stands : ∀ j y, j ∈ mids ++ rest → row v.slots j = some y → Stands s j y) (up : s.link.state = .up) :
    row (skipSlots mids s).chains k = { row s.chains k with members := rest } ∧
      (∀ j y, j ∈ rest → row v.slots j = some y → Stands (skipSlots mids s) j y) ∧
      ∀ j z, j ∈ mids → row v.slots j = some z →
        row (skipSlots mids s).slots j = none ∧ Hands s (skipSlots mids s) (plainResponse z.initiator z.tag .skipped) := by
  induction mids generalizing s with
  | nil =>
    refine ⟨?_, stands, by simp⟩
    rw [skipSlots]
    simp only [List.nil_append] at members
    rw [← members]
  | cons i mids ih =>
    rw [List.cons_append] at members nodup
    obtain ⟨new, nodup⟩ := List.nodup_cons.mp nodup
    obtain ⟨z, held_v, due_z⟩ := due i (by simp)
    have held := (stands i z (by simp) held_v).held
    have member : inChain s i z = true := due_z.inChain (by rw [members]; simp)
    have context : row (finishSlot i .skipped s).chains k = { row s.chains k with members := mids ++ rest } := by
      rw [finishSlot_member_chains held member, reportToChain_success (by simp), due_z.initiator, row_putRow_self, chainWithout,
        due_z.notLast, members]
      simp
    have still (j : SlotId) (y : Slot) (mem : j ∈ mids ++ rest) (held_j : row v.slots j = some y) :
        Stands (finishSlot i .skipped s) j y :=
      (stands j y (by simp [List.mem_append.mp mem]) held_j).finishSlot (fun same => new (by rwa [← same])) .skipped
    obtain ⟨after, left, each⟩ := ih (s := finishSlot i .skipped s) (by rw [context]) nodup (fun j mem => due j (by simp [mem]))
      still (by simpa using up)
    refine ⟨by rw [skipSlots, after, context], left, fun j y mem held_j => ?_⟩
    rcases List.mem_cons.mp mem with rfl | later
    · obtain rfl : z = y := Option.some.inj (held_v.symm.trans held_j)
      have hands := finishSlot_hands held due_z.notLast due_z.unanswered due_z.unsuppressed up .skipped
      rw [loneResponse_plain (.inr (by simp))] at hands
      refine ⟨?_, hands.until (skipSlots_grows mids _ List.prefix_rfl)⟩
      exact (skipSlots_keptOrFreed mids j _).free (finishSlot_frees j _ s)
    · obtain ⟨freed, hands⟩ := each j y later held_j
      exact ⟨freed, hands.since (finishSlot_grows i .skipped s List.prefix_rfl)⟩

/-- The chain's LAST is answered with the summary of the chain, and its release closes the chain. -/
theorem finishSlot_last (held : row s.slots i = some x) (role : x.role = .last n) (member : inChain s i x = true)
    (unanswered : x.answered = false) (unsuppressed : x.suppressed = false) (up : s.link.state = .up) (plain : a ≠ .fault .timeout)
    (context : row (reportToChain i x a s).chains x.initiator = d) :
    Hands s (finishSlot i a s)
        (.response { initiator := x.initiator, tag := x.tag, answer := a, partialMarker := false,
                     summary := some { count := d.count, failure := d.failure } }) ∧
      row (finishSlot i a s).chains x.initiator = Chain.closed := by
  constructor
  · have reported : (reportToChain i x a s).link = s.link := by simp
    have handed := answerSlot_due_outbound unanswered unsuppressed (s := reportToChain i x a s) (by rw [reported]; exact up) i a
    rw [chainResponse_last role (inChain_reported member a) plain, chainSummary, context] at handed
    rw [finishSlot, held]
    exact .of_grows (v := reportToChain i x a s) (by rw [reported]) (releaseSlot_grows i x _ (by rw [handed]))
  · rw [finishSlot_member_chains held member, row_putRow_self, chainWithout, role]
    rfl

end

end Sys2Proof.Machine
end

section
/-! PROOFS. SET-PORT from UP to DOWN (R46, R63, R69, R89, R99, R100, R102, R147). -/

namespace Sys2Proof.Machine

-- one proof at a time: the text is compiled whole, in one process whose threads share its memory limit
set_option Elab.async false

section
variable {s t u v : State} {p : PortId} {x y : Slot} {w : PortWork} {i j : SlotId} {k : Initiator} {c : Chain} {n : Nat}
  {l mids before after : List SlotId} {h : ReqHeader} {body : List Byte} {g : Exempt}

/-! ### The emptying of a queue, slot by slot (R63) -/

theorem flushQueue_append (p : PortId) (l later : List SlotId) (s : State) :
    flushQueue p (l ++ later) s = flushQueue p later (flushQueue p l s) := by
  induction l generalizing s with
  | nil => rfl
  | cons i rest ih =>
    rw [List.cons_append, flushQueue, flushQueue]
    split
    · split <;> exact ih _
    · exact ih s

theorem flushQueue_posted (held : row s.slots i = some x) (work : x.work = .port w) (answered : x.answered = true) :
    flushQueue p [i] s = finishSlot i .done (raiseIncident .postedFail (some (.portAddress p w.target)) s) := by
  simp [flushQueue, held, portWorkOf_eq_some held work, answered]

theorem flushQueue_fails (held : row s.slots i = some x) (work : x.work = .port w) (unanswered : x.answered = false) :
    flushQueue p [i] s = failSlot i .portDown s := by
  simp [flushQueue, held, portWorkOf_eq_some held work, unanswered]

/-- What both ways in which a slot goes keep, the emptying of the queue keeps. -/
theorem flushQueue_invariant {P : State → Prop} (posted : ∀ i, i ∈ l → ∀ s a, P s →
      P (finishSlot i .done (raiseIncident .postedFail (some (.portAddress p a)) s)))
    (fails : ∀ i, i ∈ l → ∀ s, P s → P (failSlot i .portDown s)) (ready : P s) : P (flushQueue p l s) := by
  induction l generalizing s with
  | nil => exact ready
  | cons i rest ih =>
    have go {t : State} (first : P t) : P (flushQueue p rest t) :=
      ih (fun j mem => posted j (by simp [mem])) (fun j mem => fails j (by simp [mem])) first
    unfold flushQueue
    split
    · split
      · exact go (posted i (by simp) s _ ready)
      · exact go (fails i (by simp) s ready)
    · exact go ready

theorem Stands.raiseIncident (stands : Stands s j y) (kind : IncidentKind) (detail : Option Detail) :
    Stands (raiseIncident kind detail s) j y := ⟨stands.held, stands.unnamed⟩

theorem Stands.flushQueue (stands : Stands s j y) (ready : y.state ≠ .waiting) (out : j ∉ l) : Stands (flushQueue p l s) j y :=
  flushQueue_invariant (P := fun s => Stands s j y)
    (fun _ mem _ _ stands => (stands.raiseIncident _ _).finishSlot (fun same => out (same ▸ mem)) .done)
    (fun _ mem _ stands => stands.failSlot (fun same => out (same ▸ mem)) ready .portDown) stands

theorem ChainStands.flushQueue (stands : ChainStands v k c s) (out : ∀ i, i ∈ l → i ∉ c.members) :
    ChainStands v k c (flushQueue p l s) :=
  flushQueue_invariant (P := ChainStands v k c)
    (fun i mem s a stands => (stands.of_same (t := raiseIncident .postedFail (some (.portAddress p a)) s) rfl rfl rfl).finishSlot
      (out i mem) .done)
    (fun i mem _ stands => stands.failSlot (out i mem) .portDown) stands

theorem flushQueue_keptOrFreed (p : PortId) (l : List SlotId) (j : SlotId) (s : State) : KeptOrFreed j s (flushQueue p l s) :=
  flushQueue_invariant (P := KeptOrFreed j s)
    (fun i _ t a kept => kept.trans ((KeptOrFreed.of_slots_eq j rfl).trans (finishSlot_keptOrFreed i j .done
      (raiseIncident .postedFail (some (.portAddress p a)) t))))
    (fun i _ t kept => kept.trans (failSlot_keptOrFreed i j .portDown t)) (.inl rfl)

theorem failSlot_retiresEnd (i : SlotId) (code : FaultCode) (s : State) : RetiresEnd s (failSlot i code s) := by
  have skipped (l : List SlotId) (s : State) : RetiresEnd s (skipSlots l s) := by
    induction l generalizing s with
    | nil => exact .of_eq rfl
    | cons i rest ih => exact (finishSlot_retiresEnd i .skipped s).trans (ih _)
  unfold failSlot
  split
  · exact .of_eq rfl
  · dsimp only
    split
    · exact (finishSlot_retiresEnd i _ s).trans (skipped _ _)
    · exact finishSlot_retiresEnd i _ s

theorem flushQueue_retiresEnd (p : PortId) (l : List SlotId) (s : State) : RetiresEnd s (flushQueue p l s) :=
  flushQueue_invariant (P := RetiresEnd s)
    (fun i _ t a ends => ends.trans (finishSlot_retiresEnd i .done (raiseIncident .postedFail (some (.portAddress p a)) t)))
    (fun i _ t ends => ends.trans (failSlot_retiresEnd i .portDown t)) (.of_eq rfl)

/-! ### What becomes of a queue's slots (R63 step 2) -/

/-- The slots of a list hold port slots of the state `v` that are not WAITING, and wait for no drain. -/
def Awaits (v : State) (l : List SlotId) (s : State) : Prop :=
  ∀ i, i ∈ l → ∃ x w, row v.slots i = some x ∧ Stands s i x ∧ x.work = .port w ∧ x.state ≠ .waiting

/-- The slots behind those that have gone still stand. -/
theorem Awaits.rest (awaits : Awaits v (before ++ after) s) (nodup : (before ++ after).Nodup) :
    Awaits v after (flushQueue p before s) := by
  intro i mem
  obtain ⟨x, w, held, stands, work, ready⟩ := awaits i (List.mem_append_right _ mem)
  exact ⟨x, w, held, stands.flushQueue ready fun earlier => (List.disjoint_of_nodup_append nodup) earlier mem, work, ready⟩

theorem flushQueue_frees (awaits : Awaits v l s) (nodup : l.Nodup) (mem : i ∈ l) : row (flushQueue p l s).slots i = none := by
  obtain ⟨before, after, rfl⟩ := List.append_of_mem mem
  obtain ⟨x, w, -, stands, work, -⟩ := awaits.rest (p := p) nodup i (by simp)
  rw [flushQueue_append, show i :: after = [i] ++ after from rfl, flushQueue_append]
  refine (flushQueue_keptOrFreed p after i _).free ?_
  cases answered : x.answered with
  | true => rw [flushQueue_posted stands.held work answered]; exact finishSlot_frees i _ _
  | false => rw [flushQueue_fails stands.held work answered]; exact failSlot_frees i _ _

theorem flushQueue_hands (awaits : Awaits v l s) (nodup : l.Nodup) (mem : i ∈ l) (held : row v.slots i = some x)
    (unanswered : x.answered = false) (unsuppressed : x.suppressed = false) (lone : x.role = .none) (up : s.link.state = .up) :
    Hands s (flushQueue p l s) (plainResponse x.initiator x.tag (.fault .portDown)) := by
  obtain ⟨before, after, rfl⟩ := List.append_of_mem mem
  obtain ⟨y, w, held', stands, work, -⟩ := awaits.rest (p := p) nodup i (by simp)
  obtain rfl : x = y := Option.some.inj (held.symm.trans held')
  have hands := finishSlot_hands stands.held (by simp [lone, isLastRole]) unanswered unsuppressed (by simpa using up) (.fault .portDown)
  rw [loneResponse_plain (.inr (by simp))] at hands
  rw [flushQueue_append, show i :: after = [i] ++ after from rfl, flushQueue_append, flushQueue_fails stands.held work unanswered,
    failSlot_lone stands.held lone]
  exact (hands.since (flushQueue_grows p before s List.prefix_rfl)).until (flushQueue_grows p after _ List.prefix_rfl)

theorem postedTarget_eq (held : row s.slots i = some x) (work : x.work = .port w) :
    postedTarget s i = if x.answered = true then some w.target else none := by
  simp [postedTarget, held, work]

/-- Each posted write of the queue raises POSTED-FAIL in its turn (R61, R63). -/
theorem flushQueue_incidents (awaits : Awaits v l s) (nodup : l.Nodup) :
    (flushQueue p l s).events.incidents = putRow s.events.incidents 3
      ((l.filterMap (postedTarget v)).foldl (fun r a => raised r (some (.portAddress p a))) (row s.events.incidents 3)) := by
  induction l generalizing s with
  | nil => simp [flushQueue]
  | cons i rest ih =>
    obtain ⟨x, w, held, stands, work, -⟩ := awaits i (by simp)
    have later := ih (Awaits.rest (before := [i]) (p := p) awaits nodup) (List.nodup_cons.mp nodup).2
    rw [show i :: rest = [i] ++ rest from rfl, flushQueue_append, later, List.filterMap_append, List.foldl_append]
    have target := postedTarget_eq held work
    cases answered : x.answered with
    | true =>
      rw [answered, if_pos rfl] at target
      rw [flushQueue_posted stands.held work answered]
      simp [target, raiseIncident, incidentIndex]
    | false =>
      rw [answered] at target
      rw [flushQueue_fails stands.held work answered]
      simp [target]

/-! ### A chain whose head is among them (R99, R100, R102) -/

theorem skipSlots_append (l later : List SlotId) (s : State) : skipSlots (l ++ later) s = skipSlots later (skipSlots l s) := by
  induction l generalizing s with
  | nil => rfl
  | cons i rest ih => exact ih _

/-- The context of a chain whose member of an ordinal has failed with PORTDOWN. -/
def failedWith (n : Nat) (c : Chain) : Chain :=
  { c with state := .failed, failure := some (c.failure.getD { ordinal := n, code := .portDown }) }

theorem reportToChain_portDown (ordinal : roleOrdinal y.role = some n) (unsuppressed : y.suppressed = false)
    (member : inChain s i y = true) :
    row (reportToChain i y (.fault .portDown) s).chains y.initiator = failedWith n (row s.chains y.initiator) := by
  rw [reportToChain_fault ordinal unsuppressed member, State.setChain_chains, row_putRow_self, recordFailure_eq, failedWith]

/-- A head that fails is answered, and all members behind it, which are WAITING, are swept. -/
theorem failSlot_head {rest : List SlotId} (chain : ChainStands v y.initiator c s) (held : row v.slots i = some y)
    (role : y.role = .member n) (unanswered : y.answered = false) (unsuppressed : y.suppressed = false)
    (members : c.members = i :: (mids ++ rest)) (nodup : c.members.Nodup)
    (waits : ∀ j, j ∈ mids ++ rest → ∃ z, row v.slots j = some z ∧ z.state = .waiting)
    (due : ∀ j, j ∈ mids → ∃ z, row v.slots j = some z ∧ DueMember y.initiator z) (up : s.link.state = .up) :
    ∃ u, failSlot i .portDown s = skipSlots rest u ∧ u.link.state = .up ∧
      Hands s u (plainResponse y.initiator y.tag (.fault .portDown)) ∧
      row u.chains y.initiator = { failedWith n c with members := rest } ∧
      (∀ j z, j ∈ mids → row v.slots j = some z →
        row u.slots j = none ∧ Hands s u (plainResponse z.initiator z.tag .skipped)) ∧
      ∀ j z, j ∈ rest → row v.slots j = some z → Stands u j z := by
  have stands := (chain.slots i y (by rw [members]; simp) held).held
  have member : inChain s i y = true := by
    rw [inChain_iff, chain.context, members]
    simp [role]
  have hands := finishSlot_hands stands (by simp [role, isLastRole]) unanswered unsuppressed up (.fault .portDown)
  rw [loneResponse_plain (.inr (by simp))] at hands
  have context : row (finishSlot i (.fault .portDown) s).chains y.initiator = { failedWith n c with members := mids ++ rest } := by
    rw [finishSlot_member_chains stands member, row_putRow_self, reportToChain_portDown (by rw [role]; rfl) unsuppressed member,
      chain.context, chainWithout, role]
    simp [isLastRole, failedWith, members]
  rw [members] at nodup
  obtain ⟨new, nodup⟩ := List.nodup_cons.mp nodup
  have still (j : SlotId) (z : Slot) (mem : j ∈ mids ++ rest) (held_j : row v.slots j = some z) :
      Stands (finishSlot i (.fault .portDown) s) j z :=
    (chain.slots j z (by rw [members]; exact List.mem_cons_of_mem _ mem) held_j).finishSlot (fun same => new (by rwa [← same])) _
  have swept : (mids ++ rest).filter (isWaiting (finishSlot i (.fault .portDown) s)) = mids ++ rest := by
    refine List.filter_eq_self.mpr fun j mem => ?_
    obtain ⟨z, held_j, waiting⟩ := waits j mem
    simp [isWaiting, (still j z mem held_j).held, waiting]
  have fails : failSlot i .portDown s = skipSlots rest (skipSlots mids (finishSlot i (.fault .portDown) s)) := by
    have failed : (row (finishSlot i (.fault .portDown) s).chains y.initiator).state = .failed := by rw [context]; rfl
    rw [failSlot, stands]
    simp only [member, failed, and_self, if_true]
    rw [sweepChain, context, swept, skipSlots_append]
  obtain ⟨after, left, each⟩ := skipSlots_members (s := finishSlot i (.fault .portDown) s) (k := y.initiator) (v := v) (by rw [context])
    nodup due still (by simpa using up)
  refine ⟨_, fails, by simpa using up, hands.until (skipSlots_grows mids _ List.prefix_rfl), by rw [after, context],
    fun j z mem held_j => ?_, left⟩
  obtain ⟨freed, skipped⟩ := each j z mem held_j
  exact ⟨freed, skipped.since (finishSlot_grows i _ s List.prefix_rfl)⟩

/-- A head that is its chain's LAST and fails is answered with the summary, and the chain is CLOSED. -/
theorem failSlot_last (chain : ChainStands v y.initiator c s) (held : row v.slots i = some y) (role : y.role = .last n)
    (unanswered : y.answered = false) (unsuppressed : y.suppressed = false) (mem : i ∈ c.members) (up : s.link.state = .up) :
    Hands s (failSlot i .portDown s) (lastResponse y.initiator y.tag (.fault .portDown) c.count
        (c.failure.getD { ordinal := n, code := .portDown })) ∧
      row (failSlot i .portDown s).chains y.initiator = Chain.closed := by
  have stands := (chain.slots i y mem held).held
  have member : inChain s i y = true := by
    rw [inChain_iff, chain.context]
    exact ⟨by simp [role], mem⟩
  have reported := reportToChain_portDown (by rw [role]; rfl) unsuppressed member
  rw [chain.context] at reported
  obtain ⟨hands, closed⟩ := finishSlot_last stands role member unanswered unsuppressed up (by simp) reported
  have ends : failSlot i .portDown s = finishSlot i (.fault .portDown) s := by
    rw [failSlot, stands]
    simp [closed, Chain.closed]
  rw [ends]
  exact ⟨hands, closed⟩

end

end Sys2Proof.Machine
end

section
/-! PROOFS. SET-PORT from UP to DOWN as a whole (R63, R139, R147). -/

namespace Sys2Proof.Machine

-- one proof at a time: the text is compiled whole, in one process whose threads share its memory limit
set_option Elab.async false

section
variable {s t u v : State} {p : PortId} {x y : Slot} {w : PortWork} {i j : SlotId} {k : Initiator} {c d : Chain} {n : Nat}
  {l mids before after : List SlotId} {h : ReqHeader} {body : List Byte} {g : Exempt} {op : ManageOp}

/-! ### The state whose queue is emptied -/

theorem Agree.stands (agree : Agree g s) (held : row s.slots j = some y) (work : ∀ op, y.work ≠ .manage op) : Stands s j y where
  held := held
  unnamed r mem := by
    rintro ⟨own, tag⟩
    obtain ⟨i, x, op, hx, own', tag', -, manages⟩ := agree.retires r mem
    obtain rfl := agree.keys i j x y hx held (own'.trans own) (tag'.trans tag)
    rw [Option.some.inj (held.symm.trans hx)] at work
    exact work op manages

/-- The state `e` is that in which a SET-PORT, in the slot `i`, has set its port DOWN and emptied its queue's list. -/
structure Emptied (s : State) (i : SlotId) (h : ReqHeader) (op : ManageOp) (e : State) : Prop where
  free : row s.slots i = none
  slots : e.slots = putRow s.slots i (some (filledSlot s h (.manage op) .active false))
  chains : e.chains = s.chains
  events : e.events = s.events
  outbound : e.link.outbound = s.link.outbound
  linkState : e.link.state = s.link.state
  managers : e.management.managers = s.management.managers
  retires : e.management.retires = s.management.retires

theorem Emptied.stands {e : State} (emptied : Emptied s i h op e) (stands : Stands s j y) : Stands e j y where
  held := by
    have other : j ≠ i := by
      rintro rfl
      have held := stands.held
      rw [emptied.free] at held
      cases held
    rw [emptied.slots, row_putRow_ne _ _ _ _ other, stands.held]
  unnamed := by rw [emptied.retires]; exact stands.unnamed

/-- The operation's own slot stands too: no drain waits for its key. -/
theorem Emptied.own {e : State} (emptied : Emptied s i h op e) (agree : Agree g s) (free : KeyFree s h) :
    Stands e i (filledSlot s h (.manage op) .active false) where
  held := by rw [emptied.slots, row_putRow_self]
  unnamed r mem := by
    rintro ⟨own, tag⟩
    rw [emptied.retires] at mem
    obtain ⟨j, x, -, held, own', tag', -⟩ := agree.retires r mem
    exact free j x held ⟨own'.trans own, tag'.trans tag⟩

theorem Emptied.awaits {e : State} (emptied : Emptied s i h op e) (agree : Agree g s) (p : PortId) :
    Awaits s (row s.ports p).queue e := by
  intro j mem
  obtain ⟨x, w, held, queued, work, -⟩ := agree.queue p j mem
  exact ⟨x, w, held, emptied.stands (agree.stands held (by simp [work])), work, by simp [queued]⟩

theorem Emptied.chainStands {e : State} (emptied : Emptied s i h op e) (agree : Agree g s) (lists : MemberListsOk s) (k : Initiator) :
    ChainStands s k (row s.chains k) e where
  context := by rw [emptied.chains]
  apart k' other j mem := by
    rw [emptied.chains] at mem
    intro mine
    obtain ⟨-, occupied, -⟩ := lists k'
    obtain ⟨-, occupied', -⟩ := lists k
    obtain ⟨x, held, own, -⟩ := occupied j mem
    obtain ⟨y, held', own', -⟩ := occupied' j mine
    rw [Option.some.inj (held.symm.trans held')] at own
    exact other (own.symm.trans own')
  slots j y mem held := by
    obtain ⟨-, occupied, -⟩ := lists k
    obtain ⟨x, held', -, -, work⟩ := occupied j mem
    obtain rfl : x = y := Option.some.inj (held'.symm.trans held)
    exact emptied.stands (agree.stands held work)

/-! ### What follows the emptying (R63 steps 3 and 4, R139) -/

/-- What comes after the emptying of the queue releases slots and hands messages over at most. -/
structure Follows (f t : State) : Prop where
  slots : ∀ j, KeptOrFreed j f t
  outbound : f.link.outbound <+: t.link.outbound
  chains : t.chains = f.chains
  incidents : t.events.incidents = f.events.incidents

theorem Follows.trans (st : Follows s t) (tu : Follows t u) : Follows s u where
  slots j := (st.slots j).trans (tu.slots j)
  outbound := st.outbound.trans tu.outbound
  chains := tu.chains.trans st.chains
  incidents := tu.incidents.trans st.incidents

theorem follows_refl (s : State) : Follows s s := ⟨fun _ => .inl rfl, List.prefix_rfl, rfl, rfl⟩

theorem follows_selectEvent (s : State) : Follows s (selectEvent s) where
  slots j := .of_slots_eq j (by simp)
  outbound := selectEvent_grows s List.prefix_rfl
  chains := by simp
  incidents := selectEvent_incidents s

/-- The lock record of a port with an empty queue goes, and nothing but its count with it. -/
theorem removeLock_emptied (gate : (row s.ports p).gate ≠ .pending) (empty : (row s.ports p).queue = []) :
    removeLock p false s = s ∨ ∃ l, removeLock p false s = lowerCount l.entry (unlockedPort s p l) := by
  unfold removeLock
  split
  · exact .inl rfl
  · next l _ =>
    have dropped : dropLock p l false s = lowerCount l.entry (unlockedPort s p l) := by
      rw [dropLock_eq, empty]
      rfl
    refine .inr ⟨l, ?_⟩
    rw [dropped, arbiter_nothing] <;> simp [unlockedPort, gate, empty]

theorem removeLock_follows (gate : (row s.ports p).gate ≠ .pending) (empty : (row s.ports p).queue = []) :
    Follows s (removeLock p false s) ∧ RetiresEnd s (removeLock p false s) ∧
      ∀ j y, Stands s j y → Stands (removeLock p false s) j y := by
  rcases removeLock_emptied gate empty with same | ⟨l, run⟩
  · rw [same]
    exact ⟨follows_refl s, .of_eq rfl, fun _ _ => id⟩
  · rw [run]
    refine ⟨⟨fun j => lowerCount_keptOrFreed l.entry j (unlockedPort s p l), lowerCount_grows l.entry (unlockedPort s p l) List.prefix_rfl,
      by simp [unlockedPort], by simp [unlockedPort]⟩, lowerCount_retiresEnd l.entry (unlockedPort s p l), fun j y stands => ?_⟩
    exact Stands.lowerCount (s := unlockedPort s p l) ⟨stands.held, stands.unnamed⟩ l.entry

/-- The end of the operation answers its slot (R139). -/
theorem concludeClaim_follows (stands : Stands s i (filledSlot t h (.manage op) .active false)) (up : s.link.state = .up) :
    Follows s (concludeClaim i (carriedOut s)) ∧ RetiresEnd s (concludeClaim i (carriedOut s)) ∧
      Hands s (concludeClaim i (carriedOut s)) (plainResponse h.initiator h.tag .done) := by
  have run : concludeClaim i (carriedOut s) = finishSlot i .done (selectEvent s) := rfl
  have held : row (selectEvent s).slots i = some (filledSlot t h (.manage op) .active false) := by simpa using stands.held
  have hands := finishSlot_hands held rfl rfl rfl (by simpa using up) .done
  rw [run]
  refine ⟨(follows_selectEvent s).trans ⟨fun j => finishSlot_keptOrFreed i j .done _, finishSlot_grows i .done _ List.prefix_rfl, ?_,
    by simp⟩, .trans (.of_eq (by simp)) (finishSlot_retiresEnd i .done _), ?_⟩
  · exact finishSlot_chains_lone held rfl .done
  · exact hands.since (selectEvent_grows s List.prefix_rfl)

theorem applySetPort_down (up : (row s.ports p).setting = .up) (lifetime limit : Nat) :
    applySetPort p .down lifetime limit s =
      setPortDown p (s.setPort p { row s.ports p with lockLifetime := lifetime, holdLimit := limit }) := by
  unfold applySetPort applySetting
  simp only [row_setPort, if_pos, up]

/-- The event of a SET-PORT that sets an UP port DOWN. -/
theorem exec_setPortDown {port lifetime limit : Byte}
    (named : bodyOf (manageCommand h (.setPort port 1 lifetime limit)) = some body) (arrival : Arrives body s u)
    (served : ManageServed s h) (agree : Agree .nothing s) (number : p.val = port.toNat) (positive : 0 < lifetime.toNat)
    (up : (row s.ports p).setting = .up) :
    ∃ i e t, exec (manageCommand h (.setPort port 1 lifetime limit)) s = .next t ∧
      Emptied s i h (.setPort port 1 lifetime limit) e ∧ Follows (flushQueue p (row s.ports p).queue e) t ∧
      Hands s t (plainResponse h.initiator h.tag .done) ∧
      t.ports = putRow s.ports p { row s.ports p with
        setting := .down, queue := [], lock := none, gate := gateAfterDown (row s.ports p).gate,
        lockLifetime := lifetime.toNat, holdLimit := limit.toNat } ∧
      t.line = s.line ∧ t.management.managers = s.management.managers ∧ t.acceptCounter = s.acceptCounter + 1 := by
  obtain ⟨i, v, taken, run⟩ := exec_manageCommand named arrival served
  have claim : claimOf (.setPort port 1 lifetime limit) h.initiator h.tag v = carriedOut (setPortDown p
      (v.setPort p { row v.ports p with lockLifetime := lifetime.toNat, holdLimit := limit.toNat })) := by
    rw [claimOf, claimSetPort_sets number (show settingOf 1 = some .down from rfl) positive,
      applySetPort_down (by rw [taken.ports]; exact up)]
  rw [claim] at run
  obtain ⟨⟨linkUp, -, -, keyFree, -⟩, -⟩ := served
  generalize written : v.setPort p { row v.ports p with lockLifetime := lifetime.toNat, holdLimit := limit.toNat } = v' at run
  have here : row v'.ports p = { row s.ports p with lockLifetime := lifetime.toNat, holdLimit := limit.toNat } := by
    rw [← written, row_setPort, if_pos rfl, taken.ports]
  have emptied : Emptied s i h (.setPort port 1 lifetime limit) (emptiedPort v' p) := by
    obtain ⟨free, slots, -⟩ := taken.allocated
    rw [← written]
    exact ⟨free, slots, taken.chains, taken.events, taken.outbound, taken.linkState, taken.managers, taken.retires⟩
  generalize flushed : flushQueue p (row s.ports p).queue (emptiedPort v' p) = f
  have down : setPortDown p v' = removeLock p false f := by rw [setPortDown_eq, here, flushed]
  have emptyPort : row f.ports p = { row v'.ports p with setting := .down, queue := [], gate := gateAfterDown (row v'.ports p).gate } := by
    rw [← flushed]
    simp [emptiedPort]
  have linkUp' : (removeLock p false f).link.state = .up := by rw [← flushed]; simp [emptied.linkState, linkUp]
  have own : Stands f i (filledSlot s h (.manage (.setPort port 1 lifetime limit)) .active false) := by
    rw [← flushed]
    refine (emptied.own agree keyFree).flushQueue (by simp [filledSlot]) fun queued => ?_
    obtain ⟨x, -, held, -⟩ := agree.queue p i queued
    rw [emptied.free] at held
    cases held
  obtain ⟨unlocks, ends, stand⟩ := removeLock_follows (s := f) (p := p) (by rw [emptyPort]; exact gateAfterDown_not_pending _)
    (by rw [emptyPort])
  obtain ⟨concludes, ends', hands⟩ := concludeClaim_follows (stand i _ own) linkUp'
  rw [down] at run
  have retires : RetiresEnd (emptiedPort v' p) f := by rw [← flushed]; exact flushQueue_retiresEnd p _ _
  have before : s.link.outbound <+: (removeLock p false f).link.outbound := by
    refine .trans ?_ unlocks.outbound
    rw [← flushed]
    exact flushQueue_grows p _ _ (emptied.outbound ▸ List.prefix_rfl)
  refine ⟨i, emptiedPort v' p, _, run, emptied, ?_, ?_, ?_, ?_, ?_, ?_⟩
  · rw [flushed]
    exact (unlocks.trans concludes).trans (follows_selectEvent _)
  · exact (hands.since before).until (selectEvent_grows _ List.prefix_rfl)
  · have ports := setPortDown_ports p v'
    rw [down, here] at ports
    simp only [selectEvent_frame, concludeClaim_frame, carriedOut, ports]
    rw [← written, State.setPort_ports, putRow_putRow_self, taken.ports]
  · simp only [selectEvent_frame, concludeClaim_frame, carriedOut, removeLock_frame]
    rw [← flushed, ← written]
    simp only [flushQueue_frame]
    exact taken.line
  · obtain ⟨managers, -⟩ := (retires.trans ends).trans ends'
    simp only [selectEvent_frame]
    exact managers.trans emptied.managers
  · simp only [selectEvent_frame, concludeClaim_frame, carriedOut, removeLock_frame]
    obtain ⟨-, -, counter, -⟩ := taken.allocated
    rw [← flushed, ← written]
    simp only [flushQueue_frame]
    exact counter

/-! ### The chains at the port (R99, R100, R102) -/

/-- An emptied chain is none of the queue's. -/
theorem flushQueue_settled (context : row s.chains k = d) (empty : d.members = []) (p : PortId) (l : List SlotId) :
    row (flushQueue p l s).chains k = d := by
  have chain : ChainStands s k d s := ⟨context, by simp [empty], by simp [empty]⟩
  exact (chain.flushQueue fun _ _ => by simp [empty]).context

/-- Of a chain's members only the head can stand in a queue: the others are WAITING (R98). -/
theorem MemberListsOk.head_queued {tail : List SlotId} (lists : MemberListsOk s) (agree : Agree g s)
    (members : (row s.chains k).members = i :: tail) (queued : j ∈ (row s.ports p).queue) (other : j ≠ i) :
    j ∉ (row s.chains k).members := by
  intro mem
  obtain ⟨-, -, waiting⟩ := lists k
  rw [members] at mem waiting
  obtain ⟨x, held, waits⟩ := waiting j (by simpa [other] using mem)
  obtain ⟨y, -, held', queued, -⟩ := agree.queue p j queued
  rw [Option.some.inj (held.symm.trans held'), queued] at waits
  cases waits

/-- From the state in which a head fails, its chain standing as it was, to the state after the event: slots are released and messages
handed over at most, and a chain that has no members left stands. -/
structure HeadFlushed (s t : State) (i : SlotId) (k : Initiator) (v : State) : Prop where
  chain : ChainStands s k (row s.chains k) v
  before : s.link.outbound <+: v.link.outbound
  linkState : v.link.state = s.link.state
  slots : ∀ j, KeptOrFreed j (failSlot i .portDown v) t
  outbound : (failSlot i .portDown v).link.outbound <+: t.link.outbound
  settled : ∀ d, row (failSlot i .portDown v).chains k = d → d.members = [] → row t.chains k = d

theorem HeadFlushed.hands {m : Message} (flushed : HeadFlushed s t i k v) (hands : Hands v (failSlot i .portDown v) m) : Hands s t m :=
  (hands.since flushed.before).until flushed.outbound

theorem headFlushed {e : State} {tail : List SlotId} (emptied : Emptied s j h op e) (agree : Agree g s) (lists : MemberListsOk s)
    (follows : Follows (flushQueue p (row s.ports p).queue e) t) (queued : i ∈ (row s.ports p).queue)
    (held : row s.slots i = some y) (unanswered : y.answered = false) (members : (row s.chains k).members = i :: tail) :
    ∃ v, HeadFlushed s t i k v := by
  have awaits := emptied.awaits agree p
  have nodup := agree.queueNodup p
  have alone (j : SlotId) := lists.head_queued (j := j) (p := p) agree members
  generalize (row s.ports p).queue = queue at *
  obtain ⟨before, after, rfl⟩ := List.append_of_mem queued
  obtain ⟨x, w, held', stands, work, -⟩ := awaits.rest (p := p) nodup i (by simp)
  obtain rfl : x = y := Option.some.inj (held'.symm.trans held)
  have run : flushQueue p (before ++ i :: after) e =
      flushQueue p after (failSlot i .portDown (flushQueue p before e)) := by
    rw [flushQueue_append, show i :: after = [i] ++ after from rfl, flushQueue_append, flushQueue_fails stands.held work unanswered]
  rw [run] at follows
  refine ⟨flushQueue p before e, (emptied.chainStands agree lists k).flushQueue fun j mem => ?_, ?_, by simp [emptied.linkState],
    fun j => (flushQueue_keptOrFreed p after j _).trans (follows.slots j), (flushQueue_grows p after _ List.prefix_rfl).trans follows.outbound,
    fun d context empty => by rw [follows.chains]; exact flushQueue_settled context empty p after⟩
  · refine alone j (List.mem_append_left _ mem) ?_
    rintro rfl
    exact (List.disjoint_of_nodup_append nodup) mem (by simp)
  · exact flushQueue_grows p before e (emptied.outbound ▸ List.prefix_rfl)

/-- Members of a chain, as an obligation names those that are due a plain RESPONSE. -/
theorem MemberListsOk.due (lists : MemberListsOk s) (members : ∀ j, j ∈ mids → j ∈ (row s.chains k).members)
    (plain : ∀ j, j ∈ mids → ∃ z m, row s.slots j = some z ∧ z.role = .member m ∧ z.answered = false ∧ z.suppressed = false) :
    ∀ j, j ∈ mids → ∃ z, row s.slots j = some z ∧ DueMember k z := by
  intro j mem
  obtain ⟨z, m, held, role, unanswered, unsuppressed⟩ := plain j mem
  obtain ⟨-, occupied, -⟩ := lists k
  obtain ⟨x, held', own, -⟩ := occupied j (members j mem)
  rw [Option.some.inj (held'.symm.trans held)] at own
  exact ⟨z, held, own, ⟨m, role⟩, unanswered, unsuppressed⟩

/-- A head that is a MEMBER fails, and the members behind it are swept up to a rest of the list. -/
theorem HeadFlushed.sweeps {rest : List SlotId} (flushed : HeadFlushed s t i y.initiator v) (lists : MemberListsOk s)
    (up : s.link.state = .up) (held : row s.slots i = some y) (role : y.role = .member n) (unanswered : y.answered = false)
    (unsuppressed : y.suppressed = false) (members : (row s.chains y.initiator).members = i :: (mids ++ rest))
    (plain : ∀ j, j ∈ mids → ∃ z m, row s.slots j = some z ∧ z.role = .member m ∧ z.answered = false ∧ z.suppressed = false) :
    ∃ u, failSlot i .portDown v = skipSlots rest u ∧ u.link.state = .up ∧ s.link.outbound <+: u.link.outbound ∧
      Hands s t (plainResponse y.initiator y.tag (.fault .portDown)) ∧ (∀ j, j ∈ mids → SkippedIn s t j) ∧
      row u.chains y.initiator = { failedWith n (row s.chains y.initiator) with members := rest } ∧
      ∀ j z, j ∈ rest → row s.slots j = some z → Stands u j z := by
  have list := lists y.initiator
  rw [MembersOk, members] at list
  obtain ⟨nodup, -, waits⟩ := list
  obtain ⟨u, fails, linkUp, hands, context, skipped, left⟩ := failSlot_head flushed.chain held role unanswered unsuppressed members
    (by rw [members]; exact nodup) waits (lists.due (fun j mem => by rw [members]; simp [mem]) plain) (flushed.linkState.trans up)
  have later : u.link.outbound <+: (failSlot i .portDown v).link.outbound := by
    rw [fails]
    exact skipSlots_grows rest u List.prefix_rfl
  refine ⟨u, fails, linkUp, ?_, flushed.hands (hands.until later), fun j mem => ?_, context, left⟩
  · obtain ⟨joined, outbound, -⟩ := hands
    exact flushed.before.trans ⟨joined, outbound.symm⟩
  · obtain ⟨z, -, held_j, -⟩ := plain j mem
    obtain ⟨freed, hands⟩ := skipped j z mem held_j
    refine ⟨(flushed.slots j).free ?_, fun x held_x => ?_⟩
    · rw [fails]
      exact (skipSlots_keptOrFreed rest j u).free freed
    · rw [← Option.some.inj (held_j.symm.trans held_x)]
      exact flushed.hands (hands.until later)

/-- The LAST that is left behind a failed head is answered SKIPPED with the summary, and its release closes the chain. -/
theorem HeadFlushed.skipsLast {z : Slot} {m : Nat} (flushed : HeadFlushed s t i k v) (fails : failSlot i .portDown v = skipSlots [j] u)
    (before : s.link.outbound <+: u.link.outbound) (up : u.link.state = .up) (context : row u.chains k = d) (only : d.members = [j])
    (held : row u.slots j = some z) (own : z.initiator = k) (role : z.role = .last m) (unanswered : z.answered = false)
    (unsuppressed : z.suppressed = false) :
    row t.slots j = none ∧ row t.chains k = Chain.closed ∧
      Hands s t (.response { initiator := z.initiator, tag := z.tag, answer := .skipped, partialMarker := false,
                             summary := some { count := d.count, failure := d.failure } }) := by
  subst own
  have member : inChain u j z = true := by
    rw [inChain_iff, context, only]
    simp [role]
  obtain ⟨hands, closed⟩ := finishSlot_last (a := .skipped) held role member unanswered unsuppressed up (by simp)
    ((congrArg (fun v : State => row v.chains z.initiator) (reportToChain_success (by simp))).trans context)
  have fails : failSlot i .portDown v = finishSlot j .skipped u := fails
  refine ⟨(flushed.slots j).free ?_, flushed.settled _ ?_ rfl, (hands.since before).until ?_⟩
  · rw [fails]; exact finishSlot_frees j .skipped u
  · rw [fails]; exact closed
  · rw [← fails]; exact flushed.outbound

/-- Settles O26: the queue is emptied slot by slot, and the head of a chain takes its members with it. -/
theorem setPortDownEmptiesThePort : Obligations.SetPortDownEmptiesThePort := by
  unfold Obligations.SetPortDownEmptiesThePort
  rintro h port lifetime limit p x body s u named arrival served ok number positive rfl setting
  have agree := (agree_nothing_iff s).mpr ok
  obtain ⟨i₀, e, t, run, emptied, follows, done, ports, line, managers, counter⟩ :=
    exec_setPortDown named arrival served agree number positive setting
  obtain ⟨⟨up, -⟩, -⟩ := served
  have awaits := emptied.awaits agree p
  have nodup := agree.queueNodup p
  have before : s.link.outbound <+: e.link.outbound := by rw [emptied.outbound]
  refine ⟨t, run, done, ?_, fun i mem => (follows.slots i).free (flushQueue_frees awaits nodup mem),
    fun i y mem held unanswered unsuppressed lone => ?_, ?_, ?_, line, managers, counter⟩
  · rw [ports]
    cases (row s.ports p).gate <;> rfl
  · exact ((flushQueue_hands awaits nodup mem held unanswered unsuppressed lone (emptied.linkState.trans up)).since before).until
      follows.outbound
  · rw [follows.incidents, flushQueue_incidents awaits nodup, emptied.events]
  · rintro i y n mids c f lists mem held unanswered unsuppressed rfl rfl plain
    have flushes {tail : List SlotId} (members : (row s.chains y.initiator).members = i :: tail) :=
      headFlushed emptied agree lists follows mem held unanswered members
    refine ⟨fun role members => ?_, fun l z m role members held_l role_l unanswered_l unsuppressed_l => ?_, fun role members => ?_⟩
    · obtain ⟨v, flushed⟩ := flushes members
      obtain ⟨u, fails, -, -, answered, skipped, context, -⟩ := flushed.sweeps (rest := []) lists up held role unanswered unsuppressed
        (by rw [List.append_nil]; exact members) plain
      exact ⟨answered, skipped, flushed.settled _ (by rw [fails]; exact context) rfl⟩
    · obtain ⟨v, flushed⟩ := flushes members
      obtain ⟨u, fails, linkUp, before, answered, skipped, context, left⟩ := flushed.sweeps lists up held role unanswered unsuppressed
        members plain
      obtain ⟨-, occupied, -⟩ := lists y.initiator
      obtain ⟨z', held', own, -⟩ := occupied l (by rw [members]; simp)
      obtain rfl : z = z' := Option.some.inj (held_l.symm.trans held')
      obtain ⟨freed, closed, last⟩ := flushed.skipsLast fails before linkUp context rfl (left l z (by simp) held_l).held own role_l
        unanswered_l unsuppressed_l
      exact ⟨answered, skipped, freed, last, closed⟩
    · obtain ⟨v, flushed⟩ := flushes members
      obtain ⟨hands, closed⟩ := failSlot_last flushed.chain held role unanswered unsuppressed (by rw [members]; simp)
        (flushed.linkState.trans up)
      exact ⟨flushed.hands hands, flushed.settled _ closed rfl⟩

end

end Sys2Proof.Machine
end
